-- ==== Sys2Proof/Word.lean ====
section
/-! DEFINITION. The word of the machine (spec/00 R8) and its byte. -/
namespace Sys2Proof

/-- The native word: registers, waybills and manifests are made of 16-bit words (R8). -/
abbrev Word := BitVec 16

/-- A byte, as words are stored little-endian (R8). -/
abbrev Byte := BitVec 8

end Sys2Proof
end

