-- ==== Sys2Proof/Operands.lean ====
section
/-! DEFINITION. The operand forms of the commands. -/
namespace Sys2Proof

/-- The head of a waybill whose operation runs: ring (Table 14-7), slot in the ring, TAG and FLAGS (R359, R360).
The parameters P0 onwards stand beside it. -/
structure WbHead where
  ring : Nat
  slot : Nat
  tag : Word
  flags : Nat
  deriving DecidableEq, Repr

/-- What the largest cell of a search shows for one PRN (R218): peak-to-noise in 0.1 dB, Doppler from the search centre in 0.1 Hz, code phase in
2^-10 chip, C/N0 in 0.1 dB-Hz. -/
structure AcqCell where
  peak : Nat
  doppler : Int
  code : Nat
  cn0 : Nat
  deriving DecidableEq, Repr

/-- The observables of a channel at an epoch: the sixteen words of GNSS_OBSREAD after STAT, and the Doppler of signal A in 0.01 Hz. -/
structure GnssObs where
  ch : Nat
  words : List Word
  doppler : Int
  deriving DecidableEq, Repr

/-- A broadcast week number as its message gives it: the value, the width of its field in bits, and whether it counts Galileo weeks (R229). -/
structure WeekNo where
  value : Nat
  bits : Nat
  gal : Bool
  deriving DecidableEq, Repr

/-- What MGMT firmware computes at an epoch from the raw observables (R226, R227): channels used, RMS residual (0.1 ns), a satellite excluded, the week
number last broadcast (none where none has been decoded), the GPS time of the epoch in its week (2^-48 ns) before the port B correction, formal sigma
of the clock term (0.1 ns), modelled ionospheric and tropospheric delay (0.1 ns), position sigma (cm). -/
structure GnssFix where
  used : List Nat
  rms : Nat
  excluded : Bool
  week : Option WeekNo
  tow : Nat
  sigma : Nat
  iono : Nat
  tropo : Nat
  posSigma : Nat
  deriving DecidableEq, Repr

/-- How a direct write reaches HIF (R384, R386): a whole word; over PCIe with one byte enabled; over PCIe poisoned. -/
inductive BusWrite | whole | oneByte | poisoned
  deriving DecidableEq, Repr

/-- What happens to the PCIe link (R400): it goes down; it goes down with an uncorrectable error that AER reports; AER reports one and it stays up. -/
inductive LinkEvent | down | downAer | aer
  deriving DecidableEq, Repr

/-- A leap announcement of the GPS UTC parameters (R229): Δt_LS and Δt_LSF in s, and the week and the day in it, 1 to 7, at whose end the leap comes. -/
structure LeapAnn where
  dtls : Nat
  dtlsf : Nat
  week : WeekNo
  day : Nat
  deriving DecidableEq, Repr

/-- A line of a spectrum (R223): the interferer, its frequency from the band centre in Hz, its height above the median in 0.5 dB. -/
structure SpecLine where
  line : Nat
  hz : Int
  level : Nat
  deriving DecidableEq, Repr

/-- Where a reference point lies on a lane (R247): its word and its bit, as the PCS reports them. -/
structure MeterPoint where
  word : Nat
  bit : Nat
  deriving DecidableEq, Repr

/-- The convoy period of a port in unit intervals of its lane (R267): its first one and the first one after it; and the one, if any, from which a
crossing lies within 2 µs before an accepted step whose time is not yet announced (R272). -/
structure ConvoyPlan where
  port : Nat
  first : Nat
  last : Nat
  near : Option Nat
  deriving DecidableEq, Repr

/-- What MTS predicts for a lane's transmit buffer after an event (R237): the next two rate-match events, each with its unit interval and whether it
inserts, and the unit interval of the next alignment marker of a 100GBASE-R port. -/
structure RatePlan where
  events : List (Nat × Bool)
  marker : Option Nat
  deriving DecidableEq, Repr

/-- The lookup key of a request (R261): port group, VID, 0 IPv4 / 1 IPv6 / 2 MAC, source address in the format of PKT_ADDR0_IP. -/
structure Key where
  group : Nat
  vid : Nat
  atype : Nat
  addr : Nat
  deriving DecidableEq, Repr

/-- What AUTH needs of an NTS request (Table 11-5): NTP payload bytes, the bodies of the Unique Identifiers, cookies as bytes, lengths of the
placeholders, Authenticators as nonce and ciphertext, and the bytes from the start of the NTP header to the Authenticator. -/
structure NtsFields where
  payload : Nat
  uids : List (List Nat)
  cookies : List (List Nat)
  places : List Nat
  auths : List (List Nat × List Nat)
  data : List Nat
  deriving DecidableEq, Repr

/-- What follows the 48-byte NTP header: nothing, a key ID with a MAC over the header's bytes, NTS fields, or anything else. -/
inductive NtpExt
  | none
  | mac (keyId : Nat) (data mac : List Nat)
  | nts (f : NtsFields)
  | other
  deriving DecidableEq, Repr

/-- An NTP request: version, mode, poll, transmit and origin timestamps, what follows. -/
structure NtpReq where
  vn : Nat
  mode : Nat
  poll : Nat
  xmt : Nat
  org : Nat
  ext : NtpExt
  deriving DecidableEq, Repr

/-- The Annex P TLV of a received PTP message: absent, malformed or with a non-zero secParamIndicator, or SPP, key ID, protected bytes and ICV. -/
inductive PtpAuth
  | absent
  | malformed
  | tlv (spp keyId : Nat) (data icv : List Nat)
  deriving DecidableEq, Repr

/-- The dataset of an Announce, and the total of a Thrumver TLV it carries, ps. -/
structure Announce where
  prio1 : Nat
  cls : Nat
  accuracy : Nat
  variance : Nat
  prio2 : Nat
  gm : Nat
  steps : Nat
  bound : Option Nat
  deriving DecidableEq, Repr

/-- A TLV of unicast negotiation: a request, a cancel, a grant or an acknowledgement; the message type is the messageType of Announce (11), Sync
(0) or Delay_Resp (9). -/
inductive SigTlv
  | request (type : Nat) (log : Int) (dur : Nat)
  | cancel (type : Nat)
  | grant (type : Nat) (log : Int) (dur : Nat)
  | ackCancel (type : Nat)
  deriving DecidableEq, Repr

/-- The body of a PTP message; times are originTimestamp (or receiveTimestamp) with correctionField applied, in 2^-48 ns.  A Delay_Resp names the
port that asked: its clockIdentity and port number. -/
inductive PtpBody
  | delayReq
  | pdelayReq
  | sync (origin : Nat) (twoStep : Bool)
  | followUp (origin : Nat)
  | delayResp (rx id port : Nat)
  | announce (a : Announce)
  | signaling (tlvs : List SigTlv)
  | other
  deriving DecidableEq, Repr

/-- A PTP message: domain, sender's clockIdentity and port number, sequence, sent by unicast, its correctionField (2^-16 ns), its authentication, its
body, and the total of the Thrumver TLV of a Sync, Follow_Up or Delay_Resp, in ps. -/
structure PtpMsg where
  domain : Nat
  sender : Nat
  senderPort : Nat
  seq : Nat
  unicast : Bool
  corr : Int
  auth : PtpAuth
  body : PtpBody
  bound : Option Nat
  deriving DecidableEq, Repr

/-- The network layer of a frame: IP (version 6, source, destination, no options or extension headers, UDP destination port), EtherType 0x88F7
with the source MAC address, or anything else. -/
inductive NetLayer
  | ip (v6 : Bool) (src dst : Nat) (plain : Bool) (udp : Option Nat)
  | ptp (src : Nat)
  | other
  deriving DecidableEq, Repr

/-- What a frame carries, as PKT's classifier reads it. -/
inductive Payload
  | ntp (r : NtpReq)
  | ptp (m : PtpMsg)
  | raw
  deriving DecidableEq, Repr

/-- A received frame: bytes, destination MAC address, destination is a PTP multicast address, VIDs of its 802.1Q tags, layers. -/
structure Frame where
  len : Nat
  dmac : Nat
  mcast : Bool
  tags : List Nat
  net : NetLayer
  body : Payload
  deriving DecidableEq, Repr

/-- A heartbeat as decoded (Table 18-6). -/
structure Heartbeat where
  unit : Nat
  role : Nat
  ready : Bool
  handover : Bool
  ack : Bool
  claim : Nat
  seq : Nat
  /-- The partner's measured transmit stamp of its previous heartbeat and its receive stamp of our latest, 2^-48 ns; none where the partner made
  no stamp. -/
  tx : Option Nat
  rx : Option Nat
  bound : Nat
  h : Nat
  deriving DecidableEq, Repr

/-- What a start step shows when it ends (Table 2-6): its duration in ms (R74); that it reports an error (R69); the outage in whole
seconds (R68) and what AON has counted since it took the time, 2^-48 ns; AOSC_IN shows activity; the die temperature; the hits of the 64
interpolators, and of the second calibration of those that failed (R197, R198); the channels whose stored trims pass, as a map (R339); the ages of the stored ephemeris and almanac
at this start; the key slots whose records have come to fail in both copies (R314). -/
structure StepDone where
  ms : Nat
  err : Bool
  outage : Nat
  aon : Nat
  aosc : Bool
  tj : Int
  hits : List (List Nat)
  again : List (List Nat)
  trims : Nat
  ephAge : Nat
  almAge : Nat
  badKeys : List Nat
  deriving DecidableEq, Repr

end Sys2Proof
end

