-- ==== Sys2Proof/Syntax.lean ====
section
/-! DEFINITION. The commands of the LN7400: one constructor for each row of spec/opcode_table.json. -/
namespace Sys2Proof

/-- The commands, in the table's order; each docstring is the row's rule and mnemonic. -/
inductive Instr
  /-- VIN_WARNING_CROSSING (R55). -/
  | vinWarningCrossing
  /-- VIN_RECOVERY (R56). -/
  | vinRecovery
  /-- VIN_RESET_CROSSING (R54). -/
  | vinResetCrossing
  /-- VIN_RISE_START (R54). -/
  | vinRiseStart
  /-- VIN_STABLE (R52). -/
  | vinStable
  /-- VBAT_LOW (R54). -/
  | vbatLow
  /-- VBAT_VALID (R54). -/
  | vbatValid
  /-- RST_N_ASSERT (R58). -/
  | rstNAssert
  /-- RST_N_RESET_TIMEOUT (R58). -/
  | rstNResetTimeout
  /-- RAIL_FAULT (R53). -/
  | railFault
  /-- POWER_STAGE_OVERTEMP (R53). -/
  | powerStageOvertemp
  /-- RAIL_EXCURSION_END (R53). -/
  | railExcursionEnd (temp : Bool)
  /-- CHECKPOINT_COMPLETE (R59). -/
  | checkpointComplete (ok : Bool) (us : Nat)
  /-- START_STEP_COMPLETE (R65). -/
  | startStepComplete (n : Nat) (x : StepDone)
  /-- START_STEP_TIMEOUT (R69). -/
  | startStepTimeout
  /-- START_RETRY (R70). -/
  | startRetry
  /-- DEFERRED_RESET (R72). -/
  | deferredReset
  /-- AON_RING_CHECK (R63). -/
  | aonRingCheck (aosc xtal vbat : Bool) (t : Nat)
  /-- BEACON_SEND (R23). -/
  | beaconSend
  /-- BEACON_RECEIVE (R25). -/
  | beaconReceive (i cycles : Nat)
  /-- BEACON_LOSS (R27). -/
  | beaconLoss (i : Nat)
  /-- STEP_BEACON_APPLY (R26). -/
  | stepBeaconApply (i : Nat)
  /-- PCS_DELIMITER_REPORT (R31). -/
  | pcsDelimiterReport (id pos : Nat)
  /-- FCS_RELEASE (R36). -/
  | fcsRelease (id : Nat)
  /-- LOCKED_SLOT_COMMIT (R39). -/
  | lockedSlotCommit (id pos : Nat)
  /-- LOCKED_SLOT_TIMEOUT (R39). -/
  | lockedSlotTimeout (id : Nat)
  /-- SPECULATION_TIMEOUT (R41). -/
  | speculationTimeout (id : Nat)
  /-- MGMT_AUDIT (R45). -/
  | mgmtAudit
  /-- REF_EDGE (R80). -/
  | refEdge (n tick c : Nat)
  /-- REF_ACTIVITY_LOSS (R80). -/
  | refActivityLoss (n : Nat)
  /-- DPLL_TICK (R111). -/
  | dpllTick (miss : List Nat)
  /-- QUAL_TIMER_EXPIRY (R90). -/
  | qualTimerExpiry (n : Nat)
  /-- RMON_SLOPE_FIT (R91). -/
  | rmonSlopeFit
  /-- WITNESS_PHASE_RETURN (R86). -/
  | witnessPhaseReturn
  /-- VOTE_EXPIRY (R100). -/
  | voteExpiry
  /-- SLEW_COMPLETE (R115). -/
  | slewComplete
  /-- PHLOCK_TIMER (R132). -/
  | phlockTimer
  /-- APLL_LOCK_WINDOW (R124). -/
  | apllLockWindow (p count lost : Nat)
  /-- APLL_REF_LOSS (R124). -/
  | apllRefLoss (p lost : Nat)
  /-- EBND_ASYNC_REPUBLISH (R348). -/
  | ebndAsyncRepublish
  /-- APLL_RETURN_EXPIRY (R125). -/
  | apllReturnExpiry (p lost : Nat)
  /-- APLL_OUT_SQUELCH_CLEAR (R128). -/
  | apllOutSquelchClear
  /-- AOSC_RETURN (R127). -/
  | aoscReturn
  /-- CRYSTAL_STOP (R129). -/
  | crystalStop
  /-- HOLD_SECOND (R139). -/
  | holdSecond (aosc xtal : Option Int) (tj : Int)
  /-- HOLD_MODEL_TRAIN (R146). -/
  | holdModelTrain
  /-- TRAINAGE_24H (R147). -/
  | trainage24h
  /-- AOSC_STEER (R149). -/
  | aoscSteer
  /-- AOSC_STEER_COMP (R150). -/
  | aoscSteerComp
  /-- AOSC_ACK_RECEIVE (R148). -/
  | aoscAckReceive (byte : Nat)
  /-- AOSC_ACK_TIMEOUT (R148). -/
  | aoscAckTimeout
  /-- HOLD_CONTRACT_EXPIRY (R159). -/
  | holdContractExpiry
  /-- TCORE_TICK (R165). -/
  | tcoreTick
  /-- LEAP_APPLY (R175). -/
  | leapApply
  /-- PPS_EDGE (R178). -/
  | ppsEdge
  /-- CLKOUT_ALIGN_CHECK (R180). -/
  | clkoutAlignCheck (n : Nat) (ps : Int)
  /-- EVT_ARM (R184). -/
  | evtArm (n : Nat)
  /-- EVT_EDGE (R183). -/
  | evtEdge (n : Nat)
  /-- CAP_EDGE (R186). -/
  | capEdge (n : Nat) (rise : Bool) (tick c : Nat)
  /-- TIME_LOAD (R169). -/
  | timeLoad
  /-- SETTIME_EDGE_TIMEOUT (R169). -/
  | settimeEdgeTimeout
  /-- AUTHSTEP_APPLY (R171). -/
  | authstepApply
  /-- TIC_EDGE (R193). -/
  | ticEdge (ch : Nat) (rise : Bool) (tick c : Nat)
  /-- TIC_STOP_DECIDE (R202). -/
  | ticStopDecide (u : Nat)
  /-- TIC_GATE_CLOSE (R204). -/
  | ticGateClose (u : Nat)
  /-- STATRUN_TIMEOUT (R207). -/
  | statrunTimeout (u : Nat)
  /-- TIC_CAL_TEMP_TRIGGER (R198). -/
  | ticCalTempTrigger (tj : Int)
  /-- TIC_CAL_COMPLETE (R198). -/
  | ticCalComplete (hits again : List (List Nat))
  /-- TIC_CAL_SWAP (R198). -/
  | ticCalSwap
  /-- XTAL_WITNESS (R200). -/
  | xtalWitness (y : Int)
  /-- XTAL_TRIM (R201). -/
  | xtalTrim
  /-- GNSS_EPOCH (R216). -/
  | gnssEpoch (t : Nat) (obs : List GnssObs) (fix : Option GnssFix)
  /-- GNSS_ELASTIC_SLIP (R213). -/
  | gnssElasticSlip (fill : Nat)
  /-- GNSS_PORT_CLOCK_LOSS (R214). -/
  | gnssPortClockLoss (portB : Bool)
  /-- GNSS_PORT_CLOCK_RETURN (R214). -/
  | gnssPortClockReturn (portB : Bool) (ephAge almAge : Nat)
  /-- PRN_SEARCH_DONE (R219). -/
  | prnSearchDone (x : AcqCell)
  /-- GNSS_CHANNEL_LOCK (R221). -/
  | gnssChannelLock (c : Nat)
  /-- GNSS_NAV_SYNC (R221). -/
  | gnssNavSync (c : Nat)
  /-- GNSS_PULLIN_TIMEOUT (R221). -/
  | gnssPullinTimeout (c : Nat)
  /-- GNSS_LOSS_OF_LOCK (R221). -/
  | gnssLossOfLock (c : Nat)
  /-- GNSS_REACQ_TIMEOUT (R221). -/
  | gnssReacqTimeout (c : Nat)
  /-- SIGNAL_B_HANDOVER (R222). -/
  | signalBHandover (c : Nat) (locked : Bool)
  /-- GNSS_SPECTRUM (R223). -/
  | gnssSpectrum (band : Nat) (pre : List Nat) (post : Nat) (lines : List SpecLine)
  /-- NAV_UNIT_DECODED (R225). -/
  | navUnitDecoded (c : Nat) (sigB : Bool) (words : List Word) (leap : Option LeapAnn)
  /-- SURVEY_COMPLETE (R228). -/
  | surveyComplete (x y z : Int)
  /-- LANE_LOSS (R241). -/
  | laneLoss (n det bad : Nat)
  /-- LANE_DETECTOR_RESTORE (R242). -/
  | laneDetectorRestore (n det bad : Nat) (arrivals : List Nat)
  /-- DESKEW_TIMEOUT (R240). -/
  | deskewTimeout (p : Nat)
  /-- PLINK_BIT_SLIP (R240). -/
  | plinkBitSlip (n bad : Nat)
  /-- PLINK_LOCK_TIMEOUT (R240). -/
  | plinkLockTimeout (n : Nat)
  /-- RATE_MATCH_EVENT (R236). -/
  | rateMatchEvent (n pos fill : Nat) (marker : Option Nat)
  /-- RATE_MATCH_UNSCHEDULED (R238). -/
  | rateMatchUnscheduled (n pos fill : Nat) (marker : Option Nat)
  /-- METER_LOCK (R246). -/
  | meterLock (n : Nat) (rx : Bool) (word time period resid : Nat)
  /-- METER_UNLOCK (R246). -/
  | meterUnlock (n : Nat) (rx : Bool) (resid : Nat)
  /-- FEC_SECOND (R255). -/
  | fecSecond (n corr unc : Nat)
  /-- FRAME_RECEIVE (R257). -/
  | frameReceive (p : Nat) (f : Frame) (m : MeterPoint) (busy : Bool)
  /-- CTAB_DECISION_RETURN (R264). -/
  | ctabDecisionReturn (id : Nat)
  /-- AUTH_VERDICT_RETURN (R262). -/
  | authVerdictReturn (id : Nat)
  /-- REQUEST_TIMEOUT (R263). -/
  | requestTimeout (id : Nat)
  /-- CONVOY_CLOSE (R267). -/
  | convoyClose (plans : List ConvoyPlan)
  /-- PTP_SCHEDULED_MESSAGE (R280). -/
  | ptpScheduledMessage (g type : Nat)
  /-- GRANT_STREAM_MESSAGE (R284). -/
  | grantStreamMessage (n type : Nat)
  /-- GRANT_EXPIRY (R284). -/
  | grantExpiry (n type : Nat)
  /-- SLAVE_SYNC_MEASUREMENT (R285). -/
  | slaveSyncMeasurement (g : Nat)
  /-- SLAVE_DELAY_REQ_SEND (R285). -/
  | slaveDelayReqSend (g : Nat)
  /-- SLAVE_GRANT_RENEW (R285). -/
  | slaveGrantRenew (g : Nat)
  /-- SLAVE_ANNOUNCE_TIMEOUT (R286). -/
  | slaveAnnounceTimeout (g : Nat)
  /-- SLAVE_SYNC_TIMEOUT (R286). -/
  | slaveSyncTimeout (g : Nat)
  /-- SVCHOLD_EXPIRY (R287). -/
  | svcholdExpiry
  /-- MISS_SECOND (R276). -/
  | missSecond
  /-- AUTH_VERIFY_JOB (R302). -/
  | authVerifyJob
  /-- AUTH_TAG_JOB (R303). -/
  | authTagJob
  /-- AUTH_TAG_LATE (R297). -/
  | authTagLate (id : Nat)
  /-- AUTH_CANCEL (R298). -/
  | authCancel (id : Nat)
  /-- AUTH_FAIL_SECOND (R309). -/
  | authFailSecond
  /-- DRBG_RESEED (R315). -/
  | drbgReseed (ok : Bool)
  /-- KEY_STATE_EFFECT (R313). -/
  | keyStateEffect
  /-- ZEROISE_COMPLETE (R313). -/
  | zeroiseComplete (n : Nat)
  /-- KEYSTORE_ECC_ERROR (R313). -/
  | keystoreEccError (n : Nat) (double : Bool)
  /-- ROTATION_ACTIVATE (R316). -/
  | rotationActivate (n : Nat)
  /-- ROTATION_RETIRE (R316). -/
  | rotationRetire (n : Nat)
  /-- MINT_STAGE_EXPIRY (R305). -/
  | mintStageExpiry (n : Nat)
  /-- LOOKUP_DECIDE (R331). -/
  | lookupDecide (id : Nat) (held : Bool)
  /-- CTAB_COMMIT (R332). -/
  | ctabCommit (held : Bool)
  /-- LEASE_RELEASE (R328). -/
  | leaseRelease (n : Nat)
  /-- LEASE_EXPIRY (R329). -/
  | leaseExpiry (n : Nat)
  /-- LEASE_REREAD (R329). -/
  | leaseReread (n : Nat) (ecc : Bool)
  /-- FORCED_RELEASE (R329). -/
  | forcedRelease
  /-- PATROL_SCRUB (R321). -/
  | patrolScrub (n : Nat)
  /-- ECC_UNCORRECTABLE (R321). -/
  | eccUncorrectable (a : Nat)
  /-- INDEX_REBUILD_DONE (R326). -/
  | indexRebuildDone
  /-- LOAD_RECORD_APPLY (R335). -/
  | loadRecordApply (held : Bool)
  /-- DQS_TRACK (R339). -/
  | dqsTrack
  /-- ZQ_RECAL (R339). -/
  | zqRecal
  /-- WAYBILL_TAKE (R369). -/
  | waybillTake (ring : Nat) (words : List Word)
  /-- WAYBILL_START (R370). -/
  | waybillStart (ring slot : Nat)
  /-- SEQ_RESTART (R78). -/
  | seqRestart (h : WbHead) (ps : List Word)
  /-- SEQ_CHECKPOINT (R61). -/
  | seqCheckpoint (h : WbHead) (ps : List Word)
  /-- SEQ_SAFECLEAR (R72). -/
  | seqSafeclear (h : WbHead) (ps : List Word)
  /-- SEQ_CFGSAVE (R79). -/
  | seqCfgsave (h : WbHead) (ps : List Word)
  /-- SEQ_STARTREPORT (R78). -/
  | seqStartreport (h : WbHead) (ps : List Word)
  /-- PSU_READ (R78). -/
  | psuRead (h : WbHead) (ps : List Word)
  /-- RMON_REFCFG (R107). -/
  | rmonRefcfg (h : WbHead) (ps : List Word)
  /-- RMON_STATUS (R107). -/
  | rmonStatus (h : WbHead) (ps : List Word)
  /-- RMON_REQUAL (R107). -/
  | rmonRequal (h : WbHead) (ps : List Word)
  /-- RMON_HISTORY (R107). -/
  | rmonHistory (h : WbHead) (ps : List Word)
  /-- DPLL_LOOPCFG (R136). -/
  | dpllLoopcfg (h : WbHead) (ps : List Word)
  /-- DPLL_OPEN (R120). -/
  | dpllOpen (h : WbHead) (ps : List Word)
  /-- DPLL_CLOSE (R120). -/
  | dpllClose (h : WbHead) (ps : List Word)
  /-- DPLL_SETFREQ (R119). -/
  | dpllSetfreq (h : WbHead) (ps : List Word)
  /-- DPLL_LOOPREPORT (R136). -/
  | dpllLoopreport (h : WbHead) (ps : List Word)
  /-- DPLL_PHLOG (R136). -/
  | dpllPhlog (h : WbHead) (ps : List Word)
  /-- DPLL_SELECT (R96). -/
  | dpllSelect (h : WbHead) (ps : List Word)
  /-- DPLL_RESOLVE (R99). -/
  | dpllResolve (h : WbHead) (ps : List Word)
  /-- DPLL_SELREPORT (R107). -/
  | dpllSelreport (h : WbHead) (ps : List Word)
  /-- HOLD_CFG (R163). -/
  | holdCfg (h : WbHead) (ps : List Word)
  /-- HOLD_MEMBERCFG (R163). -/
  | holdMembercfg (h : WbHead) (ps : List Word)
  /-- HOLD_AOSCCFG (R163). -/
  | holdAosccfg (h : WbHead) (ps : List Word)
  /-- HOLD_MODELREPORT (R163). -/
  | holdModelreport (h : WbHead) (ps : List Word)
  /-- HOLD_RETRAIN (R147). -/
  | holdRetrain (h : WbHead) (ps : List Word)
  /-- APLL_CFG (R136). -/
  | apllCfg (h : WbHead) (ps : List Word)
  /-- APLL_RELOCK (R136). -/
  | apllRelock (h : WbHead) (ps : List Word)
  /-- APLL_SPURSCAN (R130). -/
  | apllSpurscan (h : WbHead) (ps : List Word)
  /-- APLL_REPORT (R136). -/
  | apllReport (h : WbHead) (ps : List Word)
  /-- TBASE_SETTIME (R169). -/
  | tbaseSettime (h : WbHead) (ps : List Word)
  /-- TBASE_AUTHSTEP (R171). -/
  | tbaseAuthstep (h : WbHead) (ps : List Word)
  /-- TBASE_LEAPCFG (R175). -/
  | tbaseLeapcfg (h : WbHead) (ps : List Word)
  /-- TBASE_EVTSCHED (R183). -/
  | tbaseEvtsched (h : WbHead) (ps : List Word)
  /-- TBASE_EVTCANCEL (R190). -/
  | tbaseEvtcancel (h : WbHead) (ps : List Word)
  /-- TBASE_CAPREAD (R190). -/
  | tbaseCapread (h : WbHead) (ps : List Word)
  /-- TBASE_REPORT (R190). -/
  | tbaseReport (h : WbHead) (ps : List Word)
  /-- TIC_CFG (R210). -/
  | ticCfg (h : WbHead) (ps : List Word)
  /-- TIC_CHCFG (R210). -/
  | ticChcfg (h : WbHead) (ps : List Word)
  /-- TIC_MEASCFG (R210). -/
  | ticMeascfg (h : WbHead) (ps : List Word)
  /-- TIC_STATRUN (R207). -/
  | ticStatrun (h : WbHead) (ps : List Word)
  /-- TIC_STATSTOP (R207). -/
  | ticStatstop (h : WbHead) (ps : List Word)
  /-- TIC_STAMPREAD (R210). -/
  | ticStampread (h : WbHead) (ps : List Word)
  /-- TIC_CALRUN (R198). -/
  | ticCalrun (h : WbHead) (ps : List Word)
  /-- TIC_CALREPORT (R210). -/
  | ticCalreport (h : WbHead) (ps : List Word)
  /-- TIC_XTALREPORT (R210). -/
  | ticXtalreport (h : WbHead) (ps : List Word)
  /-- GNSS_CFG (R233). -/
  | gnssCfg (h : WbHead) (ps : List Word)
  /-- GNSS_ACQUIRE (R219). -/
  | gnssAcquire (h : WbHead) (ps : List Word)
  /-- GNSS_ACQSTOP (R219). -/
  | gnssAcqstop (h : WbHead) (ps : List Word)
  /-- GNSS_POSCFG (R233). -/
  | gnssPoscfg (h : WbHead) (ps : List Word)
  /-- GNSS_OBSREAD (R233). -/
  | gnssObsread (h : WbHead) (ps : List Word)
  /-- GNSS_NAVREAD (R233). -/
  | gnssNavread (h : WbHead) (ps : List Word)
  /-- GNSS_NFCAL (R224). -/
  | gnssNfcal (h : WbHead) (ps : List Word)
  /-- GNSS_NOTCHCFG (R233). -/
  | gnssNotchcfg (h : WbHead) (ps : List Word)
  /-- GNSS_REPORT (R233). -/
  | gnssReport (h : WbHead) (ps : List Word)
  /-- LANE_MODESET (R235). -/
  | laneModeset (h : WbHead) (ps : List Word)
  /-- LANE_LANECFG (R256). -/
  | laneLanecfg (h : WbHead) (ps : List Word)
  /-- LANE_RESTART (R256). -/
  | laneRestart (h : WbHead) (ps : List Word)
  /-- LANE_REPORT (R256). -/
  | laneReport (h : WbHead) (ps : List Word)
  /-- MTS_CFG (R256). -/
  | mtsCfg (h : WbHead) (ps : List Word)
  /-- MTS_LANECFG (R248). -/
  | mtsLanecfg (h : WbHead) (ps : List Word)
  /-- MTS_METERREPORT (R256). -/
  | mtsMeterreport (h : WbHead) (ps : List Word)
  /-- PKT_CFG (R292). -/
  | pktCfg (h : WbHead) (ps : List Word)
  /-- PKT_LIMITCFG (R292). -/
  | pktLimitcfg (h : WbHead) (ps : List Word)
  /-- PKT_ADDRCFG (R292). -/
  | pktAddrcfg (h : WbHead) (ps : List Word)
  /-- PKT_PORTCFG (R292). -/
  | pktPortcfg (h : WbHead) (ps : List Word)
  /-- PKT_PTPCFG (R284). -/
  | pktPtpcfg (h : WbHead) (ps : List Word)
  /-- PKT_SLAVECFG (R292). -/
  | pktSlavecfg (h : WbHead) (ps : List Word)
  /-- PKT_REFIDCFG (R292). -/
  | pktRefidcfg (h : WbHead) (ps : List Word)
  /-- PKT_COUNTREPORT (R292). -/
  | pktCountreport (h : WbHead) (ps : List Word)
  /-- PKT_STAMPREPORT (R292). -/
  | pktStampreport (h : WbHead) (ps : List Word)
  /-- PKT_SLAVEREPORT (R292). -/
  | pktSlavereport (h : WbHead) (ps : List Word)
  /-- PKT_GRANTCLEAR (R284). -/
  | pktGrantclear (h : WbHead) (ps : List Word)
  /-- PKT_SVCREPORT (R292). -/
  | pktSvcreport (h : WbHead) (ps : List Word)
  /-- AUTH_CFG (R319). -/
  | authCfg (h : WbHead) (ps : List Word)
  /-- AUTH_KEYLOAD (R311). -/
  | authKeyload (h : WbHead) (ps : List Word)
  /-- AUTH_KEYSTATE (R312). -/
  | authKeystate (h : WbHead) (ps : List Word)
  /-- AUTH_ZEROISE (R313). -/
  | authZeroise (h : WbHead) (ps : List Word)
  /-- AUTH_ROTATE (R316). -/
  | authRotate (h : WbHead) (ps : List Word)
  /-- AUTH_ROTSTOP (R316). -/
  | authRotstop (h : WbHead) (ps : List Word)
  /-- AUTH_COOKIEMINT (R304). -/
  | authCookiemint (h : WbHead) (ps : List Word)
  /-- AUTH_KEYREPORT (R319). -/
  | authKeyreport (h : WbHead) (ps : List Word)
  /-- AUTH_COUNTREPORT (R319). -/
  | authCountreport (h : WbHead) (ps : List Word)
  /-- AUTH_SELFTEST (R319). -/
  | authSelftest (h : WbHead) (ps : List Word)
  /-- AUTH_MINTSTAGE (R305). -/
  | authMintstage (h : WbHead) (ps : List Word)
  /-- CTAB_CFG (R342). -/
  | ctabCfg (h : WbHead) (ps : List Word)
  /-- CTAB_LOAD (R336). -/
  | ctabLoad (h : WbHead) (ps : List Word)
  /-- CTAB_SWEEP (R337). -/
  | ctabSweep (h : WbHead) (ps : List Word)
  /-- CTAB_DUMP (R338). -/
  | ctabDump (h : WbHead) (ps : List Word)
  /-- CTAB_ENTRYREAD (R342). -/
  | ctabEntryread (h : WbHead) (ps : List Word)
  /-- CTAB_LOOKUP (R342). -/
  | ctabLookup (h : WbHead) (ps : List Word)
  /-- CTAB_MEMREPORT (R342). -/
  | ctabMemreport (h : WbHead) (ps : List Word)
  /-- EBND_CFG (R358). -/
  | ebndCfg (h : WbHead) (ps : List Word)
  /-- EBND_REFUNCCFG (R358). -/
  | ebndRefunccfg (h : WbHead) (ps : List Word)
  /-- EBND_REPORT (R358). -/
  | ebndReport (h : WbHead) (ps : List Word)
  /-- EBND_PORTREPORT (R358). -/
  | ebndPortreport (h : WbHead) (ps : List Word)
  /-- EBND_HISTORY (R350). -/
  | ebndHistory (h : WbHead) (ps : List Word)
  /-- MGMT_ECHO (R379). -/
  | mgmtEcho (h : WbHead) (ps : List Word)
  /-- MGMT_LIST (R379). -/
  | mgmtList (h : WbHead) (ps : List Word)
  /-- MGMT_CANCEL (R378). -/
  | mgmtCancel (h : WbHead) (ps : List Word)
  /-- MGMT_SUSPEND (R378). -/
  | mgmtSuspend (h : WbHead) (ps : List Word)
  /-- MGMT_RESUME (R379). -/
  | mgmtResume (h : WbHead) (ps : List Word)
  /-- MGMT_AUDITREPORT (R379). -/
  | mgmtAuditreport (h : WbHead) (ps : List Word)
  /-- MGMT_VERSION (R379). -/
  | mgmtVersion (h : WbHead) (ps : List Word)
  /-- MGMT_COUNTREPORT (R379). -/
  | mgmtCountreport (h : WbHead) (ps : List Word)
  /-- HIF_CFG (R401). -/
  | hifCfg (h : WbHead) (ps : List Word)
  /-- HIF_REPORT (R401). -/
  | hifReport (h : WbHead) (ps : List Word)
  /-- INTC_SRCCFG (R414). -/
  | intcSrccfg (h : WbHead) (ps : List Word)
  /-- INTC_REPORT (R414). -/
  | intcReport (h : WbHead) (ps : List Word)
  /-- FCOL_CFG (R442). -/
  | fcolCfg (h : WbHead) (ps : List Word)
  /-- FCOL_FIRSTREAD (R442). -/
  | fcolFirstread (h : WbHead) (ps : List Word)
  /-- FCOL_ACK (R432). -/
  | fcolAck (h : WbHead) (ps : List Word)
  /-- FCOL_LOGREAD (R434). -/
  | fcolLogread (h : WbHead) (ps : List Word)
  /-- FCOL_CLEAR (R424). -/
  | fcolClear (h : WbHead) (ps : List Word)
  /-- FCOL_COUNTREPORT (R442). -/
  | fcolCountreport (h : WbHead) (ps : List Word)
  /-- FCOL_LEDGERDUMP (R442). -/
  | fcolLedgerdump (h : WbHead) (ps : List Word)
  /-- FCOL_LEDGERREPORT (R442). -/
  | fcolLedgerreport (h : WbHead) (ps : List Word)
  /-- RDN_CFG (R464). -/
  | rdnCfg (h : WbHead) (ps : List Word)
  /-- RDN_RELEASE (R456). -/
  | rdnRelease (h : WbHead) (ps : List Word)
  /-- RDN_REPORT (R464). -/
  | rdnReport (h : WbHead) (ps : List Word)
  /-- SEQ_SAFECLR_WRITE (R72). -/
  | seqSafeclrWrite (v : Nat)
  /-- DPLL_SWCMD_APPLY (R119). -/
  | dpllSwcmdApply
  /-- DPLL_MODE_OPEN_WRITE (R120). -/
  | dpllModeOpenWrite (v : Nat)
  /-- DPLL_MODE_CLOSE_WRITE (R120). -/
  | dpllModeCloseWrite (v : Nat)
  /-- DPLL_SELMAN_WRITE (R96). -/
  | dpllSelmanWrite (v : Nat)
  /-- LSW_LATCH_READ (R102). -/
  | lswLatchRead (req a : Nat)
  /-- TBASE_TIME_READ (R173). -/
  | tbaseTimeRead (req : Nat)
  /-- RC_FIELD_READ (R12). -/
  | rcFieldRead (req a : Nat)
  /-- TBASE_CAP_POP (R187). -/
  | tbaseCapPop (req n : Nat)
  /-- TIC_CH_POP (R206). -/
  | ticChPop (req n : Nat)
  /-- INTC_CLAIM (R405). -/
  | intcClaim (req : Nat) (mgmt : Bool)
  /-- INTC_COMPLETE (R406). -/
  | intcComplete (req : Nat) (mgmt : Bool) (w : Word)
  /-- FCOL_DOMCLR_WRITE (R424). -/
  | fcolDomclrWrite (v : Nat)
  /-- FCOL_CRIT_LATCH_CLEAR (R427). -/
  | fcolCritLatchClear (v : Nat)
  /-- HIF_RING_DOORBELL (R391). -/
  | hifRingDoorbell (req r : Nat) (w : Word)
  /-- HIF_RING_ENABLE (R390). -/
  | hifRingEnable (req r : Nat) (w : Word)
  /-- HIF_QUEUE_PROD_WRITE (R397). -/
  | hifQueueProdWrite (req q : Nat) (w : Word) (frames : List (Nat × Nat))
  /-- HIF_DMA_START (R398). -/
  | hifDmaStart (req c : Nat)
  /-- HIF_DMA_ABORT (R398). -/
  | hifDmaAbort (req c : Nat)
  /-- MSIX_UNMASK (R389). -/
  | msixUnmask
  /-- REGISTER_WRITE (R385). -/
  | registerWrite (req a : Nat) (w : Word) (how : BusWrite)
  /-- PCIE_LINK_TRAIN (R387). -/
  | pcieLinkTrain (speed width : Nat) (busMaster msix : Bool)
  /-- PCIE_RESET (R388). -/
  | pcieReset (flr : Bool)
  /-- PCIE_LINK_LOSS (R400). -/
  | pcieLinkLoss (what : LinkEvent)
  /-- SPI_FRAME (R392). -/
  | spiFrame (ws : List Word) (late : Bool)
  /-- SPI_FRAME_CUT (R393). -/
  | spiFrameCut
  /-- CONSOLE_LINE (R395). -/
  | consoleLine (line : List Nat)
  /-- DMA_COMPLETE (R398). -/
  | dmaComplete (c data : Nat) (bad : Bool)
  /-- INTC_SOURCE_EVENT (R402). -/
  | intcSourceEvent (src : Nat)
  /-- FAULT_MESSAGE (R416). -/
  | faultMessage (i : Nat)
  /-- QUIET_EXPIRY (R422). -/
  | quietExpiry (d : Nat)
  /-- CRIT_PULSE_EXPIRY (R427). -/
  | critPulseExpiry
  /-- MASTER_STALL (R429). -/
  | masterStall (m case : Nat) (wbs : List (Nat × Nat))
  /-- FENCE_FORCED_RELEASE (R430). -/
  | fenceForcedRelease (isl : Nat)
  /-- LEDGER_WRITE (R436). -/
  | ledgerWrite (good : Bool)
  /-- LEDGER_SUMMARY (R437). -/
  | ledgerSummary
  /-- CLAIM_FRAME_SEND (R445). -/
  | claimFrameSend
  /-- CLAIM_FRAME_RECEIVE (R445). -/
  | claimFrameReceive (frame : Nat)
  /-- CLAIM_SILENCE (R445). -/
  | claimSilence
  /-- ARB_GNT_DECODE (R450). -/
  | arbGntDecode (g : Nat)
  /-- HEARTBEAT_SEND (R452). -/
  | heartbeatSend (a b : Nat)
  /-- HEARTBEAT_RECEIVE (R452). -/
  | heartbeatReceive (i : Nat) (hb : Heartbeat) (m : MeterPoint)
  /-- HEARTBEAT_TIMEOUT (R452). -/
  | heartbeatTimeout
  /-- GRANT_MIRROR_RECEIVE (R454). -/
  | grantMirrorReceive (k : Key) (type record : Nat)
  /-- ARB_REQ_PULSE_END (R456). -/
  | arbReqPulseEnd
  /-- HANDOVER_TIME (R456). -/
  | handoverTime
  /-- HANDOVER_WITHDRAW (R456). -/
  | handoverWithdraw (ended : Bool)
  /-- NETWORK_ANNOUNCE (R460). -/
  | networkAnnounce
  /-- AUTO_RELEASE_BOUND (R459). -/
  | autoReleaseBound
  /-- ARBITER_REQUEST_CHANGE (R451). -/
  | arbiterRequestChange (u ev : Nat)
  /-- ARBITER_QUALIFY (R451). -/
  | arbiterQualify (q0 q1 : Bool)
  /-- ARBITER_HANDOVER_TIMEOUT (R451). -/
  | arbiterHandoverTimeout
  /-- RST_N_RELEASE (R58). -/
  | rstNRelease
  /-- LINK_FAULT_ORDERED_SETS (R243). -/
  | linkFaultOrderedSets (n : Nat) (loc remote : Bool)
  /-- SIGNAL_B_LOSS (R222). -/
  | signalBLoss (c : Nat)
  /-- MEMORY_DIE_TEMPERATURE (R339). -/
  | memoryDieTemperature (hot : Bool)
  /-- NFCAL_COMPLETE (R224). -/
  | nfcalComplete (a b : Word)
  /-- SWEEP_ENTRY_VISIT (R337). -/
  | sweepEntryVisit
  /-- DUMP_ITEM_COPY (R338). -/
  | dumpItemCopy
  /-- LEDGER_DUMP_RECORD (R442). -/
  | ledgerDumpRecord
  /-- MODEL_REPORT_STEP (R163). -/
  | modelReportStep (ring slot : Nat)
  deriving DecidableEq, Repr

end Sys2Proof
end

