-- ==== Sys2Proof/WellFormed.lean ====
section
/-! DEFINITION. Which commands are well formed: operands within the ranges that the tables of the spec give their units, registers and waybills. -/
namespace Sys2Proof

/-- A slot of a ring (Table 14-7). -/
def slotOk (ring slot : Nat) : Bool :=
  if ring < 2 then slot < 256 else if ring = 2 then slot < 4 else ring = 3 && slot = 0

/-- The head of a waybill: a slot of a ring, six flag bits (Table 14-1). -/
def WbHead.wf (h : WbHead) : Bool := slotOk h.ring h.slot && h.flags < 64

/-- The operands are within their ranges; a waybill carries at most 60 parameter words (R359). -/
def Instr.wf : Instr → Bool
  | .vinWarningCrossing => true
  | .vinRecovery => true
  | .vinResetCrossing => true
  | .vinRiseStart => true
  | .vinStable => true
  | .vbatLow => true
  | .vbatValid => true
  | .rstNAssert => true
  | .rstNResetTimeout => true
  | .railFault => true
  | .powerStageOvertemp => true
  | .railExcursionEnd _ => true
  | .checkpointComplete _ _ => true
  | .startStepComplete n _ => 1 ≤ n && n ≤ 9
  | .startStepTimeout => true
  | .startRetry => true
  | .deferredReset => true
  | .aonRingCheck _ _ _ _ => true
  | .beaconSend => true
  | .beaconReceive i _ => i < 5
  | .beaconLoss i => i < 5
  | .stepBeaconApply i => i < 5
  | .pcsDelimiterReport _ _ => true
  | .fcsRelease _ => true
  | .lockedSlotCommit _ _ => true
  | .lockedSlotTimeout _ => true
  | .speculationTimeout _ => true
  | .mgmtAudit => true
  | .refEdge n _ c => n < 8 && c < 2048
  | .refActivityLoss n => n < 12
  | .dpllTick miss => miss.all (fun b => b < 20)
  | .qualTimerExpiry n => n < 12
  | .rmonSlopeFit => true
  | .witnessPhaseReturn => true
  | .voteExpiry => true
  | .slewComplete => true
  | .phlockTimer => true
  | .apllLockWindow p _ _ => p < 3
  | .apllRefLoss p _ => p < 3
  | .ebndAsyncRepublish => true
  | .apllReturnExpiry p _ => p < 2
  | .apllOutSquelchClear => true
  | .aoscReturn => true
  | .crystalStop => true
  | .holdSecond _ _ _ => true
  | .holdModelTrain => true
  | .trainage24h => true
  | .aoscSteer => true
  | .aoscSteerComp => true
  | .aoscAckReceive b => b < 256
  | .aoscAckTimeout => true
  | .holdContractExpiry => true
  | .tcoreTick => true
  | .leapApply => true
  | .ppsEdge => true
  | .clkoutAlignCheck n _ => n < 4
  | .evtArm n => n < 16
  | .evtEdge n => n < 16
  | .capEdge n _ _ c => n < 8 && c < 2048
  | .timeLoad => true
  | .settimeEdgeTimeout => true
  | .authstepApply => true
  | .ticEdge ch _ _ c => ch < 16 && c < 2048
  | .ticStopDecide u => u < 4
  | .ticGateClose u => u < 4
  | .statrunTimeout u => u < 4
  | .ticCalTempTrigger _ => true
  | .ticCalComplete _ _ => true
  | .ticCalSwap => true
  | .xtalWitness _ => true
  | .xtalTrim => true
  | .gnssEpoch _ _ _ => true
  | .gnssElasticSlip fill => fill = 4 || fill = 60
  | .gnssPortClockLoss _ => true
  | .gnssPortClockReturn _ _ _ => true
  | .prnSearchDone _ => true
  | .gnssChannelLock c => c < 64
  | .gnssNavSync c => c < 64
  | .gnssPullinTimeout c => c < 64
  | .gnssLossOfLock c => c < 64
  | .gnssReacqTimeout c => c < 64
  | .signalBHandover c _ => c < 64
  | .gnssSpectrum band _ _ _ => band < 2
  | .navUnitDecoded c _ ws _ => c < 64 && ws.length ≤ 20
  | .surveyComplete _ _ _ => true
  | .laneLoss n det _ => n < 10 && det < 6
  | .laneDetectorRestore n det _ _ => n < 10 && det < 6
  | .deskewTimeout p => p < 2
  | .plinkBitSlip n bad => (n = 8 || n = 9) && 1 ≤ bad && bad ≤ 64
  | .plinkLockTimeout n => n = 8 || n = 9
  | .rateMatchEvent n _ fill _ => n < 10 && fill < 32
  | .rateMatchUnscheduled n _ fill _ => n < 10 && fill < 32
  | .meterLock n _ _ _ _ _ => n < 10
  | .meterUnlock n _ _ => n < 10
  | .fecSecond n _ _ => n < 8
  | .frameReceive p _ _ _ => p < 8
  | .ctabDecisionReturn _ => true
  | .authVerdictReturn _ => true
  | .requestTimeout _ => true
  | .convoyClose _ => true
  | .ptpScheduledMessage g type => g < 2 && (type = 11 || type = 0)
  | .grantStreamMessage _ type => type = 11 || type = 0
  | .grantExpiry _ type => type = 11 || type = 0 || type = 9
  | .slaveSyncMeasurement g => g < 2
  | .slaveDelayReqSend g => g < 2
  | .slaveGrantRenew g => g < 2
  | .slaveAnnounceTimeout g => g < 2
  | .slaveSyncTimeout g => g < 2
  | .svcholdExpiry => true
  | .missSecond => true
  | .authVerifyJob => true
  | .authTagJob => true
  | .authTagLate _ => true
  | .authCancel _ => true
  | .authFailSecond => true
  | .drbgReseed _ => true
  | .keyStateEffect => true
  | .zeroiseComplete n => n < 1024
  | .keystoreEccError n _ => n < 1024
  | .rotationActivate n => n < 1024
  | .rotationRetire n => n < 1024
  | .mintStageExpiry n => n < 4
  | .lookupDecide _ _ => true
  | .ctabCommit _ => true
  | .leaseRelease n => n < 4194304
  | .leaseExpiry n => n < 4194304
  | .leaseReread n _ => n < 4194304
  | .forcedRelease => true
  | .patrolScrub _ => true
  | .eccUncorrectable a => a < 0x200000000
  | .indexRebuildDone => true
  | .loadRecordApply _ => true
  | .dqsTrack => true
  | .zqRecal => true
  | .waybillTake ring ws => ring < 4 && ws.length ≤ 64
  | .waybillStart ring slot => slotOk ring slot
  | .seqRestart h ps => h.wf && ps.length ≤ 60
  | .seqCheckpoint h ps => h.wf && ps.length ≤ 60
  | .seqSafeclear h ps => h.wf && ps.length ≤ 60
  | .seqCfgsave h ps => h.wf && ps.length ≤ 60
  | .seqStartreport h ps => h.wf && ps.length ≤ 60
  | .psuRead h ps => h.wf && ps.length ≤ 60
  | .rmonRefcfg h ps => h.wf && ps.length ≤ 60
  | .rmonStatus h ps => h.wf && ps.length ≤ 60
  | .rmonRequal h ps => h.wf && ps.length ≤ 60
  | .rmonHistory h ps => h.wf && ps.length ≤ 60
  | .dpllLoopcfg h ps => h.wf && ps.length ≤ 60
  | .dpllOpen h ps => h.wf && ps.length ≤ 60
  | .dpllClose h ps => h.wf && ps.length ≤ 60
  | .dpllSetfreq h ps => h.wf && ps.length ≤ 60
  | .dpllLoopreport h ps => h.wf && ps.length ≤ 60
  | .dpllPhlog h ps => h.wf && ps.length ≤ 60
  | .dpllSelect h ps => h.wf && ps.length ≤ 60
  | .dpllResolve h ps => h.wf && ps.length ≤ 60
  | .dpllSelreport h ps => h.wf && ps.length ≤ 60
  | .holdCfg h ps => h.wf && ps.length ≤ 60
  | .holdMembercfg h ps => h.wf && ps.length ≤ 60
  | .holdAosccfg h ps => h.wf && ps.length ≤ 60
  | .holdModelreport h ps => h.wf && ps.length ≤ 60
  | .holdRetrain h ps => h.wf && ps.length ≤ 60
  | .apllCfg h ps => h.wf && ps.length ≤ 60
  | .apllRelock h ps => h.wf && ps.length ≤ 60
  | .apllSpurscan h ps => h.wf && ps.length ≤ 60
  | .apllReport h ps => h.wf && ps.length ≤ 60
  | .tbaseSettime h ps => h.wf && ps.length ≤ 60
  | .tbaseAuthstep h ps => h.wf && ps.length ≤ 60
  | .tbaseLeapcfg h ps => h.wf && ps.length ≤ 60
  | .tbaseEvtsched h ps => h.wf && ps.length ≤ 60
  | .tbaseEvtcancel h ps => h.wf && ps.length ≤ 60
  | .tbaseCapread h ps => h.wf && ps.length ≤ 60
  | .tbaseReport h ps => h.wf && ps.length ≤ 60
  | .ticCfg h ps => h.wf && ps.length ≤ 60
  | .ticChcfg h ps => h.wf && ps.length ≤ 60
  | .ticMeascfg h ps => h.wf && ps.length ≤ 60
  | .ticStatrun h ps => h.wf && ps.length ≤ 60
  | .ticStatstop h ps => h.wf && ps.length ≤ 60
  | .ticStampread h ps => h.wf && ps.length ≤ 60
  | .ticCalrun h ps => h.wf && ps.length ≤ 60
  | .ticCalreport h ps => h.wf && ps.length ≤ 60
  | .ticXtalreport h ps => h.wf && ps.length ≤ 60
  | .gnssCfg h ps => h.wf && ps.length ≤ 60
  | .gnssAcquire h ps => h.wf && ps.length ≤ 60
  | .gnssAcqstop h ps => h.wf && ps.length ≤ 60
  | .gnssPoscfg h ps => h.wf && ps.length ≤ 60
  | .gnssObsread h ps => h.wf && ps.length ≤ 60
  | .gnssNavread h ps => h.wf && ps.length ≤ 60
  | .gnssNfcal h ps => h.wf && ps.length ≤ 60
  | .gnssNotchcfg h ps => h.wf && ps.length ≤ 60
  | .gnssReport h ps => h.wf && ps.length ≤ 60
  | .laneModeset h ps => h.wf && ps.length ≤ 60
  | .laneLanecfg h ps => h.wf && ps.length ≤ 60
  | .laneRestart h ps => h.wf && ps.length ≤ 60
  | .laneReport h ps => h.wf && ps.length ≤ 60
  | .mtsCfg h ps => h.wf && ps.length ≤ 60
  | .mtsLanecfg h ps => h.wf && ps.length ≤ 60
  | .mtsMeterreport h ps => h.wf && ps.length ≤ 60
  | .pktCfg h ps => h.wf && ps.length ≤ 60
  | .pktLimitcfg h ps => h.wf && ps.length ≤ 60
  | .pktAddrcfg h ps => h.wf && ps.length ≤ 60
  | .pktPortcfg h ps => h.wf && ps.length ≤ 60
  | .pktPtpcfg h ps => h.wf && ps.length ≤ 60
  | .pktSlavecfg h ps => h.wf && ps.length ≤ 60
  | .pktRefidcfg h ps => h.wf && ps.length ≤ 60
  | .pktCountreport h ps => h.wf && ps.length ≤ 60
  | .pktStampreport h ps => h.wf && ps.length ≤ 60
  | .pktSlavereport h ps => h.wf && ps.length ≤ 60
  | .pktGrantclear h ps => h.wf && ps.length ≤ 60
  | .pktSvcreport h ps => h.wf && ps.length ≤ 60
  | .authCfg h ps => h.wf && ps.length ≤ 60
  | .authKeyload h ps => h.wf && ps.length ≤ 60
  | .authKeystate h ps => h.wf && ps.length ≤ 60
  | .authZeroise h ps => h.wf && ps.length ≤ 60
  | .authRotate h ps => h.wf && ps.length ≤ 60
  | .authRotstop h ps => h.wf && ps.length ≤ 60
  | .authCookiemint h ps => h.wf && ps.length ≤ 60
  | .authKeyreport h ps => h.wf && ps.length ≤ 60
  | .authCountreport h ps => h.wf && ps.length ≤ 60
  | .authSelftest h ps => h.wf && ps.length ≤ 60
  | .authMintstage h ps => h.wf && ps.length ≤ 60
  | .ctabCfg h ps => h.wf && ps.length ≤ 60
  | .ctabLoad h ps => h.wf && ps.length ≤ 60
  | .ctabSweep h ps => h.wf && ps.length ≤ 60
  | .ctabDump h ps => h.wf && ps.length ≤ 60
  | .ctabEntryread h ps => h.wf && ps.length ≤ 60
  | .ctabLookup h ps => h.wf && ps.length ≤ 60
  | .ctabMemreport h ps => h.wf && ps.length ≤ 60
  | .ebndCfg h ps => h.wf && ps.length ≤ 60
  | .ebndRefunccfg h ps => h.wf && ps.length ≤ 60
  | .ebndReport h ps => h.wf && ps.length ≤ 60
  | .ebndPortreport h ps => h.wf && ps.length ≤ 60
  | .ebndHistory h ps => h.wf && ps.length ≤ 60
  | .mgmtEcho h ps => h.wf && ps.length ≤ 60
  | .mgmtList h ps => h.wf && ps.length ≤ 60
  | .mgmtCancel h ps => h.wf && ps.length ≤ 60
  | .mgmtSuspend h ps => h.wf && ps.length ≤ 60
  | .mgmtResume h ps => h.wf && ps.length ≤ 60
  | .mgmtAuditreport h ps => h.wf && ps.length ≤ 60
  | .mgmtVersion h ps => h.wf && ps.length ≤ 60
  | .mgmtCountreport h ps => h.wf && ps.length ≤ 60
  | .hifCfg h ps => h.wf && ps.length ≤ 60
  | .hifReport h ps => h.wf && ps.length ≤ 60
  | .intcSrccfg h ps => h.wf && ps.length ≤ 60
  | .intcReport h ps => h.wf && ps.length ≤ 60
  | .fcolCfg h ps => h.wf && ps.length ≤ 60
  | .fcolFirstread h ps => h.wf && ps.length ≤ 60
  | .fcolAck h ps => h.wf && ps.length ≤ 60
  | .fcolLogread h ps => h.wf && ps.length ≤ 60
  | .fcolClear h ps => h.wf && ps.length ≤ 60
  | .fcolCountreport h ps => h.wf && ps.length ≤ 60
  | .fcolLedgerdump h ps => h.wf && ps.length ≤ 60
  | .fcolLedgerreport h ps => h.wf && ps.length ≤ 60
  | .rdnCfg h ps => h.wf && ps.length ≤ 60
  | .rdnRelease h ps => h.wf && ps.length ≤ 60
  | .rdnReport h ps => h.wf && ps.length ≤ 60
  | .seqSafeclrWrite v => v < 65536
  | .dpllSwcmdApply => true
  | .dpllModeOpenWrite v => v < 65536 && v % 2 = 1
  | .dpllModeCloseWrite v => v < 65536 && v % 2 = 0
  | .dpllSelmanWrite v => v < 65536
  | .lswLatchRead req a => req < 7 && a < 0x200000
  | .tbaseTimeRead req => req < 7
  | .rcFieldRead req a => req < 7 && a < 0x200000
  | .tbaseCapPop req n => req < 7 && n < 8
  | .ticChPop req n => req < 7 && n < 16
  | .intcClaim req _ => req < 7
  | .intcComplete req _ _ => req < 7
  | .fcolDomclrWrite v => v < 65536
  | .fcolCritLatchClear v => v < 65536
  | .hifRingDoorbell req r _ => req < 7 && r < 2
  | .hifRingEnable req r _ => req < 7 && r < 2
  | .hifQueueProdWrite req q _ _ => req < 7 && q < 2
  | .hifDmaStart req c => req < 7 && c < 2
  | .hifDmaAbort req c => req < 7 && c < 2
  | .msixUnmask => true
  | .registerWrite req a _ _ => req < 7 && a < 0x200000
  | .pcieLinkTrain speed width _ _ => 1 ≤ speed && speed ≤ 4 && (width = 1 || width = 2 || width = 4)
  | .pcieReset _ => true
  | .pcieLinkLoss _ => true
  | .spiFrame ws _ => 4 ≤ ws.length && ws.length ≤ 2052
  | .spiFrameCut => true
  | .consoleLine l => l.all (fun c => c < 256)
  | .dmaComplete c _ _ => c < 2
  | .intcSourceEvent src => 1 ≤ src && src ≤ 255
  | .faultMessage _ => true
  | .quietExpiry d => d < 4
  | .critPulseExpiry => true
  | .masterStall m _ _ => m < 32
  | .fenceForcedRelease isl => isl < 5
  | .ledgerWrite _ => true
  | .ledgerSummary => true
  | .claimFrameSend => true
  | .claimFrameReceive f => f < 2 ^ 32
  | .claimSilence => true
  | .arbGntDecode g => g < 3
  | .heartbeatSend _ _ => true
  | .heartbeatReceive i _ _ => i < 2
  | .heartbeatTimeout => true
  | .grantMirrorReceive _ type record => type < 3 && record < 2 ^ 128
  | .arbReqPulseEnd => true
  | .handoverTime => true
  | .handoverWithdraw _ => true
  | .networkAnnounce => true
  | .autoReleaseBound => true
  | .arbiterRequestChange u ev => u < 2 && ev < 3
  | .arbiterQualify _ _ => true
  | .arbiterHandoverTimeout => true
  | .rstNRelease => true
  | .linkFaultOrderedSets n _ _ => n < 10
  | .signalBLoss c => c < 64
  | .memoryDieTemperature _ => true
  | .nfcalComplete _ _ => true
  | .sweepEntryVisit => true
  | .dumpItemCopy => true
  | .ledgerDumpRecord => true
  | .modelReportStep ring slot => slotOk ring slot

end Sys2Proof
end

