-- ==== Sys2Proof/Decode.lean ====
section
/-! DEFINITION. The decoder of the opcode table's words.  spec/opcode_table.json gives the rows of this block no bits, so no word spells a
command; a waybill's words are checked where MGMT starts it (Machine/MgmtOps.lean). -/
namespace Sys2Proof

/-- No row of the table gives bits. -/
def decodeTableWord (_nbits _w : Nat) : Option Instr := none

end Sys2Proof
end

