-- ==== Sys2Proof/Config.lean ====
section
/-! DEFINITION. What an implementation fixes and what the spec leaves open: constants with no body, so that no proof can
see a value of theirs.  A fresh free value is one of these applied to the counter `State.fresh`. -/
namespace Sys2Proof.Config

/-- A fresh value the spec leaves open, any natural number; callers cut it to the width they need (log entry 3). -/
opaque freeNat : Nat → Nat

/-- A parameter word a waybill needs and does not carry takes an arbitrary value (R376, Table 14-9): the count of fresh values, the parameter's number,
which of the operation's reads of it. -/
opaque missingParam : Nat → Nat → Nat → Word

/-- A detail value of a fault message whose layout the spec does not give: source, kind and the values named (R415, R487). -/
opaque openDetail : Nat → Nat → List Nat → Nat

/-- The two keyed hashes of a client key that name its buckets, and the signature taken from the first (R325): the keys, the client key as
a number.  The spec gives no hash function. -/
opaque ctabBucketA : Nat → Nat → Nat
opaque ctabBucketB : Nat → Nat → Nat
opaque ctabSignature : Nat → Nat → Nat

/-- The learned offset of a reference in ps, once it has one (R83): what it was, the reference, the count of fresh values.  The spec gives no rule by
which it is learned. -/
opaque learnedOffset : Option Int → Nat → Nat → Option Int

/-- The hourly fit of the holdover model (R146), a number of the window's hours, each a mean frequency (10^-24) and a mean temperature (0.125 °C):
0 D and 1 its standard error (10^-18 per day), 2 C and 3 its standard error (10^-15 per °C), 4 the standard error of the frequency (10^-16),
5 the reference temperature.  The spec gives no method. -/
opaque modelFit : Nat → List (Int × Int) → Int

/-- The bytes that a block of an acquisition search takes in its staging region (R218): 65,536 complex samples, whose width the spec does not give. -/
opaque acqBlockBytes : Nat

/-- The keyed 16-bit hash that chooses an anonymous bucket (R265): the key, the masked address.  The spec gives no hash function. -/
opaque anonBucket : Nat → Nat → Nat
/-- Whether a block's eight unsent places are all still taken, where eight messages of it were formed less than 2 µs ago (R416): the sender, TBASE's
tick count, its messages on their way, its losses not reported.  Log entry 9. -/
opaque queueFull : Nat → Nat → Nat → Nat → Bool

/-- The factory-calibrated latencies of a lane in a port mode, in 2^-48 ns (R247): lane, value of LANE_MODE; transmit from the edge to the ball,
receive from the ball to the edge. -/
opaque latTx : Nat → Nat → Nat
opaque latRx : Nat → Nat → Nat

end Sys2Proof.Config
end

