-- ==== Sys2Proof/Machine/Fields.lean ====
section
/-! DEFINITION. The fields of the register map under the spec's own names (the register tables of spec/00 to spec/18): the byte address of the
register (R5), the field's lowest bit and its width.  A register of a group takes its number as an argument. -/
namespace Sys2Proof.Machine

/-- A field of a register: byte address of the register's first word (R5, R9), lowest bit, width. -/
structure Field where
  addr : Nat
  lo : Nat
  wid : Nat
  deriving DecidableEq, Repr

namespace F

def SEQ_PART : Field := ⟨0x000002, 0, 16⟩
def SEQ_VARIANT : Field := ⟨0x000004, 0, 2⟩
def TBASE_BCNSTAT_VALID : Field := ⟨0x060F00, 0, 5⟩
def TBASE_BCNSTAT_LOST : Field := ⟨0x060F00, 8, 5⟩
def TBASE_BCNSTAT : Field := ⟨0x060F00, 0, 16⟩
def TBASE_BCNLOSS : Field := ⟨0x060F02, 0, 16⟩
def MGMT_AUDGEN : Field := ⟨0x0F0F00, 0, 16⟩
def MGMT_AUDMIS : Field := ⟨0x0F0F02, 0, 16⟩
def MGMT_AUDLAST_BLOCK : Field := ⟨0x0F0F04, 0, 5⟩
def MGMT_AUDLAST_UNIT : Field := ⟨0x0F0F04, 8, 8⟩
def MGMT_AUDLAST : Field := ⟨0x0F0F04, 0, 16⟩
def SEQ_STARTINFO_KIND : Field := ⟨0x000010, 0, 2⟩
def SEQ_STARTINFO_REASON : Field := ⟨0x000010, 2, 3⟩
def SEQ_STARTINFO_CAUSE : Field := ⟨0x000010, 5, 3⟩
def SEQ_STARTINFO : Field := ⟨0x000010, 0, 16⟩
def SEQ_STATE_STEP : Field := ⟨0x000012, 0, 4⟩
def SEQ_STATE_STATE : Field := ⟨0x000012, 4, 3⟩
def SEQ_STATE : Field := ⟨0x000012, 0, 16⟩
def SEQ_FAILCNT_WFAIL : Field := ⟨0x000014, 0, 2⟩
def SEQ_FAILCNT_CFAIL : Field := ⟨0x000014, 2, 2⟩
def SEQ_FAILCNT : Field := ⟨0x000014, 0, 16⟩
def SEQ_CTRL : Field := ⟨0x000016, 0, 1⟩
def SEQ_SAFECLR : Field := ⟨0x000018, 0, 16⟩
def SEQ_WARMMAX : Field := ⟨0x00001A, 0, 16⟩
def SEQ_CKPT_VALID : Field := ⟨0x000020, 0, 1⟩
def SEQ_CKPT_SLOT : Field := ⟨0x000020, 1, 6⟩
def SEQ_CKPT_SKIPS : Field := ⟨0x000020, 7, 9⟩
def SEQ_CKPT : Field := ⟨0x000020, 0, 16⟩
def SEQ_CKPTSEQ : Field := ⟨0x000022, 0, 16⟩
def SEQ_CKPTDUR : Field := ⟨0x000024, 0, 16⟩
def SEQ_OUTAGE : Field := ⟨0x000026, 0, 32⟩
def SEQ_STEPDUR (n : Nat) : Field := ⟨0x000040 + n * 0x2, 0, 16⟩
def PSU_STAT_WARN : Field := ⟨0x010010, 0, 1⟩
def PSU_STAT_VBATOK : Field := ⟨0x010010, 1, 1⟩
def PSU_STAT_RAILOK : Field := ⟨0x010010, 2, 1⟩
def PSU_STAT : Field := ⟨0x010010, 0, 16⟩
def PSU_EVT_WARN : Field := ⟨0x010012, 0, 1⟩
def PSU_EVT_RESETLVL : Field := ⟨0x010012, 1, 1⟩
def PSU_EVT_VBATLOW : Field := ⟨0x010012, 2, 1⟩
def PSU_EVT_RAILFLT : Field := ⟨0x010012, 3, 1⟩
def PSU_EVT_OVERTEMP : Field := ⟨0x010012, 4, 1⟩
def PSU_EVT : Field := ⟨0x010012, 0, 16⟩
def PSU_DIPCNT : Field := ⟨0x010014, 0, 16⟩
def PSU_VIN : Field := ⟨0x010016, 0, 16⟩
def PSU_VBAT : Field := ⟨0x010018, 0, 16⟩
def PSU_TJ : Field := ⟨0x01001A, 0, 16⟩
def PSU_AONSTAT_VALID : Field := ⟨0x010030, 0, 1⟩
def PSU_AONSTAT_SRC : Field := ⟨0x010030, 1, 2⟩
def PSU_AONSTAT_SRCCHG : Field := ⟨0x010030, 3, 1⟩
def PSU_AONSTAT_VBATUSED : Field := ⟨0x010030, 4, 1⟩
def PSU_AONSTAT : Field := ⟨0x010030, 0, 16⟩
def RMON_REF_CFG_ENABLE (n : Nat) : Field := ⟨0x020100 + n * 0x40, 0, 1⟩
def RMON_REF_CFG_DIFF (n : Nat) : Field := ⟨0x020100 + n * 0x40, 1, 1⟩
def RMON_REF_CFG_PHASEMODE (n : Nat) : Field := ⟨0x020100 + n * 0x40, 2, 1⟩
def RMON_REF_CFG_SLOPEEN (n : Nat) : Field := ⟨0x020100 + n * 0x40, 3, 1⟩
def RMON_REF_CFG_RANK (n : Nat) : Field := ⟨0x020100 + n * 0x40, 4, 4⟩
def RMON_REF_CFG (n : Nat) : Field := ⟨0x020100 + n * 0x40, 0, 16⟩
def RMON_REF_FNOM (n : Nat) : Field := ⟨0x020102 + n * 0x40, 0, 32⟩
def RMON_REF_QUALTIME (n : Nat) : Field := ⟨0x020106 + n * 0x40, 0, 16⟩
def RMON_REF_ACCEPT (n : Nat) : Field := ⟨0x020108 + n * 0x40, 0, 32⟩
def RMON_REF_REJECT (n : Nat) : Field := ⟨0x02010C + n * 0x40, 0, 32⟩
def RMON_REF_SLOPELIM (n : Nat) : Field := ⟨0x020110 + n * 0x40, 0, 16⟩
def RMON_REF_FWIN (n : Nat) : Field := ⟨0x020112 + n * 0x40, 0, 16⟩
def RMON_REF_DELAY (n : Nat) : Field := ⟨0x020114 + n * 0x40, 0, 32⟩
def RMON_REF_STATE_STATE (n : Nat) : Field := ⟨0x020118 + n * 0x40, 0, 3⟩
def RMON_REF_STATE_ACT (n : Nat) : Field := ⟨0x020118 + n * 0x40, 3, 1⟩
def RMON_REF_STATE_FWOK (n : Nat) : Field := ⟨0x020118 + n * 0x40, 4, 1⟩
def RMON_REF_STATE_PHVALID (n : Nat) : Field := ⟨0x020118 + n * 0x40, 5, 1⟩
def RMON_REF_STATE_SLOPEVALID (n : Nat) : Field := ⟨0x020118 + n * 0x40, 6, 1⟩
def RMON_REF_STATE_SELECTED (n : Nat) : Field := ⟨0x020118 + n * 0x40, 7, 1⟩
def RMON_REF_STATE (n : Nat) : Field := ⟨0x020118 + n * 0x40, 0, 16⟩
def RMON_REF_OFFSET (n : Nat) : Field := ⟨0x02011A + n * 0x40, 0, 48⟩
def RMON_REF_FOFF (n : Nat) : Field := ⟨0x020120 + n * 0x40, 0, 32⟩
def RMON_REF_SLOPE (n : Nat) : Field := ⟨0x020124 + n * 0x40, 0, 32⟩
def RMON_REF_QREMAIN (n : Nat) : Field := ⟨0x020128 + n * 0x40, 0, 16⟩
def RMON_REF_REJCNT (n : Nat) : Field := ⟨0x02012A + n * 0x40, 0, 16⟩
def RMON_REF_LOSCNT (n : Nat) : Field := ⟨0x02012C + n * 0x40, 0, 16⟩
def RMON_REF_GEN (n : Nat) : Field := ⟨0x02012E + n * 0x40, 0, 16⟩
def RMON_QUALMAP : Field := ⟨0x020010, 0, 12⟩
def RMON_DRIFTMAP : Field := ⟨0x020012, 0, 12⟩
def RMON_REJMAP : Field := ⟨0x020014, 0, 12⟩
def RMON_ACTMAP : Field := ⟨0x020016, 0, 12⟩
def RMON_WITNESS_FVALID : Field := ⟨0x020018, 0, 1⟩
def RMON_WITNESS_PVALID : Field := ⟨0x020018, 1, 1⟩
def RMON_WITNESS : Field := ⟨0x020018, 0, 16⟩
def DPLL_SELMAN_MREF : Field := ⟨0x030200, 0, 4⟩
def DPLL_SELMAN_REVERT : Field := ⟨0x030200, 4, 1⟩
def DPLL_SELMAN : Field := ⟨0x030200, 0, 16⟩
def DPLL_SELSTAT_ACTIVE : Field := ⟨0x030202, 0, 4⟩
def DPLL_SELSTAT_REASON : Field := ⟨0x030202, 4, 3⟩
def DPLL_SELSTAT_CONFLICT : Field := ⟨0x030202, 7, 1⟩
def DPLL_SELSTAT_HOSTWAIT : Field := ⟨0x030202, 8, 1⟩
def DPLL_SELSTAT_FIRSTQUAL : Field := ⟨0x030202, 9, 1⟩
def DPLL_SELSTAT : Field := ⟨0x030202, 0, 16⟩
def DPLL_SELDIS : Field := ⟨0x030204, 0, 16⟩
def DPLL_SELVOTE : Field := ⟨0x030206, 0, 16⟩
def DPLL_SELCONF_MAP : Field := ⟨0x030208, 0, 12⟩
def DPLL_SELCONF_RANK : Field := ⟨0x030208, 12, 4⟩
def DPLL_SELCONF : Field := ⟨0x030208, 0, 16⟩
def DPLL_SELVREM : Field := ⟨0x03020A, 0, 16⟩
def DPLL_SELCNT : Field := ⟨0x03020C, 0, 16⟩
def DPLL_SELGEN : Field := ⟨0x03020E, 0, 16⟩
def DPLL_MODE_OPEN : Field := ⟨0x030010, 0, 1⟩
def DPLL_MODE_CLOSEBUMP : Field := ⟨0x030010, 1, 1⟩
def DPLL_MODE_DAMP : Field := ⟨0x030010, 2, 3⟩
def DPLL_MODE_SAMPIRQ : Field := ⟨0x030010, 5, 1⟩
def DPLL_MODE : Field := ⟨0x030010, 0, 16⟩
def DPLL_STAT_MODE : Field := ⟨0x030012, 0, 3⟩
def DPLL_STAT_PHLOCK : Field := ⟨0x030012, 3, 1⟩
def DPLL_STAT_CLAMP : Field := ⟨0x030012, 4, 1⟩
def DPLL_STAT_SLEWING : Field := ⟨0x030012, 5, 1⟩
def DPLL_STAT_PHVALID : Field := ⟨0x030012, 6, 1⟩
def DPLL_STAT_BWLIM : Field := ⟨0x030012, 7, 1⟩
def DPLL_STAT_OSCCHG : Field := ⟨0x030012, 8, 1⟩
def DPLL_STAT_FRESH : Field := ⟨0x030012, 9, 1⟩
def DPLL_STAT : Field := ⟨0x030012, 0, 16⟩
def DPLL_BW : Field := ⟨0x030014, 0, 32⟩
def DPLL_SLEWLIM : Field := ⟨0x030018, 0, 16⟩
def DPLL_PULL : Field := ⟨0x03001A, 0, 16⟩
def DPLL_LOCKTHR : Field := ⟨0x03001C, 0, 16⟩
def DPLL_BWEFF : Field := ⟨0x03001E, 0, 32⟩
def DPLL_FREQ : Field := ⟨0x030022, 0, 48⟩
def DPLL_PHERR : Field := ⟨0x030028, 0, 48⟩
def DPLL_PHSEQ : Field := ⟨0x03002E, 0, 16⟩
def DPLL_SWFREQ : Field := ⟨0x030030, 0, 48⟩
def DPLL_SWCMD : Field := ⟨0x030036, 0, 1⟩
def DPLL_FRQINIT : Field := ⟨0x030038, 0, 48⟩
def DPLL_GEN : Field := ⟨0x03003E, 0, 16⟩
def DPLL_COMP : Field := ⟨0x030040, 0, 48⟩
def APLL_AOSCFREQ : Field := ⟨0x050010, 0, 2⟩
def APLL_BYPSTAT_MAP : Field := ⟨0x050012, 0, 7⟩
def APLL_BYPSTAT_XTALOK : Field := ⟨0x050012, 7, 1⟩
def APLL_BYPSTAT : Field := ⟨0x050012, 0, 16⟩
def APLL_PLL_CFG_REFSEL (n : Nat) : Field := ⟨0x050100 + n * 0x40, 0, 2⟩
def APLL_PLL_CFG_PFDMUL (n : Nat) : Field := ⟨0x050100 + n * 0x40, 2, 2⟩
def APLL_PLL_CFG_ENABLE (n : Nat) : Field := ⟨0x050100 + n * 0x40, 4, 1⟩
def APLL_PLL_CFG_AUTOREF (n : Nat) : Field := ⟨0x050100 + n * 0x40, 5, 1⟩
def APLL_PLL_CFG (n : Nat) : Field := ⟨0x050100 + n * 0x40, 0, 16⟩
def APLL_PLL_NINT (n : Nat) : Field := ⟨0x050102 + n * 0x40, 0, 10⟩
def APLL_PLL_NFRAC (n : Nat) : Field := ⟨0x050104 + n * 0x40, 0, 48⟩
def APLL_PLL_POSTDIV (n : Nat) : Field := ⟨0x05010A + n * 0x40, 0, 8⟩
def APLL_PLL_LOCK_LOCKED (n : Nat) : Field := ⟨0x05010C + n * 0x40, 0, 1⟩
def APLL_PLL_LOCK_REFACT (n : Nat) : Field := ⟨0x05010C + n * 0x40, 1, 1⟩
def APLL_PLL_LOCK_BYPASS (n : Nat) : Field := ⟨0x05010C + n * 0x40, 2, 1⟩
def APLL_PLL_LOCK_SQUELCH (n : Nat) : Field := ⟨0x05010C + n * 0x40, 3, 1⟩
def APLL_PLL_LOCK_PFDNOW (n : Nat) : Field := ⟨0x05010C + n * 0x40, 4, 2⟩
def APLL_PLL_LOCK (n : Nat) : Field := ⟨0x05010C + n * 0x40, 0, 16⟩
def APLL_PLL_LOCKCFG_LOCKTOL (n : Nat) : Field := ⟨0x05010E + n * 0x40, 0, 4⟩
def APLL_PLL_LOCKCFG_UNLOCKTOL (n : Nat) : Field := ⟨0x05010E + n * 0x40, 4, 6⟩
def APLL_PLL_LOCKCFG_LOCKWIN (n : Nat) : Field := ⟨0x05010E + n * 0x40, 10, 4⟩
def APLL_PLL_LOCKCFG (n : Nat) : Field := ⟨0x05010E + n * 0x40, 0, 16⟩
def APLL_PLL_RETURN (n : Nat) : Field := ⟨0x050110 + n * 0x40, 0, 16⟩
def APLL_PLL_SPUR (n : Nat) : Field := ⟨0x050112 + n * 0x40, 0, 48⟩
def APLL_PLL_LOSSCNT (n : Nat) : Field := ⟨0x050118 + n * 0x40, 0, 16⟩
def APLL_PLL_GEN (n : Nat) : Field := ⟨0x05011A + n * 0x40, 0, 16⟩
def HOLD_CTRL_HOSC : Field := ⟨0x040010, 0, 2⟩
def HOLD_CTRL_TSRC : Field := ⟨0x040010, 2, 2⟩
def HOLD_CTRL : Field := ⟨0x040010, 0, 16⟩
def HOLD_STAT_HOLDOVER : Field := ⟨0x040012, 0, 1⟩
def HOLD_STAT_HOSCNOW : Field := ⟨0x040012, 1, 1⟩
def HOLD_STAT_NOENS : Field := ⟨0x040012, 2, 1⟩
def HOLD_STAT_DFIT : Field := ⟨0x040012, 3, 1⟩
def HOLD_STAT_CFIT : Field := ⟨0x040012, 4, 1⟩
def HOLD_STAT_MDLPEND : Field := ⟨0x040012, 5, 1⟩
def HOLD_STAT_LONGSLEW : Field := ⟨0x040012, 6, 1⟩
def HOLD_STAT_EXCEED : Field := ⟨0x040012, 7, 1⟩
def HOLD_STAT_FROZEN : Field := ⟨0x040012, 8, 1⟩
def HOLD_STAT : Field := ⟨0x040012, 0, 16⟩
def HOLD_TAU : Field := ⟨0x040014, 0, 16⟩
def HOLD_COVER : Field := ⟨0x040016, 0, 16⟩
def HOLD_SLEWTHR : Field := ⟨0x040018, 0, 32⟩
def HOLD_JUMPTHR : Field := ⟨0x04001C, 0, 32⟩
def HOLD_TRAINAGE : Field := ⟨0x040020, 0, 32⟩
def HOLD_ELAPSED : Field := ⟨0x040024, 0, 32⟩
def HOLD_BHOLD : Field := ⟨0x040028, 0, 48⟩
def HOLD_B0 : Field := ⟨0x04002E, 0, 48⟩
def HOLD_INFLATE : Field := ⟨0x040034, 0, 16⟩
def HOLD_TEXT : Field := ⟨0x040036, 0, 16⟩
def HOLD_OUTTEMP : Field := ⟨0x040038, 0, 16⟩
def HOLD_WMAX : Field := ⟨0x04003A, 0, 16⟩
def HOLD_CONTRACT : Field := ⟨0x04003C, 0, 16⟩
def HOLD_GEN : Field := ⟨0x04003E, 0, 16⟩
def HOLD_FITWIN : Field := ⟨0x040040, 0, 16⟩
def HOLD_DPRIOR : Field := ⟨0x040042, 0, 32⟩
def HOLD_CPRIOR : Field := ⟨0x040046, 0, 32⟩
def HOLD_MDL_D : Field := ⟨0x040100, 0, 32⟩
def HOLD_MDL_UD : Field := ⟨0x040104, 0, 32⟩
def HOLD_MDL_C : Field := ⟨0x040108, 0, 32⟩
def HOLD_MDL_UC : Field := ⟨0x04010C, 0, 32⟩
def HOLD_MDL_UY : Field := ⟨0x040110, 0, 32⟩
def HOLD_MDL_T0 : Field := ⟨0x040114, 0, 16⟩
def HOLD_MDL_GEN : Field := ⟨0x040116, 0, 16⟩
def HOLD_MEMBER_CFG_SRC (n : Nat) : Field := ⟨0x040200 + n * 0x20, 0, 4⟩
def HOLD_MEMBER_CFG_PRESENT (n : Nat) : Field := ⟨0x040200 + n * 0x20, 4, 1⟩
def HOLD_MEMBER_CFG (n : Nat) : Field := ⟨0x040200 + n * 0x20, 0, 16⟩
def HOLD_MEMBER_PRIOR (n : Nat) : Field := ⟨0x040202 + n * 0x20, 0, 32⟩
def HOLD_MEMBER_SIGMA (n : Nat) : Field := ⟨0x040206 + n * 0x20, 0, 32⟩
def HOLD_MEMBER_NSAMP (n : Nat) : Field := ⟨0x04020A + n * 0x20, 0, 16⟩
def HOLD_MEMBER_WEIGHT (n : Nat) : Field := ⟨0x04020C + n * 0x20, 0, 16⟩
def HOLD_MEMBER_PHASE (n : Nat) : Field := ⟨0x04020E + n * 0x20, 0, 48⟩
def HOLD_MEMBER_FREQ (n : Nat) : Field := ⟨0x040214 + n * 0x20, 0, 32⟩
def HOLD_MEMBER_GEN (n : Nat) : Field := ⟨0x040218 + n * 0x20, 0, 16⟩
def HOLD_AOSC_CFG_MODE : Field := ⟨0x040300, 0, 2⟩
def HOLD_AOSC_CFG_SPICMD : Field := ⟨0x040300, 2, 4⟩
def HOLD_AOSC_CFG_TWOS : Field := ⟨0x040300, 6, 1⟩
def HOLD_AOSC_CFG_BAUD : Field := ⟨0x040300, 7, 2⟩
def HOLD_AOSC_CFG_ACKEN : Field := ⟨0x040300, 9, 1⟩
def HOLD_AOSC_CFG_DIV : Field := ⟨0x040300, 10, 6⟩
def HOLD_AOSC_CFG : Field := ⟨0x040300, 0, 16⟩
def HOLD_AOSC_ACK : Field := ⟨0x040302, 0, 8⟩
def HOLD_AOSC_CODE : Field := ⟨0x040304, 0, 20⟩
def HOLD_AOSC_DACINIT : Field := ⟨0x040308, 0, 20⟩
def HOLD_AOSC_SLOPE : Field := ⟨0x04030C, 0, 32⟩
def HOLD_AOSC_UNIT : Field := ⟨0x040310, 0, 32⟩
def HOLD_AOSC_STEERINT : Field := ⟨0x040314, 0, 16⟩
def HOLD_AOSC_STEPMAX : Field := ⟨0x040316, 0, 16⟩
def HOLD_AOSC_LAT : Field := ⟨0x040318, 0, 16⟩
def HOLD_AOSC_SUM : Field := ⟨0x04031A, 0, 48⟩
def HOLD_AOSC_NOACK : Field := ⟨0x040320, 0, 16⟩
def HOLD_AOSC_GEN : Field := ⟨0x040322, 0, 16⟩
def HOLD_AOSC_TPL : Field := ⟨0x040340, 0, 256⟩
def TBASE_TIME : Field := ⟨0x060010, 0, 128⟩
def TBASE_STAT_TIMESET : Field := ⟨0x060020, 0, 1⟩
def TBASE_STAT_SRC : Field := ⟨0x060020, 1, 2⟩
def TBASE_STAT_HOLDSTEP : Field := ⟨0x060020, 3, 1⟩
def TBASE_STAT_TSETLAT : Field := ⟨0x060020, 4, 1⟩
def TBASE_STAT : Field := ⟨0x060020, 0, 16⟩
def TBASE_TIMESC : Field := ⟨0x060022, 0, 16⟩
def TBASE_INCR : Field := ⟨0x060024, 0, 56⟩
def TBASE_STEPCNT : Field := ⟨0x06002C, 0, 16⟩
def TBASE_HELD : Field := ⟨0x06002E, 0, 80⟩
def TBASE_LASTSTEP : Field := ⟨0x060038, 0, 80⟩
def TBASE_UTCOFF : Field := ⟨0x060042, 0, 16⟩
def TBASE_LEAP : Field := ⟨0x060044, 0, 2⟩
def TBASE_LEAPSEC : Field := ⟨0x060046, 0, 64⟩
def TBASE_GEN : Field := ⟨0x06004E, 0, 16⟩
def TBASE_PPS_CFG_EN : Field := ⟨0x060100, 0, 1⟩
def TBASE_PPS_CFG_POL : Field := ⟨0x060100, 1, 1⟩
def TBASE_PPS_CFG : Field := ⟨0x060100, 0, 16⟩
def TBASE_PPS_WIDTH : Field := ⟨0x060102, 0, 32⟩
def TBASE_PPS_OFFSET : Field := ⟨0x060106, 0, 48⟩
def TBASE_PPS_SUPCNT : Field := ⟨0x06010C, 0, 16⟩
def TBASE_CLK_CFG_EN (n : Nat) : Field := ⟨0x060200 + n * 0x20, 0, 1⟩
def TBASE_CLK_CFG_ALIGN (n : Nat) : Field := ⟨0x060200 + n * 0x20, 1, 1⟩
def TBASE_CLK_CFG_INV (n : Nat) : Field := ⟨0x060200 + n * 0x20, 2, 1⟩
def TBASE_CLK_CFG (n : Nat) : Field := ⟨0x060200 + n * 0x20, 0, 16⟩
def TBASE_CLK_DIV (n : Nat) : Field := ⟨0x060202 + n * 0x20, 0, 32⟩
def TBASE_CLK_OFFSET (n : Nat) : Field := ⟨0x060206 + n * 0x20, 0, 48⟩
def TBASE_CLK_ALIGNTOL (n : Nat) : Field := ⟨0x06020C + n * 0x20, 0, 16⟩
def TBASE_CLK_PHERR (n : Nat) : Field := ⟨0x06020E + n * 0x20, 0, 32⟩
def TBASE_CLK_STAT_DRIVING (n : Nat) : Field := ⟨0x060212 + n * 0x20, 0, 1⟩
def TBASE_CLK_STAT_STOPPED (n : Nat) : Field := ⟨0x060212 + n * 0x20, 1, 1⟩
def TBASE_CLK_STAT_ALIGNED (n : Nat) : Field := ⟨0x060212 + n * 0x20, 2, 1⟩
def TBASE_CLK_STAT_ALIGNFLT (n : Nat) : Field := ⟨0x060212 + n * 0x20, 3, 1⟩
def TBASE_CLK_STAT (n : Nat) : Field := ⟨0x060212 + n * 0x20, 0, 16⟩
def TBASE_EVT_CFG_EN (n : Nat) : Field := ⟨0x060400 + n * 0x20, 0, 1⟩
def TBASE_EVT_CFG_POL (n : Nat) : Field := ⟨0x060400 + n * 0x20, 1, 1⟩
def TBASE_EVT_CFG_STEPPOL (n : Nat) : Field := ⟨0x060400 + n * 0x20, 2, 1⟩
def TBASE_EVT_CFG_DONEIRQ (n : Nat) : Field := ⟨0x060400 + n * 0x20, 3, 1⟩
def TBASE_EVT_CFG (n : Nat) : Field := ⟨0x060400 + n * 0x20, 0, 16⟩
def TBASE_EVT_STAT_QFILL (n : Nat) : Field := ⟨0x060402 + n * 0x20, 0, 3⟩
def TBASE_EVT_STAT_RUNNING (n : Nat) : Field := ⟨0x060402 + n * 0x20, 3, 1⟩
def TBASE_EVT_STAT_HIGH (n : Nat) : Field := ⟨0x060402 + n * 0x20, 4, 1⟩
def TBASE_EVT_STAT_CONT (n : Nat) : Field := ⟨0x060402 + n * 0x20, 5, 1⟩
def TBASE_EVT_STAT (n : Nat) : Field := ⟨0x060402 + n * 0x20, 0, 16⟩
def TBASE_EVT_LATECNT (n : Nat) : Field := ⟨0x060404 + n * 0x20, 0, 16⟩
def TBASE_EVT_SKIPCNT (n : Nat) : Field := ⟨0x060406 + n * 0x20, 0, 16⟩
def TBASE_EVT_NEXT (n : Nat) : Field := ⟨0x060408 + n * 0x20, 0, 128⟩
def TBASE_EVT_REMAIN (n : Nat) : Field := ⟨0x060418 + n * 0x20, 0, 32⟩
def TBASE_CAP_CFG_EDGE (n : Nat) : Field := ⟨0x060600 + n * 0x20, 0, 2⟩
def TBASE_CAP_CFG_WMARKM1 (n : Nat) : Field := ⟨0x060600 + n * 0x20, 2, 8⟩
def TBASE_CAP_CFG_IRQEN (n : Nat) : Field := ⟨0x060600 + n * 0x20, 10, 1⟩
def TBASE_CAP_CFG (n : Nat) : Field := ⟨0x060600 + n * 0x20, 0, 16⟩
def TBASE_CAP_FILL (n : Nat) : Field := ⟨0x060602 + n * 0x20, 0, 9⟩
def TBASE_CAP_OVFCNT (n : Nat) : Field := ⟨0x060604 + n * 0x20, 0, 16⟩
def TBASE_CAP_DEADCNT (n : Nat) : Field := ⟨0x060606 + n * 0x20, 0, 16⟩
def TBASE_CAP_POP_VALID (n : Nat) : Field := ⟨0x060608 + n * 0x20, 0, 1⟩
def TBASE_CAP_POP_RISE (n : Nat) : Field := ⟨0x060608 + n * 0x20, 1, 1⟩
def TBASE_CAP_POP_OVFBEFORE (n : Nat) : Field := ⟨0x060608 + n * 0x20, 2, 1⟩
def TBASE_CAP_POP_TSET (n : Nat) : Field := ⟨0x060608 + n * 0x20, 3, 1⟩
def TBASE_CAP_POP_STEP (n : Nat) : Field := ⟨0x060608 + n * 0x20, 8, 8⟩
def TBASE_CAP_POP (n : Nat) : Field := ⟨0x060608 + n * 0x20, 0, 16⟩
def TBASE_CAP_STAMP (n : Nat) : Field := ⟨0x06060A + n * 0x20, 0, 128⟩
def TIC_CTRL : Field := ⟨0x070010, 0, 1⟩
def TIC_CALSTAT_VALID : Field := ⟨0x070012, 0, 1⟩
def TIC_CALSTAT_RUNNING : Field := ⟨0x070012, 1, 1⟩
def TIC_CALSTAT_FAILED : Field := ⟨0x070012, 2, 1⟩
def TIC_CALSTAT_SET : Field := ⟨0x070012, 3, 1⟩
def TIC_CALSTAT : Field := ⟨0x070012, 0, 16⟩
def TIC_CALTEMP : Field := ⟨0x070014, 0, 16⟩
def TIC_CALDT : Field := ⟨0x070016, 0, 16⟩
def TIC_CALGEN : Field := ⟨0x070018, 0, 16⟩
def TIC_XTAL_TRIM : Field := ⟨0x070020, 0, 16⟩
def TIC_XWIT : Field := ⟨0x070022, 0, 32⟩
def TIC_XWLIM : Field := ⟨0x070026, 0, 16⟩
def TIC_XWSTAT_EXCEED : Field := ⟨0x070028, 0, 1⟩
def TIC_XWSTAT_VALID : Field := ⟨0x070028, 1, 1⟩
def TIC_XWSTAT_TRIMEND : Field := ⟨0x070028, 2, 1⟩
def TIC_XWSTAT : Field := ⟨0x070028, 0, 16⟩
def TIC_XWCNT : Field := ⟨0x07002A, 0, 16⟩
def TIC_GEN : Field := ⟨0x07002E, 0, 16⟩
def TIC_CH_CFG_EDGE (n : Nat) : Field := ⟨0x070100 + n * 0x20, 0, 2⟩
def TIC_CH_CFG_FIFOEN (n : Nat) : Field := ⟨0x070100 + n * 0x20, 2, 1⟩
def TIC_CH_CFG_IRQEN (n : Nat) : Field := ⟨0x070100 + n * 0x20, 3, 1⟩
def TIC_CH_CFG_WMARKM1 (n : Nat) : Field := ⟨0x070100 + n * 0x20, 4, 12⟩
def TIC_CH_CFG (n : Nat) : Field := ⟨0x070100 + n * 0x20, 0, 16⟩
def TIC_CH_DELAY (n : Nat) : Field := ⟨0x070102 + n * 0x20, 0, 32⟩
def TIC_CH_FILL (n : Nat) : Field := ⟨0x070106 + n * 0x20, 0, 13⟩
def TIC_CH_OVFCNT (n : Nat) : Field := ⟨0x070108 + n * 0x20, 0, 16⟩
def TIC_CH_DEADCNT (n : Nat) : Field := ⟨0x07010A + n * 0x20, 0, 16⟩
def TIC_CH_POP (n : Nat) : Field := ⟨0x07010C + n * 0x20, 0, 16⟩
def TIC_CH_STAMP (n : Nat) : Field := ⟨0x07010E + n * 0x20, 0, 128⟩
def TIC_MEAS_CFG_MODE (n : Nat) : Field := ⟨0x070400 + n * 0x40, 0, 2⟩
def TIC_MEAS_CFG_START (n : Nat) : Field := ⟨0x070400 + n * 0x40, 2, 4⟩
def TIC_MEAS_CFG_STOP (n : Nat) : Field := ⟨0x070400 + n * 0x40, 6, 4⟩
def TIC_MEAS_CFG_MULTI (n : Nat) : Field := ⟨0x070400 + n * 0x40, 10, 1⟩
def TIC_MEAS_CFG_REFSEL (n : Nat) : Field := ⟨0x070400 + n * 0x40, 11, 1⟩
def TIC_MEAS_CFG (n : Nat) : Field := ⟨0x070400 + n * 0x40, 0, 16⟩
def TIC_MEAS_ARMWIN (n : Nat) : Field := ⟨0x070402 + n * 0x40, 0, 32⟩
def TIC_MEAS_SPAN (n : Nat) : Field := ⟨0x070406 + n * 0x40, 0, 16⟩
def TIC_MEAS_FNOM (n : Nat) : Field := ⟨0x070408 + n * 0x40, 0, 32⟩
def TIC_MEAS_STAT_RUNNING (n : Nat) : Field := ⟨0x07040C + n * 0x40, 0, 1⟩
def TIC_MEAS_STAT_STATRUN (n : Nat) : Field := ⟨0x07040C + n * 0x40, 1, 1⟩
def TIC_MEAS_STAT_NEW (n : Nat) : Field := ⟨0x07040C + n * 0x40, 2, 1⟩
def TIC_MEAS_STAT (n : Nat) : Field := ⟨0x07040C + n * 0x40, 0, 16⟩
def TIC_MEAS_LAST (n : Nat) : Field := ⟨0x07040E + n * 0x40, 0, 64⟩
def TIC_MEAS_RESCNT (n : Nat) : Field := ⟨0x070416 + n * 0x40, 0, 32⟩
def TIC_MEAS_ORPHCNT (n : Nat) : Field := ⟨0x07041A + n * 0x40, 0, 16⟩
def GNSS_CTRL_EN : Field := ⟨0x080010, 0, 1⟩
def GNSS_CTRL_DUAL : Field := ⟨0x080010, 1, 1⟩
def GNSS_CTRL_GALEN : Field := ⟨0x080010, 2, 1⟩
def GNSS_CTRL_AUTOACQ : Field := ⟨0x080010, 3, 1⟩
def GNSS_CTRL_JAMHOLD : Field := ⟨0x080010, 4, 1⟩
def GNSS_CTRL_LEAPAUTO : Field := ⟨0x080010, 5, 1⟩
def GNSS_CTRL_EPOCH : Field := ⟨0x080010, 6, 2⟩
def GNSS_CTRL : Field := ⟨0x080010, 0, 16⟩
def GNSS_STAT_START : Field := ⟨0x080012, 0, 3⟩
def GNSS_STAT_ACQBUSY : Field := ⟨0x080012, 3, 1⟩
def GNSS_STAT_SOLVALID : Field := ⟨0x080012, 4, 1⟩
def GNSS_STAT_ACTA : Field := ⟨0x080012, 5, 1⟩
def GNSS_STAT_ACTB : Field := ⟨0x080012, 6, 1⟩
def GNSS_STAT_SINGLEFB : Field := ⟨0x080012, 7, 1⟩
def GNSS_STAT_NTRK : Field := ⟨0x080012, 8, 7⟩
def GNSS_STAT_NFVALID : Field := ⟨0x080012, 15, 1⟩
def GNSS_STAT : Field := ⟨0x080012, 0, 16⟩
def GNSS_FSK : Field := ⟨0x080014, 0, 7⟩
def GNSS_PORTA_CFG_FMT : Field := ⟨0x080016, 0, 1⟩
def GNSS_PORTA_CFG_INV : Field := ⟨0x080016, 1, 1⟩
def GNSS_PORTA_CFG : Field := ⟨0x080016, 0, 16⟩
def GNSS_PORTB_CFG_FMT : Field := ⟨0x080018, 0, 1⟩
def GNSS_PORTB_CFG_INV : Field := ⟨0x080018, 1, 1⟩
def GNSS_PORTB_CFG : Field := ⟨0x080018, 0, 16⟩
def GNSS_IFA : Field := ⟨0x08001A, 0, 32⟩
def GNSS_IFB : Field := ⟨0x08001E, 0, 32⟩
def GNSS_IBB : Field := ⟨0x080022, 0, 32⟩
def GNSS_IBBUNC : Field := ⟨0x080026, 0, 16⟩
def GNSS_ELAST : Field := ⟨0x080028, 0, 7⟩
def GNSS_SLIPCNT : Field := ⟨0x08002A, 0, 16⟩
def GNSS_CN0MIN : Field := ⟨0x08002C, 0, 16⟩
def GNSS_GEN : Field := ⟨0x08002E, 0, 16⟩
def GNSS_JNA_PRE : Field := ⟨0x080030, 0, 8⟩
def GNSS_JNA_POST : Field := ⟨0x080030, 8, 8⟩
def GNSS_JNA : Field := ⟨0x080030, 0, 16⟩
def GNSS_JNB_PRE : Field := ⟨0x080032, 0, 8⟩
def GNSS_JNB_POST : Field := ⟨0x080032, 8, 8⟩
def GNSS_JNB : Field := ⟨0x080032, 0, 16⟩
def GNSS_JNLIM_LIM : Field := ⟨0x080034, 0, 8⟩
def GNSS_JNLIM_NOTCHTHR : Field := ⟨0x080034, 8, 8⟩
def GNSS_JNLIM : Field := ⟨0x080034, 0, 16⟩
def GNSS_JNPEAK_A : Field := ⟨0x080036, 0, 8⟩
def GNSS_JNPEAK_B : Field := ⟨0x080036, 8, 8⟩
def GNSS_JNPEAK : Field := ⟨0x080036, 0, 16⟩
def GNSS_REACQ : Field := ⟨0x080038, 0, 16⟩
def GNSS_POSMODE_MODE : Field := ⟨0x080040, 0, 2⟩
def GNSS_POSMODE_MINSV : Field := ⟨0x080040, 2, 6⟩
def GNSS_POSMODE : Field := ⟨0x080040, 0, 16⟩
def GNSS_POS : Field := ⟨0x080042, 0, 96⟩
def GNSS_POSUNC : Field := ⟨0x08004E, 0, 16⟩
def GNSS_SURVEY : Field := ⟨0x080050, 0, 32⟩
def GNSS_RAIMLIM : Field := ⟨0x080054, 0, 16⟩
def GNSS_WNBASE : Field := ⟨0x080056, 0, 16⟩
def GNSS_SOLSTAT_VALID : Field := ⟨0x080058, 0, 1⟩
def GNSS_SOLSTAT_SURVEYING : Field := ⟨0x080058, 1, 1⟩
def GNSS_SOLSTAT_RAIMEXCL : Field := ⟨0x080058, 2, 1⟩
def GNSS_SOLSTAT_RAIMFAIL : Field := ⟨0x080058, 3, 1⟩
def GNSS_SOLSTAT_DUALSOL : Field := ⟨0x080058, 4, 1⟩
def GNSS_SOLSTAT_JAMHELD : Field := ⟨0x080058, 5, 1⟩
def GNSS_SOLSTAT_NUSED : Field := ⟨0x080058, 8, 6⟩
def GNSS_SOLSTAT : Field := ⟨0x080058, 0, 16⟩
def GNSS_SOLUNC : Field := ⟨0x08005A, 0, 32⟩
def GNSS_SOLSEQ : Field := ⟨0x08005E, 0, 16⟩
def GNSS_EPHAGE : Field := ⟨0x080060, 0, 16⟩
def GNSS_ALMAGE : Field := ⟨0x080062, 0, 16⟩
def GNSS_ACQCNT : Field := ⟨0x080064, 0, 16⟩
def GNSS_NOTCH_CFG_MODE (n : Nat) : Field := ⟨0x080100 + n * 0x10, 0, 2⟩
def GNSS_NOTCH_CFG_WIDTH (n : Nat) : Field := ⟨0x080100 + n * 0x10, 2, 2⟩
def GNSS_NOTCH_CFG (n : Nat) : Field := ⟨0x080100 + n * 0x10, 0, 16⟩
def GNSS_NOTCH_FREQ (n : Nat) : Field := ⟨0x080102 + n * 0x10, 0, 32⟩
def GNSS_NOTCH_STAT_ACTIVE (n : Nat) : Field := ⟨0x080106 + n * 0x10, 0, 1⟩
def GNSS_NOTCH_STAT_LINE (n : Nat) : Field := ⟨0x080106 + n * 0x10, 8, 8⟩
def GNSS_NOTCH_STAT (n : Nat) : Field := ⟨0x080106 + n * 0x10, 0, 16⟩
def GNSS_CH_STAT_STATE (n : Nat) : Field := ⟨0x081000 + n * 0x20, 0, 3⟩
def GNSS_CH_STAT_SYS (n : Nat) : Field := ⟨0x081000 + n * 0x20, 3, 1⟩
def GNSS_CH_STAT_BTRK (n : Nat) : Field := ⟨0x081000 + n * 0x20, 4, 1⟩
def GNSS_CH_STAT_USED (n : Nat) : Field := ⟨0x081000 + n * 0x20, 5, 1⟩
def GNSS_CH_STAT_PRN (n : Nat) : Field := ⟨0x081000 + n * 0x20, 8, 8⟩
def GNSS_CH_STAT (n : Nat) : Field := ⟨0x081000 + n * 0x20, 0, 16⟩
def GNSS_CH_CN0A (n : Nat) : Field := ⟨0x081002 + n * 0x20, 0, 16⟩
def GNSS_CH_CN0B (n : Nat) : Field := ⟨0x081004 + n * 0x20, 0, 16⟩
def GNSS_CH_DOP (n : Nat) : Field := ⟨0x081006 + n * 0x20, 0, 32⟩
def GNSS_CH_LOCKT (n : Nat) : Field := ⟨0x08100A + n * 0x20, 0, 16⟩
def GNSS_CH_NAVOK (n : Nat) : Field := ⟨0x08100C + n * 0x20, 0, 16⟩
def GNSS_CH_NAVBAD (n : Nat) : Field := ⟨0x08100E + n * 0x20, 0, 16⟩
def LANE_MODE_PORTMODE : Field := ⟨0x090010, 0, 2⟩
def LANE_MODE_FEC : Field := ⟨0x090010, 2, 1⟩
def LANE_MODE : Field := ⟨0x090010, 0, 16⟩
def LANE_LINKMAP : Field := ⟨0x090012, 0, 10⟩
def LANE_FECLIM : Field := ⟨0x090014, 0, 16⟩
def LANE_GEN : Field := ⟨0x09001E, 0, 16⟩
def LANE_LANE_CFG_EN (n : Nat) : Field := ⟨0x090100 + n * 0x40, 0, 1⟩
def LANE_LANE_CFG_TXINV (n : Nat) : Field := ⟨0x090100 + n * 0x40, 1, 1⟩
def LANE_LANE_CFG_RXINV (n : Nat) : Field := ⟨0x090100 + n * 0x40, 2, 1⟩
def LANE_LANE_CFG_LOOP (n : Nat) : Field := ⟨0x090100 + n * 0x40, 3, 1⟩
def LANE_LANE_CFG (n : Nat) : Field := ⟨0x090100 + n * 0x40, 0, 16⟩
def LANE_LANE_STAT_STATE (n : Nat) : Field := ⟨0x090102 + n * 0x40, 0, 3⟩
def LANE_LANE_STAT_SIGDET (n : Nat) : Field := ⟨0x090102 + n * 0x40, 3, 1⟩
def LANE_LANE_STAT_CDRLOCK (n : Nat) : Field := ⟨0x090102 + n * 0x40, 4, 1⟩
def LANE_LANE_STAT_BLKLOCK (n : Nat) : Field := ⟨0x090102 + n * 0x40, 5, 1⟩
def LANE_LANE_STAT_AMLOCK (n : Nat) : Field := ⟨0x090102 + n * 0x40, 6, 1⟩
def LANE_LANE_STAT_HIBER (n : Nat) : Field := ⟨0x090102 + n * 0x40, 7, 1⟩
def LANE_LANE_STAT_TXPLLOCK (n : Nat) : Field := ⟨0x090102 + n * 0x40, 8, 1⟩
def LANE_LANE_STAT_RFAULT (n : Nat) : Field := ⟨0x090102 + n * 0x40, 9, 1⟩
def LANE_LANE_STAT_BYPREF (n : Nat) : Field := ⟨0x090102 + n * 0x40, 10, 1⟩
def LANE_LANE_STAT (n : Nat) : Field := ⟨0x090102 + n * 0x40, 0, 16⟩
def LANE_LANE_TXEQ_PRE (n : Nat) : Field := ⟨0x090104 + n * 0x40, 0, 5⟩
def LANE_LANE_TXEQ_POST (n : Nat) : Field := ⟨0x090104 + n * 0x40, 5, 6⟩
def LANE_LANE_TXEQ_SWING (n : Nat) : Field := ⟨0x090104 + n * 0x40, 11, 5⟩
def LANE_LANE_TXEQ (n : Nat) : Field := ⟨0x090104 + n * 0x40, 0, 16⟩
def LANE_LANE_RXEQ_AUTO (n : Nat) : Field := ⟨0x090106 + n * 0x40, 0, 1⟩
def LANE_LANE_RXEQ_CTLE (n : Nat) : Field := ⟨0x090106 + n * 0x40, 1, 5⟩
def LANE_LANE_RXEQ (n : Nat) : Field := ⟨0x090106 + n * 0x40, 0, 16⟩
def LANE_LANE_TXLAT (n : Nat) : Field := ⟨0x090108 + n * 0x40, 0, 32⟩
def LANE_LANE_SKEW (n : Nat) : Field := ⟨0x09010C + n * 0x40, 0, 16⟩
def LANE_LANE_SLIPS (n : Nat) : Field := ⟨0x09010E + n * 0x40, 0, 16⟩
def LANE_LANE_LOSCNT (n : Nat) : Field := ⟨0x090110 + n * 0x40, 0, 16⟩
def LANE_LANE_DOWNCNT (n : Nat) : Field := ⟨0x090112 + n * 0x40, 0, 16⟩
def LANE_LANE_BERCNT (n : Nat) : Field := ⟨0x090114 + n * 0x40, 0, 16⟩
def LANE_LANE_FECCORR (n : Nat) : Field := ⟨0x090116 + n * 0x40, 0, 32⟩
def LANE_LANE_FECUNC (n : Nat) : Field := ⟨0x09011A + n * 0x40, 0, 16⟩
def MTS_METERTOL : Field := ⟨0x0A0010, 0, 16⟩
def MTS_PREDTOL : Field := ⟨0x0A0012, 0, 16⟩
def MTS_LOCKMAP : Field := ⟨0x0A0014, 0, 10⟩
def MTS_RXLOCKMAP : Field := ⟨0x0A0016, 0, 10⟩
def MTS_GEN : Field := ⟨0x0A001E, 0, 16⟩
def MTS_LANE_CFG (n : Nat) : Field := ⟨0x0A0100 + n * 0x40, 0, 1⟩
def MTS_LANE_TXDLY (n : Nat) : Field := ⟨0x0A0102 + n * 0x40, 0, 32⟩
def MTS_LANE_RXDLY (n : Nat) : Field := ⟨0x0A0106 + n * 0x40, 0, 32⟩
def MTS_LANE_DLYUNC (n : Nat) : Field := ⟨0x0A010A + n * 0x40, 0, 16⟩
def MTS_LANE_TXFREQ (n : Nat) : Field := ⟨0x0A010C + n * 0x40, 0, 32⟩
def MTS_LANE_RXFREQ (n : Nat) : Field := ⟨0x0A0110 + n * 0x40, 0, 32⟩
def MTS_LANE_RESID_TX (n : Nat) : Field := ⟨0x0A0114 + n * 0x40, 0, 8⟩
def MTS_LANE_RESID_RX (n : Nat) : Field := ⟨0x0A0114 + n * 0x40, 8, 8⟩
def MTS_LANE_RESID (n : Nat) : Field := ⟨0x0A0114 + n * 0x40, 0, 16⟩
def MTS_LANE_RXSTAMP (n : Nat) : Field := ⟨0x0A0116 + n * 0x40, 0, 128⟩
def MTS_LANE_TXSTAMP (n : Nat) : Field := ⟨0x0A0126 + n * 0x40, 0, 128⟩
def MTS_LANE_RMNEXT (n : Nat) : Field := ⟨0x0A0136 + n * 0x40, 0, 16⟩
def MTS_LANE_RMUNSCH (n : Nat) : Field := ⟨0x0A0138 + n * 0x40, 0, 16⟩
def MTS_LANE_PREDERR (n : Nat) : Field := ⟨0x0A013A + n * 0x40, 0, 16⟩
def MTS_LANE_PREDCNT (n : Nat) : Field := ⟨0x0A013C + n * 0x40, 0, 16⟩
def MTS_LANE_BND (n : Nat) : Field := ⟨0x0A013E + n * 0x40, 0, 16⟩
def PKT_CTRL_EN : Field := ⟨0x0B0010, 0, 1⟩
def PKT_CTRL_NTPEN : Field := ⟨0x0B0010, 1, 1⟩
def PKT_CTRL_NTSEN : Field := ⟨0x0B0010, 2, 1⟩
def PKT_CTRL_MACEN : Field := ⟨0x0B0010, 3, 1⟩
def PKT_CTRL_PTPEN : Field := ⟨0x0B0010, 4, 1⟩
def PKT_CTRL_ANONEN : Field := ⟨0x0B0010, 5, 1⟩
def PKT_CTRL_INTLVEN : Field := ⟨0x0B0010, 6, 1⟩
def PKT_CTRL_SILENCE : Field := ⟨0x0B0010, 7, 1⟩
def PKT_CTRL_KOD : Field := ⟨0x0B0010, 8, 1⟩
def PKT_CTRL_NTSNAK : Field := ⟨0x0B0010, 9, 1⟩
def PKT_CTRL_UDP4CSUM : Field := ⟨0x0B0010, 10, 1⟩
def PKT_CTRL : Field := ⟨0x0B0010, 0, 16⟩
def PKT_SVC_STATE : Field := ⟨0x0B0012, 0, 3⟩
def PKT_SVC_BNDOVER : Field := ⟨0x0B0012, 3, 1⟩
def PKT_SVC : Field := ⟨0x0B0012, 0, 16⟩
def PKT_SVCHOLD : Field := ⟨0x0B0014, 0, 16⟩
def PKT_NTPPREC : Field := ⟨0x0B0016, 0, 8⟩
def PKT_EVT_STOMP : Field := ⟨0x0B0018, 0, 1⟩
def PKT_EVT_LOST : Field := ⟨0x0B0018, 1, 1⟩
def PKT_EVT_SPECTMO : Field := ⟨0x0B0018, 2, 1⟩
def PKT_EVT_RXOVF : Field := ⟨0x0B0018, 3, 1⟩
def PKT_EVT_RQOVF : Field := ⟨0x0B0018, 4, 1⟩
def PKT_EVT_ANONSAT : Field := ⟨0x0B0018, 5, 1⟩
def PKT_EVT_GRANTREF : Field := ⟨0x0B0018, 6, 1⟩
def PKT_EVT_LKTMO : Field := ⟨0x0B0018, 7, 1⟩
def PKT_EVT_STEPDROP : Field := ⟨0x0B0018, 8, 1⟩
def PKT_EVT_WITHDRAW : Field := ⟨0x0B0018, 9, 1⟩
def PKT_EVT_MISSRATE : Field := ⟨0x0B0018, 10, 1⟩
def PKT_EVT : Field := ⟨0x0B0018, 0, 16⟩
def PKT_MISSLIM : Field := ⟨0x0B001A, 0, 16⟩
def PKT_HOSTMAX : Field := ⟨0x0B001C, 0, 16⟩
def PKT_GEN : Field := ⟨0x0B001E, 0, 16⟩
def PKT_ANONRATE : Field := ⟨0x0B0020, 0, 16⟩
def PKT_ANONBURST : Field := ⟨0x0B0022, 0, 16⟩
def PKT_ANONPFX_PFX4 : Field := ⟨0x0B0024, 0, 6⟩
def PKT_ANONPFX_PFX6 : Field := ⟨0x0B0024, 8, 8⟩
def PKT_ANONPFX : Field := ⟨0x0B0024, 0, 16⟩
def PKT_ANONMAX : Field := ⟨0x0B0026, 0, 32⟩
def PKT_KODMAX : Field := ⟨0x0B002A, 0, 16⟩
def PKT_GRANTMIN_ANN : Field := ⟨0x0B002C, 0, 4⟩
def PKT_GRANTMIN_SYNC : Field := ⟨0x0B002C, 4, 4⟩
def PKT_GRANTMIN_DRESP : Field := ⟨0x0B002C, 8, 4⟩
def PKT_GRANTMIN : Field := ⟨0x0B002C, 0, 16⟩
def PKT_GRANTMAXDUR : Field := ⟨0x0B002E, 0, 16⟩
def PKT_GRANTBUDGET : Field := ⟨0x0B0030, 0, 32⟩
def PKT_GRANTLOAD : Field := ⟨0x0B0034, 0, 32⟩
def PKT_GRANTCNT : Field := ⟨0x0B0038, 0, 32⟩
def PKT_REFID (n : Nat) : Field := ⟨0x0B0040 + n * 0x4, 0, 32⟩
def PKT_REFIDHOLD : Field := ⟨0x0B0070, 0, 32⟩
def PKT_PORT_MAC (n : Nat) : Field := ⟨0x0B0100 + n * 0x20, 0, 48⟩
def PKT_PORT_STAT_UP (n : Nat) : Field := ⟨0x0B0106 + n * 0x20, 0, 1⟩
def PKT_PORT_STAT_METER (n : Nat) : Field := ⟨0x0B0106 + n * 0x20, 1, 1⟩
def PKT_PORT_STAT_SPECOK (n : Nat) : Field := ⟨0x0B0106 + n * 0x20, 2, 1⟩
def PKT_PORT_STAT (n : Nat) : Field := ⟨0x0B0106 + n * 0x20, 0, 16⟩
def PKT_PORT_LASTTX (n : Nat) : Field := ⟨0x0B0108 + n * 0x20, 0, 128⟩
def PKT_PORT_LASTST_SPEC (n : Nat) : Field := ⟨0x0B0118 + n * 0x20, 0, 1⟩
def PKT_PORT_LASTST_VALID (n : Nat) : Field := ⟨0x0B0118 + n * 0x20, 1, 1⟩
def PKT_PORT_LASTST_KIND (n : Nat) : Field := ⟨0x0B0118 + n * 0x20, 2, 2⟩
def PKT_PORT_LASTST (n : Nat) : Field := ⟨0x0B0118 + n * 0x20, 0, 16⟩
def PKT_ADDR_CFG_EN (n : Nat) : Field := ⟨0x0B0200 + n * 0x20, 0, 1⟩
def PKT_ADDR_CFG_V6 (n : Nat) : Field := ⟨0x0B0200 + n * 0x20, 1, 1⟩
def PKT_ADDR_CFG_GRP0 (n : Nat) : Field := ⟨0x0B0200 + n * 0x20, 2, 1⟩
def PKT_ADDR_CFG_GRP1 (n : Nat) : Field := ⟨0x0B0200 + n * 0x20, 3, 1⟩
def PKT_ADDR_CFG_TAGGED (n : Nat) : Field := ⟨0x0B0200 + n * 0x20, 4, 1⟩
def PKT_ADDR_CFG (n : Nat) : Field := ⟨0x0B0200 + n * 0x20, 0, 16⟩
def PKT_ADDR_VLAN (n : Nat) : Field := ⟨0x0B0202 + n * 0x20, 0, 12⟩
def PKT_ADDR_IP (n : Nat) : Field := ⟨0x0B0204 + n * 0x20, 0, 128⟩
def PKT_PTP_CFG_EN (n : Nat) : Field := ⟨0x0B0400 + n * 0x80, 0, 1⟩
def PKT_PTP_CFG_TWOSTEP (n : Nat) : Field := ⟨0x0B0400 + n * 0x80, 1, 1⟩
def PKT_PTP_CFG_P2P (n : Nat) : Field := ⟨0x0B0400 + n * 0x80, 2, 1⟩
def PKT_PTP_CFG_UDP4 (n : Nat) : Field := ⟨0x0B0400 + n * 0x80, 3, 1⟩
def PKT_PTP_CFG_UDP6 (n : Nat) : Field := ⟨0x0B0400 + n * 0x80, 4, 1⟩
def PKT_PTP_CFG_L2 (n : Nat) : Field := ⟨0x0B0400 + n * 0x80, 5, 1⟩
def PKT_PTP_CFG_ANONPTP (n : Nat) : Field := ⟨0x0B0400 + n * 0x80, 6, 1⟩
def PKT_PTP_CFG_AUTHEN (n : Nat) : Field := ⟨0x0B0400 + n * 0x80, 7, 1⟩
def PKT_PTP_CFG_AUTHREQ (n : Nat) : Field := ⟨0x0B0400 + n * 0x80, 8, 1⟩
def PKT_PTP_CFG (n : Nat) : Field := ⟨0x0B0400 + n * 0x80, 0, 16⟩
def PKT_PTP_DOMAIN (n : Nat) : Field := ⟨0x0B0402 + n * 0x80, 0, 8⟩
def PKT_PTP_PRIO_PRIO1 (n : Nat) : Field := ⟨0x0B0404 + n * 0x80, 0, 8⟩
def PKT_PTP_PRIO_PRIO2 (n : Nat) : Field := ⟨0x0B0404 + n * 0x80, 8, 8⟩
def PKT_PTP_PRIO (n : Nat) : Field := ⟨0x0B0404 + n * 0x80, 0, 16⟩
def PKT_PTP_INTV_ANN (n : Nat) : Field := ⟨0x0B0406 + n * 0x80, 0, 4⟩
def PKT_PTP_INTV_SYNC (n : Nat) : Field := ⟨0x0B0406 + n * 0x80, 4, 4⟩
def PKT_PTP_INTV_MINDREQ (n : Nat) : Field := ⟨0x0B0406 + n * 0x80, 8, 4⟩
def PKT_PTP_INTV (n : Nat) : Field := ⟨0x0B0406 + n * 0x80, 0, 16⟩
def PKT_PTP_SPP (n : Nat) : Field := ⟨0x0B0408 + n * 0x80, 0, 8⟩
def PKT_PTP_SLVCFG_EN (n : Nat) : Field := ⟨0x0B0410 + n * 0x80, 0, 1⟩
def PKT_PTP_SLVCFG_PORT (n : Nat) : Field := ⟨0x0B0410 + n * 0x80, 1, 2⟩
def PKT_PTP_SLVCFG_UNICAST (n : Nat) : Field := ⟨0x0B0410 + n * 0x80, 3, 1⟩
def PKT_PTP_SLVCFG_TRANSPORT (n : Nat) : Field := ⟨0x0B0410 + n * 0x80, 4, 2⟩
def PKT_PTP_SLVCFG_DREQLOG (n : Nat) : Field := ⟨0x0B0410 + n * 0x80, 8, 4⟩
def PKT_PTP_SLVCFG (n : Nat) : Field := ⟨0x0B0410 + n * 0x80, 0, 16⟩
def PKT_PTP_SLVMASTER (n : Nat) : Field := ⟨0x0B0412 + n * 0x80, 0, 64⟩
def PKT_PTP_SLVADDR (n : Nat) : Field := ⟨0x0B041A + n * 0x80, 0, 128⟩
def PKT_PTP_SLVSTAT_STATE (n : Nat) : Field := ⟨0x0B042A + n * 0x80, 0, 2⟩
def PKT_PTP_SLVSTAT_GRANTED (n : Nat) : Field := ⟨0x0B042A + n * 0x80, 2, 1⟩
def PKT_PTP_SLVSTAT (n : Nat) : Field := ⟨0x0B042A + n * 0x80, 0, 16⟩
def PKT_PTP_SLVCUR (n : Nat) : Field := ⟨0x0B042C + n * 0x80, 0, 64⟩
def PKT_PTP_SLVOFF (n : Nat) : Field := ⟨0x0B0434 + n * 0x80, 0, 48⟩
def PKT_PTP_SLVDELAY (n : Nat) : Field := ⟨0x0B043A + n * 0x80, 0, 48⟩
def PKT_PTP_SLVCHG (n : Nat) : Field := ⟨0x0B0440 + n * 0x80, 0, 16⟩
def AUTH_CTRL_EN256 : Field := ⟨0x0C0010, 0, 1⟩
def AUTH_CTRL_EN512 : Field := ⟨0x0C0010, 1, 1⟩
def AUTH_CTRL_MAXCK : Field := ⟨0x0C0010, 2, 4⟩
def AUTH_CTRL : Field := ⟨0x0C0010, 0, 16⟩
def AUTH_STAT_CURVALID : Field := ⟨0x0C0012, 0, 1⟩
def AUTH_STAT_ROTNTS : Field := ⟨0x0C0012, 1, 1⟩
def AUTH_STAT_ROTPTP : Field := ⟨0x0C0012, 2, 1⟩
def AUTH_STAT_DRBGOK : Field := ⟨0x0C0012, 3, 1⟩
def AUTH_STAT_STOREOK : Field := ⟨0x0C0012, 4, 1⟩
def AUTH_STAT : Field := ⟨0x0C0012, 0, 16⟩
def AUTH_CURNTS : Field := ⟨0x0C0014, 0, 10⟩
def AUTH_SERIAL : Field := ⟨0x0C0016, 0, 22⟩
def AUTH_USED : Field := ⟨0x0C001A, 0, 11⟩
def AUTH_FAILLIM : Field := ⟨0x0C001C, 0, 16⟩
def AUTH_GEN : Field := ⟨0x0C001E, 0, 16⟩
def AUTH_EVT_FAILRATE : Field := ⟨0x0C0020, 0, 1⟩
def AUTH_EVT_TAGLATE : Field := ⟨0x0C0020, 1, 1⟩
def AUTH_EVT_DRBGFAIL : Field := ⟨0x0C0020, 2, 1⟩
def AUTH_EVT_KEYECC : Field := ⟨0x0C0020, 3, 1⟩
def AUTH_EVT_RESTORE : Field := ⟨0x0C0020, 4, 1⟩
def AUTH_EVT : Field := ⟨0x0C0020, 0, 16⟩
def AUTH_ECCCORR : Field := ⟨0x0C0022, 0, 16⟩
def AUTH_CNT (n : Nat) : Field := ⟨0x0C0100 + n * 0x4, 0, 32⟩
def AUTH_SLOT_CFG_TYPE (n : Nat) : Field := ⟨0x0C1000 + n * 0x10, 0, 4⟩
def AUTH_SLOT_CFG_STATE (n : Nat) : Field := ⟨0x0C1000 + n * 0x10, 4, 3⟩
def AUTH_SLOT_CFG_PERSIST (n : Nat) : Field := ⟨0x0C1000 + n * 0x10, 7, 1⟩
def AUTH_SLOT_CFG_WRAPPED (n : Nat) : Field := ⟨0x0C1000 + n * 0x10, 8, 1⟩
def AUTH_SLOT_CFG (n : Nat) : Field := ⟨0x0C1000 + n * 0x10, 0, 16⟩
def AUTH_SLOT_KEYID (n : Nat) : Field := ⟨0x0C1002 + n * 0x10, 0, 32⟩
def AUTH_SLOT_SPP (n : Nat) : Field := ⟨0x0C1006 + n * 0x10, 0, 8⟩
def AUTH_SLOT_KCV (n : Nat) : Field := ⟨0x0C1008 + n * 0x10, 0, 24⟩
def AUTH_SLOT_USES (n : Nat) : Field := ⟨0x0C100C + n * 0x10, 0, 32⟩
def CTAB_STAT_READY : Field := ⟨0x0D0010, 0, 1⟩
def CTAB_STAT_TRAINED : Field := ⟨0x0D0010, 1, 2⟩
def CTAB_STAT_REBUILD : Field := ⟨0x0D0010, 3, 1⟩
def CTAB_STAT_BULKBUSY : Field := ⟨0x0D0010, 4, 1⟩
def CTAB_STAT : Field := ⟨0x0D0010, 0, 16⟩
def CTAB_BULKSHARE : Field := ⟨0x0D0012, 0, 4⟩
def CTAB_ENTRIES : Field := ⟨0x0D0014, 0, 23⟩
def CTAB_BADCNT : Field := ⟨0x0D0018, 0, 23⟩
def CTAB_GEN : Field := ⟨0x0D001E, 0, 16⟩
def CTAB_LOOKUPS : Field := ⟨0x0D0020, 0, 32⟩
def CTAB_HITS : Field := ⟨0x0D0024, 0, 32⟩
def CTAB_BADHIT : Field := ⟨0x0D0028, 0, 16⟩
def CTAB_REBDROP : Field := ⟨0x0D002A, 0, 16⟩
def CTAB_STALECMT : Field := ⟨0x0D002C, 0, 16⟩
def CTAB_LEASEEXP : Field := ⟨0x0D002E, 0, 16⟩
def CTAB_FORCEREL : Field := ⟨0x0D0030, 0, 16⟩
def CTAB_IDXFULL : Field := ⟨0x0D0032, 0, 16⟩
def CTAB_ECCCORR : Field := ⟨0x0D0040, 0, 16⟩
def CTAB_ECCUNC : Field := ⟨0x0D0042, 0, 16⟩
def CTAB_ECCLAST : Field := ⟨0x0D0044, 0, 33⟩
def CTAB_SCRUBH : Field := ⟨0x0D004A, 0, 16⟩
def CTAB_CELIM : Field := ⟨0x0D004C, 0, 16⟩
def CTAB_HISTW : Field := ⟨0x0D0050, 0, 16⟩
def CTAB_LOADAPP : Field := ⟨0x0D0060, 0, 32⟩
def CTAB_LOADREJ : Field := ⟨0x0D0064, 0, 32⟩
def CTAB_TRAIN_PASS : Field := ⟨0x0D0070, 0, 8⟩
def CTAB_TRAIN_FULL : Field := ⟨0x0D0070, 8, 1⟩
def CTAB_TRAIN : Field := ⟨0x0D0070, 0, 16⟩
def EBND_CTRL_PTPTLV : Field := ⟨0x0E0010, 0, 1⟩
def EBND_CTRL_DEGRADEB : Field := ⟨0x0E0010, 1, 1⟩
def EBND_CTRL_TRUST9 : Field := ⟨0x0E0010, 2, 1⟩
def EBND_CTRL_TRUST10 : Field := ⟨0x0E0010, 3, 1⟩
def EBND_CTRL : Field := ⟨0x0E0010, 0, 16⟩
def EBND_STAT_CLASS : Field := ⟨0x0E0012, 0, 8⟩
def EBND_STAT_BNDOVER : Field := ⟨0x0E0012, 8, 1⟩
def EBND_STAT_TRACED : Field := ⟨0x0E0012, 9, 1⟩
def EBND_STAT_STALE : Field := ⟨0x0E0012, 10, 1⟩
def EBND_STAT_FROZEN : Field := ⟨0x0E0012, 11, 1⟩
def EBND_STAT : Field := ⟨0x0E0012, 0, 16⟩
def EBND_SERVELIM : Field := ⟨0x0E0014, 0, 32⟩
def EBND_LIM248 : Field := ⟨0x0E0018, 0, 32⟩
def EBND_UNKACC : Field := ⟨0x0E001C, 0, 32⟩
def EBND_ANONASYM : Field := ⟨0x0E0020, 0, 32⟩
def EBND_NTPEFTYPE : Field := ⟨0x0E0024, 0, 16⟩
def EBND_PTPORG : Field := ⟨0x0E0026, 0, 24⟩
def EBND_OSLV : Field := ⟨0x0E002A, 0, 16⟩
def EBND_OSLVHOLD : Field := ⟨0x0E002C, 0, 16⟩
def EBND_GEN : Field := ⟨0x0E003E, 0, 16⟩
def EBND_REFUNC (n : Nat) : Field := ⟨0x0E0040 + n * 0x4, 0, 32⟩
def EBND_COMMON : Field := ⟨0x0E0080, 0, 48⟩
def EBND_SEQ : Field := ⟨0x0E0086, 0, 16⟩
def EBND_ASYNCCNT : Field := ⟨0x0E0088, 0, 16⟩
def EBND_COMP (n : Nat) : Field := ⟨0x0E0090 + n * 0x4, 0, 32⟩
def EBND_PORT (n : Nat) : Field := ⟨0x0E0100 + n * 0x4, 0, 32⟩
def MGMT_FWVER_MINOR : Field := ⟨0x0F0010, 0, 8⟩
def MGMT_FWVER_MAJOR : Field := ⟨0x0F0010, 8, 8⟩
def MGMT_FWVER : Field := ⟨0x0F0010, 0, 16⟩
def MGMT_FWBUILD : Field := ⟨0x0F0012, 0, 16⟩
def MGMT_WBSTAT_LONG : Field := ⟨0x0F0014, 0, 7⟩
def MGMT_WBSTAT_SAFE : Field := ⟨0x0F0014, 7, 1⟩
def MGMT_WBSTAT : Field := ⟨0x0F0014, 0, 16⟩
def MGMT_TAKEN : Field := ⟨0x0F0016, 0, 32⟩
def MGMT_CRCERR : Field := ⟨0x0F001A, 0, 16⟩
def MGMT_FRAMEERR : Field := ⟨0x0F001C, 0, 16⟩
def MGMT_UNKNOWN : Field := ⟨0x0F001E, 0, 16⟩
def MGMT_MANFAIL : Field := ⟨0x0F0020, 0, 16⟩
def HIF_STAT_LINKUP : Field := ⟨0x100010, 0, 1⟩
def HIF_STAT_SPEED : Field := ⟨0x100010, 1, 3⟩
def HIF_STAT_WIDTH : Field := ⟨0x100010, 4, 3⟩
def HIF_STAT_BUSMASTER : Field := ⟨0x100010, 7, 1⟩
def HIF_STAT_MSIXEN : Field := ⟨0x100010, 8, 1⟩
def HIF_STAT : Field := ⟨0x100010, 0, 16⟩
def HIF_ACCESS_SPIWR : Field := ⟨0x100012, 0, 1⟩
def HIF_ACCESS_CONWR : Field := ⟨0x100012, 1, 1⟩
def HIF_ACCESS : Field := ⟨0x100012, 0, 16⟩
def HIF_CONCFG : Field := ⟨0x100014, 0, 3⟩
def HIF_SPIWAIT : Field := ⟨0x100016, 0, 4⟩
def HIF_UNMAPCNT : Field := ⟨0x100018, 0, 16⟩
def HIF_PARTCNT : Field := ⟨0x10001A, 0, 16⟩
def HIF_SPIERR : Field := ⟨0x10001C, 0, 16⟩
def HIF_GEN : Field := ⟨0x10001E, 0, 16⟩
def HIF_PCIID : Field := ⟨0x100020, 0, 16⟩
def HIF_RING_CFG_EN (n : Nat) : Field := ⟨0x100100 + n * 0x20, 0, 1⟩
def HIF_RING_CFG_DEPTHLOG (n : Nat) : Field := ⟨0x100100 + n * 0x20, 1, 4⟩
def HIF_RING_CFG (n : Nat) : Field := ⟨0x100100 + n * 0x20, 0, 16⟩
def HIF_RING_WBASE (n : Nat) : Field := ⟨0x100102 + n * 0x20, 0, 64⟩
def HIF_RING_MBASE (n : Nat) : Field := ⟨0x10010A + n * 0x20, 0, 64⟩
def HIF_RING_PROD (n : Nat) : Field := ⟨0x100112 + n * 0x20, 0, 16⟩
def HIF_RING_CONS (n : Nat) : Field := ⟨0x100114 + n * 0x20, 0, 16⟩
def HIF_Q_CFG_EN (n : Nat) : Field := ⟨0x100200 + n * 0x20, 0, 1⟩
def HIF_Q_CFG_DEPTHLOG (n : Nat) : Field := ⟨0x100200 + n * 0x20, 1, 4⟩
def HIF_Q_CFG (n : Nat) : Field := ⟨0x100200 + n * 0x20, 0, 16⟩
def HIF_Q_BASE (n : Nat) : Field := ⟨0x100202 + n * 0x20, 0, 64⟩
def HIF_Q_PROD (n : Nat) : Field := ⟨0x10020A + n * 0x20, 0, 16⟩
def HIF_Q_CONS (n : Nat) : Field := ⟨0x10020C + n * 0x20, 0, 16⟩
def HIF_Q_DROP (n : Nat) : Field := ⟨0x10020E + n * 0x20, 0, 16⟩
def HIF_DMA_HADDR (n : Nat) : Field := ⟨0x100300 + n * 0x20, 0, 64⟩
def HIF_DMA_MADDR (n : Nat) : Field := ⟨0x100308 + n * 0x20, 0, 33⟩
def HIF_DMA_LEN (n : Nat) : Field := ⟨0x10030E + n * 0x20, 0, 32⟩
def HIF_DMA_CTRL_START (n : Nat) : Field := ⟨0x100312 + n * 0x20, 0, 1⟩
def HIF_DMA_CTRL_ABORT (n : Nat) : Field := ⟨0x100312 + n * 0x20, 1, 1⟩
def HIF_DMA_CTRL (n : Nat) : Field := ⟨0x100312 + n * 0x20, 0, 16⟩
def HIF_DMA_STAT_BUSY (n : Nat) : Field := ⟨0x100314 + n * 0x20, 0, 1⟩
def HIF_DMA_STAT_DONE (n : Nat) : Field := ⟨0x100314 + n * 0x20, 1, 1⟩
def HIF_DMA_STAT_ERR (n : Nat) : Field := ⟨0x100314 + n * 0x20, 2, 3⟩
def HIF_DMA_STAT (n : Nat) : Field := ⟨0x100314 + n * 0x20, 0, 16⟩
def HIF_DMA_MOVED (n : Nat) : Field := ⟨0x100316 + n * 0x20, 0, 32⟩
def INTC_HOST_CLAIM : Field := ⟨0x110100, 0, 8⟩
def INTC_HOST_COMPLETE : Field := ⟨0x110102, 0, 8⟩
def INTC_HOST_STAT_LINE : Field := ⟨0x110104, 0, 1⟩
def INTC_HOST_STAT_LEVEL : Field := ⟨0x110104, 1, 4⟩
def INTC_HOST_STAT_DEPTH : Field := ⟨0x110104, 5, 5⟩
def INTC_HOST_STAT : Field := ⟨0x110104, 0, 16⟩
def INTC_HOST_SPUR : Field := ⟨0x110106, 0, 16⟩
def INTC_HOST_COMPERR : Field := ⟨0x110108, 0, 16⟩
def INTC_HOST_REBUILD : Field := ⟨0x11010A, 0, 16⟩
def INTC_HOST_STACK_SRC (n : Nat) : Field := ⟨0x110110 + n * 0x2, 0, 8⟩
def INTC_HOST_STACK_PRIO (n : Nat) : Field := ⟨0x110110 + n * 0x2, 8, 4⟩
def INTC_HOST_STACK (n : Nat) : Field := ⟨0x110110 + n * 0x2, 0, 16⟩
def INTC_HOST_PEND (n : Nat) : Field := ⟨0x110400 + n * 0x2, 0, 16⟩
def INTC_MGMT_PEND (n : Nat) : Field := ⟨0x110440 + n * 0x2, 0, 16⟩
def INTC_GEN : Field := ⟨0x11001E, 0, 16⟩
def INTC_SRC_HCFG_PRIO (n : Nat) : Field := ⟨0x111000 + n * 0x2, 0, 4⟩
def INTC_SRC_HCFG_EN (n : Nat) : Field := ⟨0x111000 + n * 0x2, 4, 1⟩
def INTC_SRC_HCFG_LEVEL (n : Nat) : Field := ⟨0x111000 + n * 0x2, 5, 1⟩
def INTC_SRC_HCFG (n : Nat) : Field := ⟨0x111000 + n * 0x2, 0, 16⟩
def INTC_SRC_MCFG (n : Nat) : Field := ⟨0x111200 + n * 0x2, 0, 16⟩
def FCOL_CTRL_COMPAT : Field := ⟨0x120010, 0, 1⟩
def FCOL_CTRL_CRITHOLD : Field := ⟨0x120010, 1, 1⟩
def FCOL_CTRL : Field := ⟨0x120010, 0, 16⟩
def FCOL_QUIET : Field := ⟨0x120012, 0, 16⟩
def FCOL_CRITPULSE : Field := ⟨0x120014, 0, 16⟩
def FCOL_LEDGERMAX : Field := ⟨0x120016, 0, 16⟩
def FCOL_GEN : Field := ⟨0x12001E, 0, 16⟩
def FCOL_DOMSTAT_FAULT : Field := ⟨0x120020, 0, 4⟩
def FCOL_DOMSTAT_QUIET : Field := ⟨0x120020, 4, 4⟩
def FCOL_DOMSTAT_ALIVE : Field := ⟨0x120020, 8, 4⟩
def FCOL_DOMSTAT : Field := ⟨0x120020, 0, 16⟩
def FCOL_DOMCLR : Field := ⟨0x120022, 0, 4⟩
def FCOL_CRIT_LATCH : Field := ⟨0x120024, 0, 1⟩
def FCOL_CRIT_PULSE : Field := ⟨0x120024, 1, 1⟩
def FCOL_CRIT_PIN : Field := ⟨0x120024, 2, 1⟩
def FCOL_CRIT : Field := ⟨0x120024, 0, 16⟩
def FCOL_CRITCNT : Field := ⟨0x120026, 0, 16⟩
def FCOL_FENCEMAP : Field := ⟨0x120028, 0, 8⟩
def FCOL_FORCECNT : Field := ⟨0x12002A, 0, 16⟩
def FCOL_LOGFILL : Field := ⟨0x12002C, 0, 8⟩
def FCOL_LOGOVF : Field := ⟨0x12002E, 0, 16⟩
def FCOL_LOST : Field := ⟨0x120030, 0, 16⟩
def FCOL_FIRSTSTAT : Field := ⟨0x120040, 0, 1⟩
def FCOL_FIRSTNUM : Field := ⟨0x120042, 0, 48⟩
def FCOL_FIRST (n : Nat) : Field := ⟨0x120050 + n * 0x2, 0, 16⟩
def FCOL_LDGNEXT : Field := ⟨0x120080, 0, 48⟩
def FCOL_LDGOLDEST : Field := ⟨0x120086, 0, 48⟩
def FCOL_LDGSTAT_READY : Field := ⟨0x12008C, 0, 1⟩
def FCOL_LDGSTAT_SPARE : Field := ⟨0x12008C, 1, 7⟩
def FCOL_LDGSTAT_BADREC : Field := ⟨0x12008C, 8, 8⟩
def FCOL_LDGSTAT : Field := ⟨0x12008C, 0, 16⟩
def FCOL_LDGSUPPR : Field := ⟨0x12008E, 0, 16⟩
def FCOL_LDGWEAR : Field := ⟨0x120090, 0, 32⟩
def FCOL_RCNT (n : Nat) : Field := ⟨0x120400 + n * 0x2, 0, 16⟩
def FCOL_CLS_CFG_CRIT (n : Nat) : Field := ⟨0x120800 + n * 0x2, 0, 1⟩
def FCOL_CLS_CFG_FIXED (n : Nat) : Field := ⟨0x120800 + n * 0x2, 1, 1⟩
def FCOL_CLS_CFG_USED (n : Nat) : Field := ⟨0x120800 + n * 0x2, 2, 1⟩
def FCOL_CLS_CFG (n : Nat) : Field := ⟨0x120800 + n * 0x2, 0, 16⟩
def RDN_CFG_MODE : Field := ⟨0x130010, 0, 2⟩
def RDN_CFG_UNIT : Field := ⟨0x130010, 2, 1⟩
def RDN_CFG_CRITREL : Field := ⟨0x130010, 3, 1⟩
def RDN_CFG_BNDREL : Field := ⟨0x130010, 4, 1⟩
def RDN_CFG_PREFER : Field := ⟨0x130010, 5, 1⟩
def RDN_CFG_LANEMASK : Field := ⟨0x130010, 6, 2⟩
def RDN_CFG : Field := ⟨0x130010, 0, 16⟩
def RDN_STAT_ROLE : Field := ⟨0x130012, 0, 3⟩
def RDN_STAT_GATE : Field := ⟨0x130012, 3, 1⟩
def RDN_STAT_NETGATE : Field := ⟨0x130012, 4, 1⟩
def RDN_STAT_READY : Field := ⟨0x130012, 5, 1⟩
def RDN_STAT_PARTNER : Field := ⟨0x130012, 6, 1⟩
def RDN_STAT_CLMOK : Field := ⟨0x130012, 7, 1⟩
def RDN_STAT_GNTST : Field := ⟨0x130012, 8, 2⟩
def RDN_STAT_HOSCHED : Field := ⟨0x130012, 10, 1⟩
def RDN_STAT : Field := ⟨0x130012, 0, 16⟩
def RDN_CLAIM : Field := ⟨0x130014, 0, 16⟩
def RDN_PCLAIM : Field := ⟨0x130016, 0, 16⟩
def RDN_HBTMO : Field := ⟨0x130018, 0, 16⟩
def RDN_PREP : Field := ⟨0x13001A, 0, 16⟩
def RDN_PFLAGS : Field := ⟨0x13001C, 0, 4⟩
def RDN_GEN : Field := ⟨0x13001E, 0, 16⟩
def RDN_HOTIME : Field := ⟨0x130020, 0, 64⟩
def RDN_PBOUND : Field := ⟨0x130028, 0, 48⟩
def RDN_SWCNT : Field := ⟨0x130040, 0, 16⟩
def RDN_HOFAIL : Field := ⟨0x130042, 0, 16⟩
def RDN_HBLOSS : Field := ⟨0x130044, 0, 16⟩
def RDN_CLMERR : Field := ⟨0x130046, 0, 16⟩
def RDN_CLMBACK : Field := ⟨0x130048, 0, 16⟩
def RDN_DUALACT : Field := ⟨0x13004A, 0, 16⟩
def RDN_UNCOORD : Field := ⟨0x13004C, 0, 16⟩
def RDN_ARBSTAT_STATE : Field := ⟨0x130060, 0, 3⟩
def RDN_ARBSTAT_REQ0 : Field := ⟨0x130060, 3, 1⟩
def RDN_ARBSTAT_REQ1 : Field := ⟨0x130060, 4, 1⟩
def RDN_ARBSTAT : Field := ⟨0x130060, 0, 16⟩
def RDN_ARBCNT : Field := ⟨0x130062, 0, 16⟩
def INTC_MGMT_CLAIM : Field := ⟨0x110200, 0, 8⟩
def INTC_MGMT_COMPLETE : Field := ⟨0x110202, 0, 8⟩
def INTC_MGMT_STAT_LINE : Field := ⟨0x110204, 0, 1⟩
def INTC_MGMT_STAT_LEVEL : Field := ⟨0x110204, 1, 4⟩
def INTC_MGMT_STAT_DEPTH : Field := ⟨0x110204, 5, 5⟩
def INTC_MGMT_STAT : Field := ⟨0x110204, 0, 16⟩
def INTC_MGMT_SPUR : Field := ⟨0x110206, 0, 16⟩
def INTC_MGMT_COMPERR : Field := ⟨0x110208, 0, 16⟩
def INTC_MGMT_REBUILD : Field := ⟨0x11020A, 0, 16⟩
def INTC_MGMT_STACK_SRC (n : Nat) : Field := ⟨0x110210 + n * 0x2, 0, 8⟩
def INTC_MGMT_STACK_PRIO (n : Nat) : Field := ⟨0x110210 + n * 0x2, 8, 4⟩
def INTC_MGMT_STACK (n : Nat) : Field := ⟨0x110210 + n * 0x2, 0, 16⟩
def PKT_CNT (n : Nat) : Field := ⟨0x0B0800 + n * 0x4, 0, 32⟩

end F
end Sys2Proof.Machine
end

