-- ==== Sys2Proof/Machine/RegMap.lean ====
section
/-! DEFINITION. The register map: every register of every block window (spec/00 R4, R11; spec/01 Table 1-9; the register
tables of spec/02 to spec/18), with each field's place, access code (R12), value after a cold start (R74: the factory value
for a field loaded from the configuration store) and stated range.  A field the spec gives no value for holds 0 (log entry 2). -/
namespace Sys2Proof.Machine

/-- The access codes of R12; `res` is a reserved field (R13). -/
inductive Access | ro | rw | w1c | w1s | rc | res
  deriving DecidableEq, Repr

/-- One field of a register: name, lowest bit, width, access, value after a cold start, per-group values where they differ, range. -/
structure FieldRow where
  name : String
  lo : Nat
  wid : Nat
  acc : Access
  cold : Nat
  inst : List Nat
  vmin : Nat
  vmax : Nat
  deriving DecidableEq, Repr

/-- One register or group of registers: offset in the window, words, stride and number of the group, and the offset
of the generation register that R44 moves on a change (0: none; `genStride` is the group's stride where each unit has its own). -/
structure RegRow where
  name : String
  off : Nat
  words : Nat
  stride : Nat
  count : Nat
  gen : Nat
  genStride : Nat
  fields : List FieldRow
  deriving DecidableEq, Repr

/-- The registers of SEQ (window 0x00). -/
def regsSEQ : List RegRow := [
  ⟨"SEQ_ID", 0, 1, 0, 1, 0, 0, [⟨"VERSION", 0, 8, .ro, 1, [], 0, 255⟩, ⟨"-", 8, 3, .res, 0, [], 0, 0⟩, ⟨"BLOCK", 11, 5, .ro, 0, [], 0, 31⟩]⟩,
  ⟨"SEQ_PART", 0x0002, 1, 0x0, 1, 0x0, 0x0, [⟨"PART", 0, 16, .ro, 29696, [], 0, 65535⟩]⟩,
  ⟨"SEQ_VARIANT", 0x0004, 1, 0x0, 1, 0x0, 0x0, [⟨"GRADE", 0, 2, .ro, 0, [], 0, 1⟩, ⟨"-", 2, 14, .res, 0, [], 0, 0⟩]⟩,
  ⟨"SEQ_STARTINFO", 0x0010, 1, 0x0, 1, 0x0, 0x0, [⟨"KIND", 0, 2, .ro, 0, [], 0, 2⟩, ⟨"REASON", 2, 3, .ro, 0, [], 0, 7⟩, ⟨"CAUSE", 5, 3, .ro, 0, [], 0, 5⟩, ⟨"-", 8, 8, .res, 0, [], 0, 0⟩]⟩,
  ⟨"SEQ_STATE", 0x0012, 1, 0x0, 1, 0x0, 0x0, [⟨"STEP", 0, 4, .ro, 0, [], 0, 15⟩, ⟨"STATE", 4, 3, .ro, 0, [], 0, 7⟩, ⟨"-", 7, 9, .res, 0, [], 0, 0⟩]⟩,
  ⟨"SEQ_FAILCNT", 0x0014, 1, 0x0, 1, 0x0, 0x0, [⟨"WFAIL", 0, 2, .ro, 0, [], 0, 3⟩, ⟨"CFAIL", 2, 2, .ro, 0, [], 0, 3⟩, ⟨"-", 4, 12, .res, 0, [], 0, 0⟩]⟩,
  ⟨"SEQ_CTRL", 0x0016, 1, 0x0, 1, 0x0, 0x0, [⟨"FORCECOLD", 0, 1, .rw, 0, [], 0, 1⟩, ⟨"-", 1, 15, .res, 0, [], 0, 0⟩]⟩,
  ⟨"SEQ_SAFECLR", 0x0018, 1, 0x0, 1, 0x0, 0x0, [⟨"KEY", 0, 16, .w1s, 0, [], 0, 65535⟩]⟩,
  ⟨"SEQ_WARMMAX", 0x001A, 1, 0x0, 1, 0x0, 0x0, [⟨"MINUTES", 0, 16, .rw, 1440, [], 0, 65535⟩]⟩,
  ⟨"SEQ_CKPT", 0x0020, 1, 0x0, 1, 0x0, 0x0, [⟨"VALID", 0, 1, .ro, 0, [], 0, 1⟩, ⟨"SLOT", 1, 6, .ro, 0, [], 0, 63⟩, ⟨"SKIPS", 7, 9, .rc, 0, [], 0, 511⟩]⟩,
  ⟨"SEQ_CKPTSEQ", 0x0022, 1, 0x0, 1, 0x0, 0x0, [⟨"SEQNO", 0, 16, .ro, 0, [], 0, 65535⟩]⟩,
  ⟨"SEQ_CKPTDUR", 0x0024, 1, 0x0, 1, 0x0, 0x0, [⟨"US", 0, 16, .ro, 0, [], 0, 65535⟩]⟩,
  ⟨"SEQ_OUTAGE", 0x0026, 2, 0x0, 1, 0x0, 0x0, [⟨"SECONDS", 0, 32, .ro, 0, [], 0, 4294967295⟩]⟩,
  ⟨"SEQ_STEPDUR", 0x0040, 1, 0x2, 9, 0x0, 0x0, [⟨"MS", 0, 16, .ro, 0, [], 0, 65535⟩]⟩ ]

/-- The registers of PSU (window 0x01). -/
def regsPSU : List RegRow := [
  ⟨"PSU_ID", 0, 1, 0, 1, 0, 0, [⟨"VERSION", 0, 8, .ro, 1, [], 0, 255⟩, ⟨"-", 8, 3, .res, 0, [], 0, 0⟩, ⟨"BLOCK", 11, 5, .ro, 1, [], 0, 31⟩]⟩,
  ⟨"PSU_STAT", 0x0010, 1, 0x0, 1, 0x0, 0x0, [⟨"WARN", 0, 1, .ro, 0, [], 0, 1⟩, ⟨"VBATOK", 1, 1, .ro, 0, [], 0, 1⟩, ⟨"RAILOK", 2, 1, .ro, 1, [], 0, 1⟩, ⟨"-", 3, 13, .res, 0, [], 0, 0⟩]⟩,
  ⟨"PSU_EVT", 0x0012, 1, 0x0, 1, 0x0, 0x0, [⟨"WARN", 0, 1, .w1c, 0, [], 0, 1⟩, ⟨"RESETLVL", 1, 1, .w1c, 0, [], 0, 1⟩, ⟨"VBATLOW", 2, 1, .w1c, 0, [], 0, 1⟩, ⟨"RAILFLT", 3, 1, .w1c, 0, [], 0, 1⟩, ⟨"OVERTEMP", 4, 1, .w1c, 0, [], 0, 1⟩, ⟨"-", 5, 11, .res, 0, [], 0, 0⟩]⟩,
  ⟨"PSU_DIPCNT", 0x0014, 1, 0x0, 1, 0x0, 0x0, [⟨"COUNT", 0, 16, .rc, 0, [], 0, 65535⟩]⟩,
  ⟨"PSU_VIN", 0x0016, 1, 0x0, 1, 0x0, 0x0, [⟨"MV", 0, 16, .ro, 0, [], 0, 65535⟩]⟩,
  ⟨"PSU_VBAT", 0x0018, 1, 0x0, 1, 0x0, 0x0, [⟨"MV", 0, 16, .ro, 0, [], 0, 65535⟩]⟩,
  ⟨"PSU_TJ", 0x001A, 1, 0x0, 1, 0x0, 0x0, [⟨"TEMP", 0, 16, .ro, 0, [], 0, 65535⟩]⟩,
  ⟨"PSU_AONSTAT", 0x0030, 1, 0x0, 1, 0x0, 0x0, [⟨"VALID", 0, 1, .ro, 0, [], 0, 1⟩, ⟨"SRC", 1, 2, .ro, 2, [], 0, 3⟩, ⟨"SRCCHG", 3, 1, .w1c, 0, [], 0, 1⟩, ⟨"VBATUSED", 4, 1, .w1c, 0, [], 0, 1⟩, ⟨"-", 5, 11, .res, 0, [], 0, 0⟩]⟩ ]

/-- The registers of RMON (window 0x02). -/
def regsRMON : List RegRow := [
  ⟨"RMON_ID", 0, 1, 0, 1, 0, 0, [⟨"VERSION", 0, 8, .ro, 1, [], 0, 255⟩, ⟨"-", 8, 3, .res, 0, [], 0, 0⟩, ⟨"BLOCK", 11, 5, .ro, 2, [], 0, 31⟩]⟩,
  ⟨"RMON_REF_CFG", 0x0100, 1, 0x40, 12, 0x12E, 0x40, [⟨"ENABLE", 0, 1, .rw, 0, [0, 0, 0, 0, 0, 0, 0, 0, 1, 1, 1, 1], 0, 1⟩, ⟨"DIFF", 1, 1, .rw, 0, [], 0, 1⟩, ⟨"PHASEMODE", 2, 1, .rw, 0, [0, 0, 0, 0, 0, 0, 0, 0, 1, 1, 1, 1], 0, 1⟩, ⟨"SLOPEEN", 3, 1, .rw, 1, [], 0, 1⟩, ⟨"RANK", 4, 4, .rw, 0, [0, 0, 0, 0, 0, 0, 0, 0, 1, 2, 2, 0], 0, 15⟩, ⟨"-", 8, 8, .res, 0, [], 0, 0⟩]⟩,
  ⟨"RMON_REF_FNOM", 0x0102, 2, 0x40, 12, 0x12E, 0x40, [⟨"HZ", 0, 32, .rw, 0, [0, 0, 0, 0, 0, 0, 0, 0, 1, 1, 1, 1], 1, 800000000⟩]⟩,
  ⟨"RMON_REF_QUALTIME", 0x0106, 1, 0x40, 12, 0x12E, 0x40, [⟨"S", 0, 16, .rw, 0, [60, 60, 60, 60, 60, 60, 60, 60, 300, 300, 300, 30], 1, 65535⟩]⟩,
  ⟨"RMON_REF_ACCEPT", 0x0108, 2, 0x40, 12, 0x12E, 0x40, [⟨"PS", 0, 32, .rw, 0, [50000, 50000, 50000, 50000, 50000, 50000, 50000, 50000, 50000, 100000, 100000, 20000], 0, 4294967295⟩]⟩,
  ⟨"RMON_REF_REJECT", 0x010C, 2, 0x40, 12, 0x12E, 0x40, [⟨"PS", 0, 32, .rw, 0, [150000, 150000, 150000, 150000, 150000, 150000, 150000, 150000, 150000, 300000, 300000, 60000], 0, 4294967295⟩]⟩,
  ⟨"RMON_REF_SLOPELIM", 0x0110, 1, 0x40, 12, 0x12E, 0x40, [⟨"LIM", 0, 16, .rw, 0, [20, 20, 20, 20, 20, 20, 20, 20, 20, 50, 50, 20], 0, 65535⟩]⟩,
  ⟨"RMON_REF_FWIN", 0x0112, 1, 0x40, 12, 0x12E, 0x40, [⟨"PPB", 0, 16, .rw, 0, [10000, 10000, 10000, 10000, 10000, 10000, 10000, 10000, 1000, 1000, 1000, 1000], 1, 65535⟩]⟩,
  ⟨"RMON_REF_DELAY", 0x0114, 2, 0x40, 12, 0x12E, 0x40, [⟨"PS", 0, 32, .rw, 0, [], 0, 4294967295⟩]⟩,
  ⟨"RMON_REF_STATE", 0x0118, 1, 0x40, 12, 0x12E, 0x40, [⟨"STATE", 0, 3, .ro, 0, [], 0, 7⟩, ⟨"ACT", 3, 1, .ro, 0, [], 0, 1⟩, ⟨"FWOK", 4, 1, .ro, 0, [], 0, 1⟩, ⟨"PHVALID", 5, 1, .ro, 0, [], 0, 1⟩, ⟨"SLOPEVALID", 6, 1, .ro, 0, [], 0, 1⟩, ⟨"SELECTED", 7, 1, .ro, 0, [], 0, 1⟩, ⟨"-", 8, 8, .res, 0, [], 0, 0⟩]⟩,
  ⟨"RMON_REF_OFFSET", 0x011A, 3, 0x40, 12, 0x12E, 0x40, [⟨"PS", 0, 48, .ro, 0, [], 0, 281474976710655⟩]⟩,
  ⟨"RMON_REF_FOFF", 0x0120, 2, 0x40, 12, 0x12E, 0x40, [⟨"FRAC", 0, 32, .ro, 0, [], 0, 4294967295⟩]⟩,
  ⟨"RMON_REF_SLOPE", 0x0124, 2, 0x40, 12, 0x12E, 0x40, [⟨"FRAC", 0, 32, .ro, 0, [], 0, 4294967295⟩]⟩,
  ⟨"RMON_REF_QREMAIN", 0x0128, 1, 0x40, 12, 0x12E, 0x40, [⟨"S", 0, 16, .ro, 0, [], 0, 65535⟩]⟩,
  ⟨"RMON_REF_REJCNT", 0x012A, 1, 0x40, 12, 0x12E, 0x40, [⟨"COUNT", 0, 16, .rc, 0, [], 0, 65535⟩]⟩,
  ⟨"RMON_REF_LOSCNT", 0x012C, 1, 0x40, 12, 0x12E, 0x40, [⟨"COUNT", 0, 16, .rc, 0, [], 0, 65535⟩]⟩,
  ⟨"RMON_REF_GEN", 0x012E, 1, 0x40, 12, 0x12E, 0x40, [⟨"GEN", 0, 16, .ro, 0, [], 0, 65535⟩]⟩,
  ⟨"RMON_QUALMAP", 0x0010, 1, 0x0, 1, 0x0, 0x0, [⟨"MAP", 0, 12, .ro, 0, [], 0, 4095⟩, ⟨"-", 12, 4, .res, 0, [], 0, 0⟩]⟩,
  ⟨"RMON_DRIFTMAP", 0x0012, 1, 0x0, 1, 0x0, 0x0, [⟨"MAP", 0, 12, .ro, 0, [], 0, 4095⟩, ⟨"-", 12, 4, .res, 0, [], 0, 0⟩]⟩,
  ⟨"RMON_REJMAP", 0x0014, 1, 0x0, 1, 0x0, 0x0, [⟨"MAP", 0, 12, .ro, 0, [], 0, 4095⟩, ⟨"-", 12, 4, .res, 0, [], 0, 0⟩]⟩ ] ++ [
  ⟨"RMON_ACTMAP", 0x0016, 1, 0x0, 1, 0x0, 0x0, [⟨"MAP", 0, 12, .ro, 0, [], 0, 4095⟩, ⟨"-", 12, 4, .res, 0, [], 0, 0⟩]⟩,
  ⟨"RMON_WITNESS", 0x0018, 1, 0x0, 1, 0x0, 0x0, [⟨"FVALID", 0, 1, .ro, 0, [], 0, 1⟩, ⟨"PVALID", 1, 1, .ro, 0, [], 0, 1⟩, ⟨"-", 2, 14, .res, 0, [], 0, 0⟩]⟩ ]

/-- The registers of DPLL (window 0x03). -/
def regsDPLL : List RegRow := [
  ⟨"DPLL_ID", 0, 1, 0, 1, 0, 0, [⟨"VERSION", 0, 8, .ro, 1, [], 0, 255⟩, ⟨"-", 8, 3, .res, 0, [], 0, 0⟩, ⟨"BLOCK", 11, 5, .ro, 3, [], 0, 31⟩]⟩,
  ⟨"DPLL_SELMAN", 0x0200, 1, 0x0, 1, 0x20E, 0x0, [⟨"MREF", 0, 4, .rw, 15, [], 0, 15⟩, ⟨"REVERT", 4, 1, .rw, 0, [], 0, 1⟩, ⟨"-", 5, 11, .res, 0, [], 0, 0⟩]⟩,
  ⟨"DPLL_SELSTAT", 0x0202, 1, 0x0, 1, 0x20E, 0x0, [⟨"ACTIVE", 0, 4, .ro, 15, [], 0, 15⟩, ⟨"REASON", 4, 3, .ro, 4, [], 0, 7⟩, ⟨"CONFLICT", 7, 1, .ro, 0, [], 0, 1⟩, ⟨"HOSTWAIT", 8, 1, .ro, 0, [], 0, 1⟩, ⟨"FIRSTQUAL", 9, 1, .ro, 1, [], 0, 1⟩, ⟨"-", 10, 6, .res, 0, [], 0, 0⟩]⟩,
  ⟨"DPLL_SELDIS", 0x0204, 1, 0x0, 1, 0x20E, 0x0, [⟨"LIM", 0, 16, .rw, 5000, [], 0, 65535⟩]⟩,
  ⟨"DPLL_SELVOTE", 0x0206, 1, 0x0, 1, 0x20E, 0x0, [⟨"S", 0, 16, .rw, 300, [], 1, 65535⟩]⟩,
  ⟨"DPLL_SELCONF", 0x0208, 1, 0x0, 1, 0x20E, 0x0, [⟨"MAP", 0, 12, .ro, 0, [], 0, 4095⟩, ⟨"RANK", 12, 4, .ro, 0, [], 0, 15⟩]⟩,
  ⟨"DPLL_SELVREM", 0x020A, 1, 0x0, 1, 0x20E, 0x0, [⟨"S", 0, 16, .ro, 0, [], 0, 65535⟩]⟩,
  ⟨"DPLL_SELCNT", 0x020C, 1, 0x0, 1, 0x20E, 0x0, [⟨"COUNT", 0, 16, .rc, 0, [], 0, 65535⟩]⟩,
  ⟨"DPLL_SELGEN", 0x020E, 1, 0x0, 1, 0x20E, 0x0, [⟨"GEN", 0, 16, .ro, 0, [], 0, 65535⟩]⟩,
  ⟨"DPLL_MODE", 0x0010, 1, 0x0, 1, 0x3E, 0x0, [⟨"OPEN", 0, 1, .rw, 0, [], 0, 1⟩, ⟨"CLOSEBUMP", 1, 1, .rw, 0, [], 0, 1⟩, ⟨"DAMP", 2, 3, .rw, 1, [], 0, 4⟩, ⟨"SAMPIRQ", 5, 1, .rw, 0, [], 0, 1⟩, ⟨"-", 6, 10, .res, 0, [], 0, 0⟩]⟩,
  ⟨"DPLL_STAT", 0x0012, 1, 0x0, 1, 0x3E, 0x0, [⟨"MODE", 0, 3, .ro, 0, [], 0, 7⟩, ⟨"PHLOCK", 3, 1, .ro, 0, [], 0, 1⟩, ⟨"CLAMP", 4, 1, .ro, 0, [], 0, 1⟩, ⟨"SLEWING", 5, 1, .ro, 0, [], 0, 1⟩, ⟨"PHVALID", 6, 1, .ro, 0, [], 0, 1⟩, ⟨"BWLIM", 7, 1, .ro, 0, [], 0, 1⟩, ⟨"OSCCHG", 8, 1, .ro, 0, [], 0, 1⟩, ⟨"FRESH", 9, 1, .ro, 0, [], 0, 1⟩, ⟨"-", 10, 6, .res, 0, [], 0, 0⟩]⟩,
  ⟨"DPLL_BW", 0x0014, 2, 0x0, 1, 0x3E, 0x0, [⟨"UHZ", 0, 32, .rw, 10000, [], 10, 10000000⟩]⟩,
  ⟨"DPLL_SLEWLIM", 0x0018, 1, 0x0, 1, 0x3E, 0x0, [⟨"LIM", 0, 16, .rw, 1000, [], 1, 65535⟩]⟩,
  ⟨"DPLL_PULL", 0x001A, 1, 0x0, 1, 0x3E, 0x0, [⟨"LIM", 0, 16, .rw, 1200, [], 1, 2000⟩]⟩,
  ⟨"DPLL_LOCKTHR", 0x001C, 1, 0x0, 1, 0x3E, 0x0, [⟨"LIM", 0, 16, .rw, 50, [], 0, 65535⟩]⟩,
  ⟨"DPLL_BWEFF", 0x001E, 2, 0x0, 1, 0x3E, 0x0, [⟨"UHZ", 0, 32, .ro, 0, [], 0, 4294967295⟩]⟩,
  ⟨"DPLL_FREQ", 0x0022, 3, 0x0, 1, 0x3E, 0x0, [⟨"FREQ", 0, 48, .ro, 0, [], 0, 281474976710655⟩]⟩,
  ⟨"DPLL_PHERR", 0x0028, 3, 0x0, 1, 0x3E, 0x0, [⟨"PS", 0, 48, .ro, 0, [], 0, 281474976710655⟩]⟩,
  ⟨"DPLL_PHSEQ", 0x002E, 1, 0x0, 1, 0x3E, 0x0, [⟨"SEQ", 0, 16, .ro, 0, [], 0, 65535⟩]⟩,
  ⟨"DPLL_SWFREQ", 0x0030, 3, 0x0, 1, 0x0, 0x0, [⟨"FREQ", 0, 48, .rw, 0, [], 0, 281474976710655⟩]⟩ ] ++ [
  ⟨"DPLL_SWCMD", 0x0036, 1, 0x0, 1, 0x0, 0x0, [⟨"APPLY", 0, 1, .w1s, 0, [], 0, 1⟩, ⟨"-", 1, 15, .res, 0, [], 0, 0⟩]⟩,
  ⟨"DPLL_FRQINIT", 0x0038, 3, 0x0, 1, 0x3E, 0x0, [⟨"FREQ", 0, 48, .rw, 0, [], 0, 281474976710655⟩]⟩,
  ⟨"DPLL_GEN", 0x003E, 1, 0x0, 1, 0x3E, 0x0, [⟨"GEN", 0, 16, .ro, 0, [], 0, 65535⟩]⟩,
  ⟨"DPLL_COMP", 0x0040, 3, 0x0, 1, 0x3E, 0x0, [⟨"COMP", 0, 48, .ro, 0, [], 0, 281474976710655⟩]⟩ ]

/-- The registers of HOLD (window 0x04).  Bits 31 to 20 of HOLD_AOSC_CODE and HOLD_AOSC_DACINIT read 0 and ignore writes (DESIGN CHOICE, log entry 22:
Table 5-8 lists bits 19 to 0 alone and does not call the rest reserved). -/
def regsHOLD : List RegRow := [
  ⟨"HOLD_ID", 0, 1, 0, 1, 0, 0, [⟨"VERSION", 0, 8, .ro, 1, [], 0, 255⟩, ⟨"-", 8, 3, .res, 0, [], 0, 0⟩, ⟨"BLOCK", 11, 5, .ro, 4, [], 0, 31⟩]⟩,
  ⟨"HOLD_CTRL", 0x0010, 1, 0x0, 1, 0x3E, 0x0, [⟨"HOSC", 0, 2, .rw, 0, [], 0, 2⟩, ⟨"TSRC", 2, 2, .rw, 0, [], 0, 2⟩, ⟨"-", 4, 12, .res, 0, [], 0, 0⟩]⟩,
  ⟨"HOLD_STAT", 0x0012, 1, 0x0, 1, 0x3E, 0x0, [⟨"HOLDOVER", 0, 1, .ro, 0, [], 0, 1⟩, ⟨"HOSCNOW", 1, 1, .ro, 1, [], 0, 1⟩, ⟨"NOENS", 2, 1, .ro, 1, [], 0, 1⟩, ⟨"DFIT", 3, 1, .ro, 0, [], 0, 1⟩, ⟨"CFIT", 4, 1, .ro, 0, [], 0, 1⟩, ⟨"MDLPEND", 5, 1, .ro, 0, [], 0, 1⟩, ⟨"LONGSLEW", 6, 1, .ro, 0, [], 0, 1⟩, ⟨"EXCEED", 7, 1, .w1c, 0, [], 0, 1⟩, ⟨"FROZEN", 8, 1, .ro, 0, [], 0, 1⟩, ⟨"-", 9, 7, .res, 0, [], 0, 0⟩]⟩,
  ⟨"HOLD_TAU", 0x0014, 1, 0x0, 1, 0x3E, 0x0, [⟨"S", 0, 16, .rw, 1000, [], 100, 10000⟩]⟩,
  ⟨"HOLD_COVER", 0x0016, 1, 0x0, 1, 0x3E, 0x0, [⟨"K", 0, 16, .rw, 768, [], 256, 4096⟩]⟩,
  ⟨"HOLD_SLEWTHR", 0x0018, 2, 0x0, 1, 0x3E, 0x0, [⟨"NS", 0, 32, .rw, 1000, [], 1, 1000000000⟩]⟩,
  ⟨"HOLD_JUMPTHR", 0x001C, 2, 0x0, 1, 0x3E, 0x0, [⟨"NS", 0, 32, .rw, 1000, [], 10, 1000000000⟩]⟩,
  ⟨"HOLD_TRAINAGE", 0x0020, 2, 0x0, 1, 0x3E, 0x0, [⟨"S", 0, 32, .ro, 0, [], 0, 4294967295⟩]⟩,
  ⟨"HOLD_ELAPSED", 0x0024, 2, 0x0, 1, 0x3E, 0x0, [⟨"S", 0, 32, .ro, 0, [], 0, 4294967295⟩]⟩,
  ⟨"HOLD_BHOLD", 0x0028, 3, 0x0, 1, 0x3E, 0x0, [⟨"PS", 0, 48, .ro, 0, [], 0, 281474976710655⟩]⟩,
  ⟨"HOLD_B0", 0x002E, 3, 0x0, 1, 0x3E, 0x0, [⟨"PS", 0, 48, .ro, 0, [], 0, 281474976710655⟩]⟩,
  ⟨"HOLD_INFLATE", 0x0034, 1, 0x0, 1, 0x3E, 0x0, [⟨"M", 0, 16, .rw, 256, [], 256, 4096⟩]⟩,
  ⟨"HOLD_TEXT", 0x0036, 1, 0x0, 1, 0x0, 0x0, [⟨"TEMP", 0, 16, .rw, 0, [], 0, 65535⟩]⟩,
  ⟨"HOLD_OUTTEMP", 0x0038, 1, 0x0, 1, 0x3E, 0x0, [⟨"C", 0, 16, .rw, 40, [], 0, 65535⟩]⟩,
  ⟨"HOLD_WMAX", 0x003A, 1, 0x0, 1, 0x3E, 0x0, [⟨"W", 0, 16, .rw, 49152, [], 0, 65535⟩]⟩,
  ⟨"HOLD_CONTRACT", 0x003C, 1, 0x0, 1, 0x3E, 0x0, [⟨"S", 0, 16, .rw, 60, [], 1, 65535⟩]⟩,
  ⟨"HOLD_GEN", 0x003E, 1, 0x0, 1, 0x3E, 0x0, [⟨"GEN", 0, 16, .ro, 0, [], 0, 65535⟩]⟩,
  ⟨"HOLD_FITWIN", 0x0040, 1, 0x0, 1, 0x3E, 0x0, [⟨"H", 0, 16, .rw, 168, [], 24, 8760⟩]⟩,
  ⟨"HOLD_DPRIOR", 0x0042, 2, 0x0, 1, 0x3E, 0x0, [⟨"UD", 0, 32, .rw, 1000000, [], 0, 4294967295⟩]⟩,
  ⟨"HOLD_CPRIOR", 0x0046, 2, 0x0, 1, 0x3E, 0x0, [⟨"UC", 0, 32, .rw, 10000, [], 0, 4294967295⟩]⟩ ] ++ [
  ⟨"HOLD_MDL_D", 0x0100, 2, 0x0, 1, 0x0, 0x0, [⟨"D", 0, 32, .ro, 0, [], 0, 4294967295⟩]⟩,
  ⟨"HOLD_MDL_UD", 0x0104, 2, 0x0, 1, 0x0, 0x0, [⟨"UD", 0, 32, .ro, 1000000, [], 0, 4294967295⟩]⟩,
  ⟨"HOLD_MDL_C", 0x0108, 2, 0x0, 1, 0x0, 0x0, [⟨"C", 0, 32, .ro, 0, [], 0, 4294967295⟩]⟩,
  ⟨"HOLD_MDL_UC", 0x010C, 2, 0x0, 1, 0x0, 0x0, [⟨"UC", 0, 32, .ro, 10000, [], 0, 4294967295⟩]⟩,
  ⟨"HOLD_MDL_UY", 0x0110, 2, 0x0, 1, 0x0, 0x0, [⟨"UY", 0, 32, .ro, 1000000, [], 0, 4294967295⟩]⟩,
  ⟨"HOLD_MDL_T0", 0x0114, 1, 0x0, 1, 0x0, 0x0, [⟨"TEMP", 0, 16, .ro, 0, [], 0, 65535⟩]⟩,
  ⟨"HOLD_MDL_GEN", 0x0116, 1, 0x0, 1, 0x0, 0x0, [⟨"GEN", 0, 16, .ro, 0, [], 0, 65535⟩]⟩,
  ⟨"HOLD_MEMBER_CFG", 0x0200, 1, 0x20, 8, 0x218, 0x20, [⟨"SRC", 0, 4, .rw, 0, [12, 13, 8, 9, 10, 11, 0, 1], 0, 15⟩, ⟨"PRESENT", 4, 1, .ro, 0, [], 0, 1⟩, ⟨"-", 5, 11, .res, 0, [], 0, 0⟩]⟩,
  ⟨"HOLD_MEMBER_PRIOR", 0x0202, 2, 0x20, 8, 0x218, 0x20, [⟨"SIG", 0, 32, .rw, 0, [10000, 1000000, 100000, 300000, 300000, 50000, 100000, 100000], 0, 4294967295⟩]⟩,
  ⟨"HOLD_MEMBER_SIGMA", 0x0206, 2, 0x20, 8, 0x218, 0x20, [⟨"SIG", 0, 32, .ro, 0, [10000, 1000000, 100000, 300000, 300000, 50000, 100000, 100000], 0, 4294967295⟩]⟩,
  ⟨"HOLD_MEMBER_NSAMP", 0x020A, 1, 0x20, 8, 0x218, 0x20, [⟨"N", 0, 16, .ro, 0, [], 0, 65535⟩]⟩,
  ⟨"HOLD_MEMBER_WEIGHT", 0x020C, 1, 0x20, 8, 0x218, 0x20, [⟨"W", 0, 16, .ro, 0, [], 0, 65535⟩]⟩,
  ⟨"HOLD_MEMBER_PHASE", 0x020E, 3, 0x20, 8, 0x218, 0x20, [⟨"PS", 0, 48, .ro, 0, [], 0, 281474976710655⟩]⟩,
  ⟨"HOLD_MEMBER_FREQ", 0x0214, 2, 0x20, 8, 0x218, 0x20, [⟨"FRAC", 0, 32, .ro, 0, [], 0, 4294967295⟩]⟩,
  ⟨"HOLD_MEMBER_GEN", 0x0218, 1, 0x20, 8, 0x218, 0x20, [⟨"GEN", 0, 16, .ro, 0, [], 0, 65535⟩]⟩,
  ⟨"HOLD_AOSC_CFG", 0x0300, 1, 0x0, 1, 0x322, 0x0, [⟨"MODE", 0, 2, .rw, 0, [], 0, 2⟩, ⟨"SPICMD", 2, 4, .rw, 3, [], 0, 15⟩, ⟨"TWOS", 6, 1, .rw, 0, [], 0, 1⟩, ⟨"BAUD", 7, 2, .rw, 0, [], 0, 3⟩, ⟨"ACKEN", 9, 1, .rw, 0, [], 0, 1⟩, ⟨"DIV", 10, 6, .rw, 31, [], 0, 63⟩]⟩,
  ⟨"HOLD_AOSC_ACK", 0x0302, 1, 0x0, 1, 0x322, 0x0, [⟨"ACKBYTE", 0, 8, .rw, 0, [], 0, 255⟩, ⟨"-", 8, 8, .res, 0, [], 0, 0⟩]⟩,
  ⟨"HOLD_AOSC_CODE", 0x0304, 2, 0x0, 1, 0x322, 0x0, [⟨"CODE", 0, 20, .ro, 524288, [], 0, 1048575⟩]⟩,
  ⟨"HOLD_AOSC_DACINIT", 0x0308, 2, 0x0, 1, 0x322, 0x0, [⟨"CODE", 0, 20, .rw, 524288, [], 0, 1048575⟩]⟩,
  ⟨"HOLD_AOSC_SLOPE", 0x030C, 2, 0x0, 1, 0x322, 0x0, [⟨"Y", 0, 32, .rw, 0, [], 0, 4294967295⟩]⟩ ] ++ [
  ⟨"HOLD_AOSC_UNIT", 0x0310, 2, 0x0, 1, 0x322, 0x0, [⟨"Y", 0, 32, .rw, 0, [], 0, 4294967295⟩]⟩,
  ⟨"HOLD_AOSC_STEERINT", 0x0314, 1, 0x0, 1, 0x322, 0x0, [⟨"S", 0, 16, .rw, 10, [], 1, 3600⟩]⟩,
  ⟨"HOLD_AOSC_STEPMAX", 0x0316, 1, 0x0, 1, 0x322, 0x0, [⟨"Y", 0, 16, .rw, 1000, [], 0, 65535⟩]⟩,
  ⟨"HOLD_AOSC_LAT", 0x0318, 1, 0x0, 1, 0x322, 0x0, [⟨"MS", 0, 16, .rw, 100, [], 0, 10000⟩]⟩,
  ⟨"HOLD_AOSC_SUM", 0x031A, 3, 0x0, 1, 0x322, 0x0, [⟨"Y", 0, 48, .ro, 0, [], 0, 281474976710655⟩]⟩,
  ⟨"HOLD_AOSC_NOACK", 0x0320, 1, 0x0, 1, 0x322, 0x0, [⟨"COUNT", 0, 16, .rc, 0, [], 0, 65535⟩]⟩,
  ⟨"HOLD_AOSC_GEN", 0x0322, 1, 0x0, 1, 0x322, 0x0, [⟨"GEN", 0, 16, .ro, 0, [], 0, 65535⟩]⟩,
  ⟨"HOLD_AOSC_TPL", 0x0340, 16, 0x0, 1, 0x322, 0x0, [⟨"BYTES", 0, 256, .rw, 0, [], 0, 115792089237316195423570985008687907853269984665640564039457584007913129639935⟩]⟩ ]

/-- The registers of APLL (window 0x05).  SQUELCH of APLL_SYS and APLL_LANE reads 0 (DESIGN CHOICE, log entry 34: Table 4-9 prints a reset value of 1
for a field that is APLL_OUT's only). -/
def regsAPLL : List RegRow := [
  ⟨"APLL_ID", 0, 1, 0, 1, 0, 0, [⟨"VERSION", 0, 8, .ro, 1, [], 0, 255⟩, ⟨"-", 8, 3, .res, 0, [], 0, 0⟩, ⟨"BLOCK", 11, 5, .ro, 5, [], 0, 31⟩]⟩,
  ⟨"APLL_AOSCFREQ", 0x0010, 1, 0x0, 1, 0x0, 0x0, [⟨"FREQ", 0, 2, .rw, 0, [], 0, 3⟩, ⟨"-", 2, 14, .res, 0, [], 0, 0⟩]⟩,
  ⟨"APLL_BYPSTAT", 0x0012, 1, 0x0, 1, 0x0, 0x0, [⟨"MAP", 0, 7, .ro, 127, [], 0, 127⟩, ⟨"XTALOK", 7, 1, .ro, 1, [], 0, 1⟩, ⟨"-", 8, 8, .res, 0, [], 0, 0⟩]⟩,
  ⟨"APLL_PLL_CFG", 0x0100, 1, 0x40, 3, 0x11A, 0x40, [⟨"REFSEL", 0, 2, .rw, 0, [0, 0, 2], 0, 2⟩, ⟨"PFDMUL", 2, 2, .rw, 0, [0, 0, 3], 0, 3⟩, ⟨"ENABLE", 4, 1, .rw, 1, [], 0, 1⟩, ⟨"AUTOREF", 5, 1, .rw, 0, [1, 0, 0], 0, 1⟩, ⟨"-", 6, 10, .res, 0, [], 0, 0⟩]⟩,
  ⟨"APLL_PLL_NINT", 0x0102, 1, 0x40, 3, 0x11A, 0x40, [⟨"NINT", 0, 10, .rw, 0, [100, 100, 40], 16, 1023⟩, ⟨"-", 10, 6, .res, 0, [], 0, 0⟩]⟩,
  ⟨"APLL_PLL_NFRAC", 0x0104, 3, 0x40, 3, 0x11A, 0x40, [⟨"NFRAC", 0, 48, .rw, 0, [0, 0, 270215977642230], 0, 281474976710655⟩]⟩,
  ⟨"APLL_PLL_POSTDIV", 0x010A, 1, 0x40, 3, 0x11A, 0x40, [⟨"DIV", 0, 8, .rw, 0, [0, 0, 8], 8, 255⟩, ⟨"-", 8, 8, .res, 0, [], 0, 0⟩]⟩,
  ⟨"APLL_PLL_LOCK", 0x010C, 1, 0x40, 3, 0x11A, 0x40, [⟨"LOCKED", 0, 1, .ro, 0, [], 0, 1⟩, ⟨"REFACT", 1, 1, .ro, 0, [], 0, 1⟩, ⟨"BYPASS", 2, 1, .ro, 1, [], 0, 1⟩, ⟨"SQUELCH", 3, 1, .ro, 0, [0, 0, 1], 0, 1⟩, ⟨"PFDNOW", 4, 2, .ro, 0, [], 0, 3⟩, ⟨"-", 6, 10, .res, 0, [], 0, 0⟩]⟩,
  ⟨"APLL_PLL_LOCKCFG", 0x010E, 1, 0x40, 3, 0x11A, 0x40, [⟨"LOCKTOL", 0, 4, .rw, 2, [], 1, 15⟩, ⟨"UNLOCKTOL", 4, 6, .rw, 20, [], 1, 63⟩, ⟨"LOCKWIN", 10, 4, .rw, 4, [], 1, 15⟩, ⟨"-", 14, 2, .res, 0, [], 0, 0⟩]⟩,
  ⟨"APLL_PLL_RETURN", 0x0110, 1, 0x40, 3, 0x11A, 0x40, [⟨"MS", 0, 16, .rw, 100, [], 1, 65535⟩]⟩,
  ⟨"APLL_PLL_SPUR", 0x0112, 3, 0x40, 3, 0x11A, 0x40, [⟨"KHZ", 0, 48, .ro, 0, [0, 0, 26847840508010], 0, 281474976710655⟩]⟩,
  ⟨"APLL_PLL_LOSSCNT", 0x0118, 1, 0x40, 3, 0x11A, 0x40, [⟨"COUNT", 0, 16, .rc, 0, [], 0, 65535⟩]⟩,
  ⟨"APLL_PLL_GEN", 0x011A, 1, 0x40, 3, 0x11A, 0x40, [⟨"GEN", 0, 16, .ro, 0, [], 0, 65535⟩]⟩ ]

/-- The registers of TBASE (window 0x06). -/
def regsTBASE : List RegRow := [
  ⟨"TBASE_ID", 0, 1, 0, 1, 0, 0, [⟨"VERSION", 0, 8, .ro, 1, [], 0, 255⟩, ⟨"-", 8, 3, .res, 0, [], 0, 0⟩, ⟨"BLOCK", 11, 5, .ro, 6, [], 0, 31⟩]⟩,
  ⟨"TBASE_BCNSTAT", 0x0F00, 1, 0x0, 1, 0x4E, 0x0, [⟨"VALID", 0, 5, .ro, 0, [], 0, 31⟩, ⟨"-", 5, 3, .res, 0, [], 0, 0⟩, ⟨"LOST", 8, 5, .w1c, 0, [], 0, 31⟩, ⟨"-", 13, 3, .res, 0, [], 0, 0⟩]⟩,
  ⟨"TBASE_BCNLOSS", 0x0F02, 1, 0x0, 1, 0x4E, 0x0, [⟨"COUNT", 0, 16, .rc, 0, [], 0, 65535⟩]⟩,
  ⟨"TBASE_TIME", 0x0010, 8, 0x0, 1, 0x4E, 0x0, [⟨"TIME", 0, 128, .ro, 0, [], 0, 340282366920938463463374607431768211455⟩]⟩,
  ⟨"TBASE_STAT", 0x0020, 1, 0x0, 1, 0x4E, 0x0, [⟨"TIMESET", 0, 1, .ro, 0, [], 0, 1⟩, ⟨"SRC", 1, 2, .ro, 0, [], 0, 3⟩, ⟨"HOLDSTEP", 3, 1, .ro, 0, [], 0, 1⟩, ⟨"TSETLAT", 4, 1, .ro, 0, [], 0, 1⟩, ⟨"-", 5, 11, .res, 0, [], 0, 0⟩]⟩,
  ⟨"TBASE_TIMESC", 0x0022, 1, 0x0, 1, 0x4E, 0x0, [⟨"STEP", 0, 16, .ro, 0, [], 0, 65535⟩]⟩,
  ⟨"TBASE_INCR", 0x0024, 4, 0x0, 1, 0x4E, 0x0, [⟨"INCR", 0, 56, .ro, 450359962737050, [], 0, 72057594037927935⟩, ⟨"-", 56, 8, .res, 0, [], 0, 0⟩]⟩,
  ⟨"TBASE_STEPCNT", 0x002C, 1, 0x0, 1, 0x4E, 0x0, [⟨"COUNT", 0, 16, .ro, 0, [], 0, 65535⟩]⟩,
  ⟨"TBASE_HELD", 0x002E, 5, 0x0, 1, 0x4E, 0x0, [⟨"STEP", 0, 80, .ro, 0, [], 0, 1208925819614629174706175⟩]⟩,
  ⟨"TBASE_LASTSTEP", 0x0038, 5, 0x0, 1, 0x4E, 0x0, [⟨"STEP", 0, 80, .ro, 0, [], 0, 1208925819614629174706175⟩]⟩,
  ⟨"TBASE_UTCOFF", 0x0042, 1, 0x0, 1, 0x4E, 0x0, [⟨"S", 0, 16, .rw, 37, [], 0, 65535⟩]⟩,
  ⟨"TBASE_LEAP", 0x0044, 1, 0x0, 1, 0x4E, 0x0, [⟨"PEND", 0, 2, .rw, 0, [], 0, 2⟩, ⟨"-", 2, 14, .res, 0, [], 0, 0⟩]⟩,
  ⟨"TBASE_LEAPSEC", 0x0046, 4, 0x0, 1, 0x4E, 0x0, [⟨"S", 0, 64, .rw, 0, [], 0, 18446744073709551615⟩]⟩,
  ⟨"TBASE_GEN", 0x004E, 1, 0x0, 1, 0x4E, 0x0, [⟨"GEN", 0, 16, .ro, 0, [], 0, 65535⟩]⟩,
  ⟨"TBASE_PPS_CFG", 0x0100, 1, 0x0, 1, 0x4E, 0x0, [⟨"EN", 0, 1, .rw, 1, [], 0, 1⟩, ⟨"POL", 1, 1, .rw, 0, [], 0, 1⟩, ⟨"-", 2, 14, .res, 0, [], 0, 0⟩]⟩,
  ⟨"TBASE_PPS_WIDTH", 0x0102, 2, 0x0, 1, 0x4E, 0x0, [⟨"US", 0, 32, .rw, 100, [], 1, 500000⟩]⟩,
  ⟨"TBASE_PPS_OFFSET", 0x0106, 3, 0x0, 1, 0x4E, 0x0, [⟨"PS", 0, 48, .rw, 0, [], 0, 281474976710655⟩]⟩,
  ⟨"TBASE_PPS_SUPCNT", 0x010C, 1, 0x0, 1, 0x4E, 0x0, [⟨"COUNT", 0, 16, .rc, 0, [], 0, 65535⟩]⟩,
  ⟨"TBASE_CLK_CFG", 0x0200, 1, 0x20, 4, 0x4E, 0x0, [⟨"EN", 0, 1, .rw, 0, [], 0, 1⟩, ⟨"ALIGN", 1, 1, .rw, 1, [], 0, 1⟩, ⟨"INV", 2, 1, .rw, 0, [], 0, 1⟩, ⟨"-", 3, 13, .res, 0, [], 0, 0⟩]⟩,
  ⟨"TBASE_CLK_DIV", 0x0202, 2, 0x20, 4, 0x4E, 0x0, [⟨"DIV", 0, 32, .rw, 80, [], 0, 4294967295⟩]⟩ ] ++ [
  ⟨"TBASE_CLK_OFFSET", 0x0206, 3, 0x20, 4, 0x4E, 0x0, [⟨"PS", 0, 48, .rw, 0, [], 0, 281474976710655⟩]⟩,
  ⟨"TBASE_CLK_ALIGNTOL", 0x020C, 1, 0x20, 4, 0x4E, 0x0, [⟨"PS", 0, 16, .rw, 200, [], 0, 65535⟩]⟩,
  ⟨"TBASE_CLK_PHERR", 0x020E, 2, 0x20, 4, 0x4E, 0x0, [⟨"PS", 0, 32, .ro, 0, [], 0, 4294967295⟩]⟩,
  ⟨"TBASE_CLK_STAT", 0x0212, 1, 0x20, 4, 0x4E, 0x0, [⟨"DRIVING", 0, 1, .ro, 0, [], 0, 1⟩, ⟨"STOPPED", 1, 1, .ro, 0, [], 0, 1⟩, ⟨"ALIGNED", 2, 1, .ro, 0, [], 0, 1⟩, ⟨"ALIGNFLT", 3, 1, .w1c, 0, [], 0, 1⟩, ⟨"-", 4, 12, .res, 0, [], 0, 0⟩]⟩,
  ⟨"TBASE_EVT_CFG", 0x0400, 1, 0x20, 16, 0x4E, 0x0, [⟨"EN", 0, 1, .rw, 0, [], 0, 1⟩, ⟨"POL", 1, 1, .rw, 0, [], 0, 1⟩, ⟨"STEPPOL", 2, 1, .rw, 0, [], 0, 1⟩, ⟨"DONEIRQ", 3, 1, .rw, 0, [], 0, 1⟩, ⟨"-", 4, 12, .res, 0, [], 0, 0⟩]⟩,
  ⟨"TBASE_EVT_STAT", 0x0402, 1, 0x20, 16, 0x4E, 0x0, [⟨"QFILL", 0, 3, .ro, 0, [], 0, 7⟩, ⟨"RUNNING", 3, 1, .ro, 0, [], 0, 1⟩, ⟨"HIGH", 4, 1, .ro, 0, [], 0, 1⟩, ⟨"CONT", 5, 1, .ro, 0, [], 0, 1⟩, ⟨"-", 6, 10, .res, 0, [], 0, 0⟩]⟩,
  ⟨"TBASE_EVT_LATECNT", 0x0404, 1, 0x20, 16, 0x4E, 0x0, [⟨"COUNT", 0, 16, .rc, 0, [], 0, 65535⟩]⟩,
  ⟨"TBASE_EVT_SKIPCNT", 0x0406, 1, 0x20, 16, 0x4E, 0x0, [⟨"COUNT", 0, 16, .rc, 0, [], 0, 65535⟩]⟩,
  ⟨"TBASE_EVT_NEXT", 0x0408, 8, 0x20, 16, 0x4E, 0x0, [⟨"TIME", 0, 128, .ro, 0, [], 0, 340282366920938463463374607431768211455⟩]⟩,
  ⟨"TBASE_EVT_REMAIN", 0x0418, 2, 0x20, 16, 0x4E, 0x0, [⟨"COUNT", 0, 32, .ro, 0, [], 0, 4294967295⟩]⟩,
  ⟨"TBASE_CAP_CFG", 0x0600, 1, 0x20, 8, 0x4E, 0x0, [⟨"EDGE", 0, 2, .rw, 0, [], 0, 3⟩, ⟨"WMARKM1", 2, 8, .rw, 0, [], 0, 255⟩, ⟨"IRQEN", 10, 1, .rw, 0, [], 0, 1⟩, ⟨"-", 11, 5, .res, 0, [], 0, 0⟩]⟩,
  ⟨"TBASE_CAP_FILL", 0x0602, 1, 0x20, 8, 0x4E, 0x0, [⟨"FILL", 0, 9, .ro, 0, [], 0, 511⟩, ⟨"-", 9, 7, .res, 0, [], 0, 0⟩]⟩,
  ⟨"TBASE_CAP_OVFCNT", 0x0604, 1, 0x20, 8, 0x4E, 0x0, [⟨"COUNT", 0, 16, .rc, 0, [], 0, 65535⟩]⟩,
  ⟨"TBASE_CAP_DEADCNT", 0x0606, 1, 0x20, 8, 0x4E, 0x0, [⟨"COUNT", 0, 16, .rc, 0, [], 0, 65535⟩]⟩,
  ⟨"TBASE_CAP_POP", 0x0608, 1, 0x20, 8, 0x4E, 0x0, [⟨"VALID", 0, 1, .ro, 0, [], 0, 1⟩, ⟨"RISE", 1, 1, .ro, 0, [], 0, 1⟩, ⟨"OVFBEFORE", 2, 1, .ro, 0, [], 0, 1⟩, ⟨"TSET", 3, 1, .ro, 0, [], 0, 1⟩, ⟨"-", 4, 4, .res, 0, [], 0, 0⟩, ⟨"STEP", 8, 8, .ro, 0, [], 0, 255⟩]⟩,
  ⟨"TBASE_CAP_STAMP", 0x060A, 8, 0x20, 8, 0x4E, 0x0, [⟨"TIME", 0, 128, .ro, 0, [], 0, 340282366920938463463374607431768211455⟩]⟩ ]

/-- The registers of TIC (window 0x07). -/
def regsTIC : List RegRow := [
  ⟨"TIC_ID", 0, 1, 0, 1, 0, 0, [⟨"VERSION", 0, 8, .ro, 1, [], 0, 255⟩, ⟨"-", 8, 3, .res, 0, [], 0, 0⟩, ⟨"BLOCK", 11, 5, .ro, 7, [], 0, 31⟩]⟩,
  ⟨"TIC_CTRL", 0x0010, 1, 0x0, 1, 0x2E, 0x0, [⟨"AUTOCAL", 0, 1, .rw, 1, [], 0, 1⟩, ⟨"-", 1, 15, .res, 0, [], 0, 0⟩]⟩,
  ⟨"TIC_CALSTAT", 0x0012, 1, 0x0, 1, 0x2E, 0x0, [⟨"VALID", 0, 1, .ro, 1, [], 0, 1⟩, ⟨"RUNNING", 1, 1, .ro, 0, [], 0, 1⟩, ⟨"FAILED", 2, 1, .w1c, 0, [], 0, 1⟩, ⟨"SET", 3, 1, .ro, 0, [], 0, 1⟩, ⟨"-", 4, 12, .res, 0, [], 0, 0⟩]⟩,
  ⟨"TIC_CALTEMP", 0x0014, 1, 0x0, 1, 0x2E, 0x0, [⟨"TEMP", 0, 16, .ro, 0, [], 0, 65535⟩]⟩,
  ⟨"TIC_CALDT", 0x0016, 1, 0x0, 1, 0x2E, 0x0, [⟨"DT", 0, 16, .rw, 40, [], 8, 400⟩]⟩,
  ⟨"TIC_CALGEN", 0x0018, 1, 0x0, 1, 0x2E, 0x0, [⟨"COUNT", 0, 16, .ro, 0, [], 0, 65535⟩]⟩,
  ⟨"TIC_XTAL_TRIM", 0x0020, 1, 0x0, 1, 0x2E, 0x0, [⟨"PPB", 0, 16, .ro, 0, [], 0, 65535⟩]⟩,
  ⟨"TIC_XWIT", 0x0022, 2, 0x0, 1, 0x2E, 0x0, [⟨"FRAC", 0, 32, .ro, 0, [], 0, 4294967295⟩]⟩,
  ⟨"TIC_XWLIM", 0x0026, 1, 0x0, 1, 0x2E, 0x0, [⟨"PPB", 0, 16, .rw, 50, [], 1, 65535⟩]⟩,
  ⟨"TIC_XWSTAT", 0x0028, 1, 0x0, 1, 0x2E, 0x0, [⟨"EXCEED", 0, 1, .w1c, 0, [], 0, 1⟩, ⟨"VALID", 1, 1, .ro, 0, [], 0, 1⟩, ⟨"TRIMEND", 2, 1, .ro, 0, [], 0, 1⟩, ⟨"-", 3, 13, .res, 0, [], 0, 0⟩]⟩,
  ⟨"TIC_XWCNT", 0x002A, 1, 0x0, 1, 0x2E, 0x0, [⟨"COUNT", 0, 16, .rc, 0, [], 0, 65535⟩]⟩,
  ⟨"TIC_GEN", 0x002E, 1, 0x0, 1, 0x2E, 0x0, [⟨"GEN", 0, 16, .ro, 0, [], 0, 65535⟩]⟩,
  ⟨"TIC_CH_CFG", 0x0100, 1, 0x20, 16, 0x2E, 0x0, [⟨"EDGE", 0, 2, .rw, 0, [0, 0, 0, 0, 0, 0, 0, 0, 1, 1, 1, 1, 1, 1, 1, 1], 0, 3⟩, ⟨"FIFOEN", 2, 1, .rw, 0, [], 0, 1⟩, ⟨"IRQEN", 3, 1, .rw, 0, [], 0, 1⟩, ⟨"WMARKM1", 4, 12, .rw, 0, [], 0, 4095⟩]⟩,
  ⟨"TIC_CH_DELAY", 0x0102, 2, 0x20, 16, 0x2E, 0x0, [⟨"DLY", 0, 32, .rw, 0, [], 0, 4294967295⟩]⟩,
  ⟨"TIC_CH_FILL", 0x0106, 1, 0x20, 16, 0x2E, 0x0, [⟨"FILL", 0, 13, .ro, 0, [], 0, 8191⟩, ⟨"-", 13, 3, .res, 0, [], 0, 0⟩]⟩,
  ⟨"TIC_CH_OVFCNT", 0x0108, 1, 0x20, 16, 0x2E, 0x0, [⟨"COUNT", 0, 16, .rc, 0, [], 0, 65535⟩]⟩,
  ⟨"TIC_CH_DEADCNT", 0x010A, 1, 0x20, 16, 0x2E, 0x0, [⟨"COUNT", 0, 16, .rc, 0, [], 0, 65535⟩]⟩,
  ⟨"TIC_CH_POP", 0x010C, 1, 0x20, 16, 0x2E, 0x0, [⟨"POP", 0, 16, .ro, 0, [], 0, 65535⟩]⟩,
  ⟨"TIC_CH_STAMP", 0x010E, 8, 0x20, 16, 0x2E, 0x0, [⟨"TIME", 0, 128, .ro, 0, [], 0, 340282366920938463463374607431768211455⟩]⟩,
  ⟨"TIC_MEAS_CFG", 0x0400, 1, 0x40, 4, 0x2E, 0x0, [⟨"MODE", 0, 2, .rw, 0, [], 0, 3⟩, ⟨"START", 2, 4, .rw, 0, [], 0, 15⟩, ⟨"STOP", 6, 4, .rw, 0, [], 0, 15⟩, ⟨"MULTI", 10, 1, .rw, 0, [], 0, 1⟩, ⟨"REFSEL", 11, 1, .rw, 0, [], 0, 1⟩, ⟨"-", 12, 4, .res, 0, [], 0, 0⟩]⟩ ] ++ [
  ⟨"TIC_MEAS_ARMWIN", 0x0402, 2, 0x40, 4, 0x2E, 0x0, [⟨"NS", 0, 32, .rw, 1000000, [], 0, 4294967295⟩]⟩,
  ⟨"TIC_MEAS_SPAN", 0x0406, 1, 0x40, 4, 0x2E, 0x0, [⟨"SPAN", 0, 16, .rw, 1000, [], 0, 65535⟩]⟩,
  ⟨"TIC_MEAS_FNOM", 0x0408, 2, 0x40, 4, 0x2E, 0x0, [⟨"HZ", 0, 32, .rw, 0, [], 1, 800000000⟩]⟩,
  ⟨"TIC_MEAS_STAT", 0x040C, 1, 0x40, 4, 0x2E, 0x0, [⟨"RUNNING", 0, 1, .ro, 0, [], 0, 1⟩, ⟨"STATRUN", 1, 1, .ro, 0, [], 0, 1⟩, ⟨"NEW", 2, 1, .ro, 0, [], 0, 1⟩, ⟨"-", 3, 13, .res, 0, [], 0, 0⟩]⟩,
  ⟨"TIC_MEAS_LAST", 0x040E, 4, 0x40, 4, 0x2E, 0x0, [⟨"RES", 0, 64, .ro, 0, [], 0, 18446744073709551615⟩]⟩,
  ⟨"TIC_MEAS_RESCNT", 0x0416, 2, 0x40, 4, 0x2E, 0x0, [⟨"COUNT", 0, 32, .ro, 0, [], 0, 4294967295⟩]⟩,
  ⟨"TIC_MEAS_ORPHCNT", 0x041A, 1, 0x40, 4, 0x2E, 0x0, [⟨"COUNT", 0, 16, .rc, 0, [], 0, 65535⟩]⟩ ]

/-- The registers of GNSS (window 0x08). -/
def regsGNSS : List RegRow := [
  ⟨"GNSS_ID", 0, 1, 0, 1, 0, 0, [⟨"VERSION", 0, 8, .ro, 1, [], 0, 255⟩, ⟨"-", 8, 3, .res, 0, [], 0, 0⟩, ⟨"BLOCK", 11, 5, .ro, 8, [], 0, 31⟩]⟩,
  ⟨"GNSS_CTRL", 0x0010, 1, 0x0, 1, 0x2E, 0x0, [⟨"EN", 0, 1, .rw, 1, [], 0, 1⟩, ⟨"DUAL", 1, 1, .rw, 0, [], 0, 1⟩, ⟨"GALEN", 2, 1, .rw, 1, [], 0, 1⟩, ⟨"AUTOACQ", 3, 1, .rw, 1, [], 0, 1⟩, ⟨"JAMHOLD", 4, 1, .rw, 0, [], 0, 1⟩, ⟨"LEAPAUTO", 5, 1, .rw, 0, [], 0, 1⟩, ⟨"EPOCH", 6, 2, .rw, 3, [], 0, 3⟩, ⟨"-", 8, 8, .res, 0, [], 0, 0⟩]⟩,
  ⟨"GNSS_STAT", 0x0012, 1, 0x0, 1, 0x2E, 0x0, [⟨"START", 0, 3, .ro, 1, [], 0, 7⟩, ⟨"ACQBUSY", 3, 1, .ro, 0, [], 0, 1⟩, ⟨"SOLVALID", 4, 1, .ro, 0, [], 0, 1⟩, ⟨"ACTA", 5, 1, .ro, 0, [], 0, 1⟩, ⟨"ACTB", 6, 1, .ro, 0, [], 0, 1⟩, ⟨"SINGLEFB", 7, 1, .ro, 0, [], 0, 1⟩, ⟨"NTRK", 8, 7, .ro, 0, [], 0, 127⟩, ⟨"NFVALID", 15, 1, .ro, 0, [], 0, 1⟩]⟩,
  ⟨"GNSS_FSK", 0x0014, 1, 0x0, 1, 0x2E, 0x0, [⟨"K", 0, 7, .rw, 80, [], 0, 127⟩, ⟨"-", 7, 9, .res, 0, [], 0, 0⟩]⟩,
  ⟨"GNSS_PORTA_CFG", 0x0016, 1, 0x0, 1, 0x2E, 0x0, [⟨"FMT", 0, 1, .rw, 0, [], 0, 1⟩, ⟨"INV", 1, 1, .rw, 0, [], 0, 1⟩, ⟨"-", 2, 14, .res, 0, [], 0, 0⟩]⟩,
  ⟨"GNSS_PORTB_CFG", 0x0018, 1, 0x0, 1, 0x2E, 0x0, [⟨"FMT", 0, 1, .rw, 0, [], 0, 1⟩, ⟨"INV", 1, 1, .rw, 0, [], 0, 1⟩, ⟨"-", 2, 14, .res, 0, [], 0, 0⟩]⟩,
  ⟨"GNSS_IFA", 0x001A, 2, 0x0, 1, 0x2E, 0x0, [⟨"HZ", 0, 32, .rw, 0, [], 0, 4294967295⟩]⟩,
  ⟨"GNSS_IFB", 0x001E, 2, 0x0, 1, 0x2E, 0x0, [⟨"HZ", 0, 32, .rw, 0, [], 0, 4294967295⟩]⟩,
  ⟨"GNSS_IBB", 0x0022, 2, 0x0, 1, 0x2E, 0x0, [⟨"PS", 0, 32, .rw, 0, [], 0, 4294967295⟩]⟩,
  ⟨"GNSS_IBBUNC", 0x0026, 1, 0x0, 1, 0x2E, 0x0, [⟨"PS", 0, 16, .rw, 3000, [], 0, 65535⟩]⟩,
  ⟨"GNSS_ELAST", 0x0028, 1, 0x0, 1, 0x2E, 0x0, [⟨"FILL", 0, 7, .ro, 0, [], 0, 127⟩, ⟨"-", 7, 9, .res, 0, [], 0, 0⟩]⟩,
  ⟨"GNSS_SLIPCNT", 0x002A, 1, 0x0, 1, 0x2E, 0x0, [⟨"COUNT", 0, 16, .rc, 0, [], 0, 65535⟩]⟩,
  ⟨"GNSS_CN0MIN", 0x002C, 1, 0x0, 1, 0x2E, 0x0, [⟨"CN0", 0, 16, .rw, 250, [], 0, 65535⟩]⟩,
  ⟨"GNSS_GEN", 0x002E, 1, 0x0, 1, 0x2E, 0x0, [⟨"GEN", 0, 16, .ro, 0, [], 0, 65535⟩]⟩,
  ⟨"GNSS_JNA", 0x0030, 1, 0x0, 1, 0x2E, 0x0, [⟨"PRE", 0, 8, .ro, 0, [], 0, 255⟩, ⟨"POST", 8, 8, .ro, 0, [], 0, 255⟩]⟩,
  ⟨"GNSS_JNB", 0x0032, 1, 0x0, 1, 0x2E, 0x0, [⟨"PRE", 0, 8, .ro, 0, [], 0, 255⟩, ⟨"POST", 8, 8, .ro, 0, [], 0, 255⟩]⟩,
  ⟨"GNSS_JNLIM", 0x0034, 1, 0x0, 1, 0x2E, 0x0, [⟨"LIM", 0, 8, .rw, 40, [], 0, 255⟩, ⟨"NOTCHTHR", 8, 8, .rw, 30, [], 0, 255⟩]⟩,
  ⟨"GNSS_JNPEAK", 0x0036, 1, 0x0, 1, 0x2E, 0x0, [⟨"A", 0, 8, .rc, 0, [], 0, 255⟩, ⟨"B", 8, 8, .rc, 0, [], 0, 255⟩]⟩,
  ⟨"GNSS_REACQ", 0x0038, 1, 0x0, 1, 0x2E, 0x0, [⟨"S", 0, 16, .rw, 10, [], 1, 600⟩]⟩,
  ⟨"GNSS_POSMODE", 0x0040, 1, 0x0, 1, 0x2E, 0x0, [⟨"MODE", 0, 2, .rw, 0, [], 0, 1⟩, ⟨"MINSV", 2, 6, .rw, 4, [], 1, 32⟩, ⟨"-", 8, 8, .res, 0, [], 0, 0⟩]⟩ ] ++ [
  ⟨"GNSS_POS", 0x0042, 6, 0x0, 1, 0x2E, 0x0, [⟨"XYZ", 0, 96, .rw, 0, [], 0, 79228162514264337593543950335⟩]⟩,
  ⟨"GNSS_POSUNC", 0x004E, 1, 0x0, 1, 0x2E, 0x0, [⟨"CM", 0, 16, .rw, 100, [], 0, 65535⟩]⟩,
  ⟨"GNSS_SURVEY", 0x0050, 2, 0x0, 1, 0x2E, 0x0, [⟨"S", 0, 32, .rw, 86400, [], 0, 4294967295⟩]⟩,
  ⟨"GNSS_RAIMLIM", 0x0054, 1, 0x0, 1, 0x2E, 0x0, [⟨"NS", 0, 16, .rw, 300, [], 0, 65535⟩]⟩,
  ⟨"GNSS_WNBASE", 0x0056, 1, 0x0, 1, 0x2E, 0x0, [⟨"WEEK", 0, 16, .rw, 2350, [], 0, 65535⟩]⟩,
  ⟨"GNSS_SOLSTAT", 0x0058, 1, 0x0, 1, 0x2E, 0x0, [⟨"VALID", 0, 1, .ro, 0, [], 0, 1⟩, ⟨"SURVEYING", 1, 1, .ro, 0, [], 0, 1⟩, ⟨"RAIMEXCL", 2, 1, .ro, 0, [], 0, 1⟩, ⟨"RAIMFAIL", 3, 1, .ro, 0, [], 0, 1⟩, ⟨"DUALSOL", 4, 1, .ro, 0, [], 0, 1⟩, ⟨"JAMHELD", 5, 1, .ro, 0, [], 0, 1⟩, ⟨"-", 6, 2, .res, 0, [], 0, 0⟩, ⟨"NUSED", 8, 6, .ro, 0, [], 0, 63⟩, ⟨"-", 14, 2, .res, 0, [], 0, 0⟩]⟩,
  ⟨"GNSS_SOLUNC", 0x005A, 2, 0x0, 1, 0x2E, 0x0, [⟨"NS", 0, 32, .ro, 0, [], 0, 4294967295⟩]⟩,
  ⟨"GNSS_SOLSEQ", 0x005E, 1, 0x0, 1, 0x2E, 0x0, [⟨"SEQ", 0, 16, .ro, 0, [], 0, 65535⟩]⟩,
  ⟨"GNSS_EPHAGE", 0x0060, 1, 0x0, 1, 0x2E, 0x0, [⟨"MIN", 0, 16, .ro, 65535, [], 0, 65535⟩]⟩,
  ⟨"GNSS_ALMAGE", 0x0062, 1, 0x0, 1, 0x2E, 0x0, [⟨"DAYS", 0, 16, .ro, 65535, [], 0, 65535⟩]⟩,
  ⟨"GNSS_ACQCNT", 0x0064, 1, 0x0, 1, 0x2E, 0x0, [⟨"COUNT", 0, 16, .rc, 0, [], 0, 65535⟩]⟩,
  ⟨"GNSS_NOTCH_CFG", 0x0100, 1, 0x10, 8, 0x2E, 0x0, [⟨"MODE", 0, 2, .rw, 1, [], 0, 2⟩, ⟨"WIDTH", 2, 2, .rw, 1, [], 0, 3⟩, ⟨"-", 4, 12, .res, 0, [], 0, 0⟩]⟩,
  ⟨"GNSS_NOTCH_FREQ", 0x0102, 2, 0x10, 8, 0x2E, 0x0, [⟨"HZ", 0, 32, .rw, 0, [], 0, 4294967295⟩]⟩,
  ⟨"GNSS_NOTCH_STAT", 0x0106, 1, 0x10, 8, 0x2E, 0x0, [⟨"ACTIVE", 0, 1, .ro, 0, [], 0, 1⟩, ⟨"-", 1, 7, .res, 0, [], 0, 0⟩, ⟨"LINE", 8, 8, .ro, 0, [], 0, 255⟩]⟩,
  ⟨"GNSS_CH_STAT", 0x1000, 1, 0x20, 64, 0x2E, 0x0, [⟨"STATE", 0, 3, .ro, 0, [], 0, 7⟩, ⟨"SYS", 3, 1, .ro, 0, [], 0, 1⟩, ⟨"BTRK", 4, 1, .ro, 0, [], 0, 1⟩, ⟨"USED", 5, 1, .ro, 0, [], 0, 1⟩, ⟨"-", 6, 2, .res, 0, [], 0, 0⟩, ⟨"PRN", 8, 8, .ro, 0, [], 0, 255⟩]⟩,
  ⟨"GNSS_CH_CN0A", 0x1002, 1, 0x20, 64, 0x2E, 0x0, [⟨"CN0", 0, 16, .ro, 0, [], 0, 65535⟩]⟩,
  ⟨"GNSS_CH_CN0B", 0x1004, 1, 0x20, 64, 0x2E, 0x0, [⟨"CN0", 0, 16, .ro, 0, [], 0, 65535⟩]⟩,
  ⟨"GNSS_CH_DOP", 0x1006, 2, 0x20, 64, 0x2E, 0x0, [⟨"HZ", 0, 32, .ro, 0, [], 0, 4294967295⟩]⟩,
  ⟨"GNSS_CH_LOCKT", 0x100A, 1, 0x20, 64, 0x2E, 0x0, [⟨"S", 0, 16, .ro, 0, [], 0, 65535⟩]⟩,
  ⟨"GNSS_CH_NAVOK", 0x100C, 1, 0x20, 64, 0x2E, 0x0, [⟨"COUNT", 0, 16, .rc, 0, [], 0, 65535⟩]⟩ ] ++ [
  ⟨"GNSS_CH_NAVBAD", 0x100E, 1, 0x20, 64, 0x2E, 0x0, [⟨"COUNT", 0, 16, .rc, 0, [], 0, 65535⟩]⟩ ]

/-- The registers of LANE (window 0x09). -/
def regsLANE : List RegRow := [
  ⟨"LANE_ID", 0, 1, 0, 1, 0, 0, [⟨"VERSION", 0, 8, .ro, 1, [], 0, 255⟩, ⟨"-", 8, 3, .res, 0, [], 0, 0⟩, ⟨"BLOCK", 11, 5, .ro, 9, [], 0, 31⟩]⟩,
  ⟨"LANE_MODE", 0x0010, 1, 0x0, 1, 0x1E, 0x0, [⟨"PORTMODE", 0, 2, .rw, 0, [], 0, 3⟩, ⟨"FEC", 2, 1, .rw, 1, [], 0, 1⟩, ⟨"-", 3, 13, .res, 0, [], 0, 0⟩]⟩,
  ⟨"LANE_LINKMAP", 0x0012, 1, 0x0, 1, 0x1E, 0x0, [⟨"UP", 0, 10, .ro, 0, [], 0, 1023⟩, ⟨"-", 10, 6, .res, 0, [], 0, 0⟩]⟩,
  ⟨"LANE_FECLIM", 0x0014, 1, 0x0, 1, 0x1E, 0x0, [⟨"COUNT", 0, 16, .rw, 1, [], 0, 65535⟩]⟩,
  ⟨"LANE_GEN", 0x001E, 1, 0x0, 1, 0x1E, 0x0, [⟨"GEN", 0, 16, .ro, 0, [], 0, 65535⟩]⟩,
  ⟨"LANE_LANE_CFG", 0x0100, 1, 0x40, 10, 0x1E, 0x0, [⟨"EN", 0, 1, .rw, 0, [0, 0, 0, 0, 0, 0, 0, 0, 1, 1], 0, 1⟩, ⟨"TXINV", 1, 1, .rw, 0, [], 0, 1⟩, ⟨"RXINV", 2, 1, .rw, 0, [], 0, 1⟩, ⟨"LOOP", 3, 1, .rw, 0, [], 0, 1⟩, ⟨"-", 4, 12, .res, 0, [], 0, 0⟩]⟩,
  ⟨"LANE_LANE_STAT", 0x0102, 1, 0x40, 10, 0x1E, 0x0, [⟨"STATE", 0, 3, .ro, 0, [], 0, 7⟩, ⟨"SIGDET", 3, 1, .ro, 0, [], 0, 1⟩, ⟨"CDRLOCK", 4, 1, .ro, 0, [], 0, 1⟩, ⟨"BLKLOCK", 5, 1, .ro, 0, [], 0, 1⟩, ⟨"AMLOCK", 6, 1, .ro, 0, [], 0, 1⟩, ⟨"HIBER", 7, 1, .ro, 0, [], 0, 1⟩, ⟨"TXPLLOCK", 8, 1, .ro, 0, [], 0, 1⟩, ⟨"RFAULT", 9, 1, .ro, 0, [], 0, 1⟩, ⟨"BYPREF", 10, 1, .ro, 1, [], 0, 1⟩, ⟨"-", 11, 5, .res, 0, [], 0, 0⟩]⟩,
  ⟨"LANE_LANE_TXEQ", 0x0104, 1, 0x40, 10, 0x1E, 0x0, [⟨"PRE", 0, 5, .rw, 0, [], 0, 31⟩, ⟨"POST", 5, 6, .rw, 0, [], 0, 63⟩, ⟨"SWING", 11, 5, .rw, 24, [], 0, 31⟩]⟩,
  ⟨"LANE_LANE_RXEQ", 0x0106, 1, 0x40, 10, 0x1E, 0x0, [⟨"AUTO", 0, 1, .rw, 1, [], 0, 1⟩, ⟨"CTLE", 1, 5, .rw, 0, [], 0, 31⟩, ⟨"-", 6, 10, .res, 0, [], 0, 0⟩]⟩,
  ⟨"LANE_LANE_TXLAT", 0x0108, 2, 0x40, 10, 0x1E, 0x0, [⟨"LAT", 0, 32, .ro, 0, [], 0, 4294967295⟩]⟩,
  ⟨"LANE_LANE_SKEW", 0x010C, 1, 0x40, 10, 0x1E, 0x0, [⟨"UI", 0, 16, .ro, 0, [], 0, 65535⟩]⟩,
  ⟨"LANE_LANE_SLIPS", 0x010E, 1, 0x40, 10, 0x1E, 0x0, [⟨"COUNT", 0, 16, .rc, 0, [], 0, 65535⟩]⟩,
  ⟨"LANE_LANE_LOSCNT", 0x0110, 1, 0x40, 10, 0x1E, 0x0, [⟨"COUNT", 0, 16, .rc, 0, [], 0, 65535⟩]⟩,
  ⟨"LANE_LANE_DOWNCNT", 0x0112, 1, 0x40, 10, 0x1E, 0x0, [⟨"COUNT", 0, 16, .rc, 0, [], 0, 65535⟩]⟩,
  ⟨"LANE_LANE_BERCNT", 0x0114, 1, 0x40, 10, 0x1E, 0x0, [⟨"COUNT", 0, 16, .rc, 0, [], 0, 65535⟩]⟩,
  ⟨"LANE_LANE_FECCORR", 0x0116, 2, 0x40, 10, 0x1E, 0x0, [⟨"COUNT", 0, 32, .rc, 0, [], 0, 4294967295⟩]⟩,
  ⟨"LANE_LANE_FECUNC", 0x011A, 1, 0x40, 10, 0x1E, 0x0, [⟨"COUNT", 0, 16, .rc, 0, [], 0, 65535⟩]⟩ ]

/-- The registers of MTS (window 0x0A). -/
def regsMTS : List RegRow := [
  ⟨"MTS_ID", 0, 1, 0, 1, 0, 0, [⟨"VERSION", 0, 8, .ro, 1, [], 0, 255⟩, ⟨"-", 8, 3, .res, 0, [], 0, 0⟩, ⟨"BLOCK", 11, 5, .ro, 10, [], 0, 31⟩]⟩,
  ⟨"MTS_METERTOL", 0x0010, 1, 0x0, 1, 0x1E, 0x0, [⟨"TOL", 0, 16, .rw, 16, [], 0, 65535⟩]⟩,
  ⟨"MTS_PREDTOL", 0x0012, 1, 0x0, 1, 0x1E, 0x0, [⟨"TOL", 0, 16, .rw, 82, [], 0, 65535⟩]⟩,
  ⟨"MTS_LOCKMAP", 0x0014, 1, 0x0, 1, 0x1E, 0x0, [⟨"TX", 0, 10, .ro, 0, [], 0, 1023⟩, ⟨"-", 10, 6, .res, 0, [], 0, 0⟩]⟩,
  ⟨"MTS_RXLOCKMAP", 0x0016, 1, 0x0, 1, 0x1E, 0x0, [⟨"RX", 0, 10, .ro, 0, [], 0, 1023⟩, ⟨"-", 10, 6, .res, 0, [], 0, 0⟩]⟩,
  ⟨"MTS_GEN", 0x001E, 1, 0x0, 1, 0x1E, 0x0, [⟨"GEN", 0, 16, .ro, 0, [], 0, 65535⟩]⟩,
  ⟨"MTS_LANE_CFG", 0x0100, 1, 0x40, 10, 0x1E, 0x0, [⟨"STAMPEN", 0, 1, .rw, 1, [], 0, 1⟩, ⟨"-", 1, 15, .res, 0, [], 0, 0⟩]⟩,
  ⟨"MTS_LANE_TXDLY", 0x0102, 2, 0x40, 10, 0x1E, 0x0, [⟨"DLY", 0, 32, .rw, 0, [], 0, 4294967295⟩]⟩,
  ⟨"MTS_LANE_RXDLY", 0x0106, 2, 0x40, 10, 0x1E, 0x0, [⟨"DLY", 0, 32, .rw, 0, [], 0, 4294967295⟩]⟩,
  ⟨"MTS_LANE_DLYUNC", 0x010A, 1, 0x40, 10, 0x1E, 0x0, [⟨"UNC", 0, 16, .rw, 0, [], 0, 65535⟩]⟩,
  ⟨"MTS_LANE_TXFREQ", 0x010C, 2, 0x40, 10, 0x1E, 0x0, [⟨"FRAC", 0, 32, .ro, 0, [], 0, 4294967295⟩]⟩,
  ⟨"MTS_LANE_RXFREQ", 0x0110, 2, 0x40, 10, 0x1E, 0x0, [⟨"FRAC", 0, 32, .ro, 0, [], 0, 4294967295⟩]⟩,
  ⟨"MTS_LANE_RESID", 0x0114, 1, 0x40, 10, 0x1E, 0x0, [⟨"TX", 0, 8, .ro, 0, [], 0, 255⟩, ⟨"RX", 8, 8, .ro, 0, [], 0, 255⟩]⟩,
  ⟨"MTS_LANE_RXSTAMP", 0x0116, 8, 0x40, 10, 0x1E, 0x0, [⟨"TIME", 0, 128, .ro, 0, [], 0, 340282366920938463463374607431768211455⟩]⟩,
  ⟨"MTS_LANE_TXSTAMP", 0x0126, 8, 0x40, 10, 0x1E, 0x0, [⟨"TIME", 0, 128, .ro, 0, [], 0, 340282366920938463463374607431768211455⟩]⟩,
  ⟨"MTS_LANE_RMNEXT", 0x0136, 1, 0x40, 10, 0x1E, 0x0, [⟨"WORDS", 0, 16, .ro, 0, [], 0, 65535⟩]⟩,
  ⟨"MTS_LANE_RMUNSCH", 0x0138, 1, 0x40, 10, 0x1E, 0x0, [⟨"COUNT", 0, 16, .rc, 0, [], 0, 65535⟩]⟩,
  ⟨"MTS_LANE_PREDERR", 0x013A, 1, 0x40, 10, 0x1E, 0x0, [⟨"ERR", 0, 16, .rc, 0, [], 0, 65535⟩]⟩,
  ⟨"MTS_LANE_PREDCNT", 0x013C, 1, 0x40, 10, 0x1E, 0x0, [⟨"COUNT", 0, 16, .rc, 0, [], 0, 65535⟩]⟩,
  ⟨"MTS_LANE_BND", 0x013E, 1, 0x40, 10, 0x1E, 0x0, [⟨"PS", 0, 16, .ro, 0, [], 0, 65535⟩]⟩ ]

/-- The registers of PKT (window 0x0B). -/
def regsPKT : List RegRow := [
  ⟨"PKT_ID", 0, 1, 0, 1, 0, 0, [⟨"VERSION", 0, 8, .ro, 1, [], 0, 255⟩, ⟨"-", 8, 3, .res, 0, [], 0, 0⟩, ⟨"BLOCK", 11, 5, .ro, 11, [], 0, 31⟩]⟩,
  ⟨"PKT_CTRL", 0x0010, 1, 0x0, 1, 0x1E, 0x0, [⟨"EN", 0, 1, .rw, 0, [], 0, 1⟩, ⟨"NTPEN", 1, 1, .rw, 0, [], 0, 1⟩, ⟨"NTSEN", 2, 1, .rw, 0, [], 0, 1⟩, ⟨"MACEN", 3, 1, .rw, 0, [], 0, 1⟩, ⟨"PTPEN", 4, 1, .rw, 0, [], 0, 1⟩, ⟨"ANONEN", 5, 1, .rw, 0, [], 0, 1⟩, ⟨"INTLVEN", 6, 1, .rw, 0, [], 0, 1⟩, ⟨"SILENCE", 7, 1, .rw, 0, [], 0, 1⟩, ⟨"KOD", 8, 1, .rw, 0, [], 0, 1⟩, ⟨"NTSNAK", 9, 1, .rw, 0, [], 0, 1⟩, ⟨"UDP4CSUM", 10, 1, .rw, 1, [], 0, 1⟩, ⟨"-", 11, 5, .res, 0, [], 0, 0⟩]⟩,
  ⟨"PKT_SVC", 0x0012, 1, 0x0, 1, 0x1E, 0x0, [⟨"STATE", 0, 3, .ro, 0, [], 0, 7⟩, ⟨"BNDOVER", 3, 1, .ro, 0, [], 0, 1⟩, ⟨"-", 4, 12, .res, 0, [], 0, 0⟩]⟩,
  ⟨"PKT_SVCHOLD", 0x0014, 1, 0x0, 1, 0x1E, 0x0, [⟨"MS", 0, 16, .rw, 1000, [], 1, 65535⟩]⟩,
  ⟨"PKT_NTPPREC", 0x0016, 1, 0x0, 1, 0x1E, 0x0, [⟨"PREC", 0, 8, .rw, 227, [], 0, 255⟩, ⟨"-", 8, 8, .res, 0, [], 0, 0⟩]⟩,
  ⟨"PKT_EVT", 0x0018, 1, 0x0, 1, 0x1E, 0x0, [⟨"STOMP", 0, 1, .w1c, 0, [], 0, 1⟩, ⟨"LOST", 1, 1, .w1c, 0, [], 0, 1⟩, ⟨"SPECTMO", 2, 1, .w1c, 0, [], 0, 1⟩, ⟨"RXOVF", 3, 1, .w1c, 0, [], 0, 1⟩, ⟨"RQOVF", 4, 1, .w1c, 0, [], 0, 1⟩, ⟨"ANONSAT", 5, 1, .w1c, 0, [], 0, 1⟩, ⟨"GRANTREF", 6, 1, .w1c, 0, [], 0, 1⟩, ⟨"LKTMO", 7, 1, .w1c, 0, [], 0, 1⟩, ⟨"STEPDROP", 8, 1, .w1c, 0, [], 0, 1⟩, ⟨"WITHDRAW", 9, 1, .w1c, 0, [], 0, 1⟩, ⟨"MISSRATE", 10, 1, .w1c, 0, [], 0, 1⟩, ⟨"-", 11, 5, .res, 0, [], 0, 0⟩]⟩,
  ⟨"PKT_MISSLIM", 0x001A, 1, 0x0, 1, 0x1E, 0x0, [⟨"COUNT", 0, 16, .rw, 100, [], 0, 65535⟩]⟩,
  ⟨"PKT_HOSTMAX", 0x001C, 1, 0x0, 1, 0x1E, 0x0, [⟨"RATE", 0, 16, .rw, 2000, [], 0, 65535⟩]⟩,
  ⟨"PKT_GEN", 0x001E, 1, 0x0, 1, 0x1E, 0x0, [⟨"GEN", 0, 16, .ro, 0, [], 0, 65535⟩]⟩,
  ⟨"PKT_ANONRATE", 0x0020, 1, 0x0, 1, 0x1E, 0x0, [⟨"RATE", 0, 16, .rw, 16, [], 1, 65535⟩]⟩,
  ⟨"PKT_ANONBURST", 0x0022, 1, 0x0, 1, 0x1E, 0x0, [⟨"DEPTH", 0, 16, .rw, 32, [], 1, 65535⟩]⟩,
  ⟨"PKT_ANONPFX", 0x0024, 1, 0x0, 1, 0x1E, 0x0, [⟨"PFX4", 0, 6, .rw, 32, [], 8, 32⟩, ⟨"-", 6, 2, .res, 0, [], 0, 0⟩, ⟨"PFX6", 8, 8, .rw, 64, [], 32, 128⟩]⟩,
  ⟨"PKT_ANONMAX", 0x0026, 2, 0x0, 1, 0x1E, 0x0, [⟨"RATE", 0, 32, .rw, 8000000, [], 0, 4294967295⟩]⟩,
  ⟨"PKT_KODMAX", 0x002A, 1, 0x0, 1, 0x1E, 0x0, [⟨"RATE", 0, 16, .rw, 1000, [], 0, 65535⟩]⟩,
  ⟨"PKT_GRANTMIN", 0x002C, 1, 0x0, 1, 0x1E, 0x0, [⟨"ANN", 0, 4, .rw, 13, [], 0, 15⟩, ⟨"SYNC", 4, 4, .rw, 9, [], 0, 15⟩, ⟨"DRESP", 8, 4, .rw, 9, [], 0, 15⟩, ⟨"-", 12, 4, .res, 0, [], 0, 0⟩]⟩,
  ⟨"PKT_GRANTMAXDUR", 0x002E, 1, 0x0, 1, 0x1E, 0x0, [⟨"S", 0, 16, .rw, 300, [], 10, 65535⟩]⟩,
  ⟨"PKT_GRANTBUDGET", 0x0030, 2, 0x0, 1, 0x1E, 0x0, [⟨"RATE", 0, 32, .rw, 16000000, [], 0, 4294967295⟩]⟩,
  ⟨"PKT_GRANTLOAD", 0x0034, 2, 0x0, 1, 0x1E, 0x0, [⟨"RATE", 0, 32, .ro, 0, [], 0, 4294967295⟩]⟩,
  ⟨"PKT_GRANTCNT", 0x0038, 2, 0x0, 1, 0x1E, 0x0, [⟨"COUNT", 0, 32, .ro, 0, [], 0, 4294967295⟩]⟩,
  ⟨"PKT_REFID", 0x0040, 2, 0x4, 12, 0x1E, 0x0, [⟨"ID", 0, 32, .rw, 0, [5460048, 5460048, 5460048, 5460048, 5460048, 5460048, 5460048, 5460048, 5460039, 5264464, 5264464, 1380865104], 0, 4294967295⟩]⟩ ] ++ [
  ⟨"PKT_REFIDHOLD", 0x0070, 2, 0x0, 1, 0x1E, 0x0, [⟨"ID", 0, 32, .rw, 1145851720, [], 0, 4294967295⟩]⟩,
  ⟨"PKT_PORT_MAC", 0x0100, 3, 0x20, 8, 0x1E, 0x0, [⟨"MAC", 0, 48, .rw, 0, [0, 1, 2, 3, 4, 5, 6, 7], 0, 281474976710655⟩]⟩,
  ⟨"PKT_PORT_STAT", 0x0106, 1, 0x20, 8, 0x1E, 0x0, [⟨"UP", 0, 1, .ro, 0, [], 0, 1⟩, ⟨"METER", 1, 1, .ro, 0, [], 0, 1⟩, ⟨"SPECOK", 2, 1, .ro, 0, [], 0, 1⟩, ⟨"-", 3, 13, .res, 0, [], 0, 0⟩]⟩,
  ⟨"PKT_PORT_LASTTX", 0x0108, 8, 0x20, 8, 0x1E, 0x0, [⟨"TIME", 0, 128, .ro, 0, [], 0, 340282366920938463463374607431768211455⟩]⟩,
  ⟨"PKT_PORT_LASTST", 0x0118, 1, 0x20, 8, 0x1E, 0x0, [⟨"SPEC", 0, 1, .ro, 0, [], 0, 1⟩, ⟨"VALID", 1, 1, .ro, 0, [], 0, 1⟩, ⟨"KIND", 2, 2, .ro, 0, [], 0, 2⟩, ⟨"-", 4, 12, .res, 0, [], 0, 0⟩]⟩,
  ⟨"PKT_ADDR_CFG", 0x0200, 1, 0x20, 8, 0x1E, 0x0, [⟨"EN", 0, 1, .rw, 0, [], 0, 1⟩, ⟨"V6", 1, 1, .rw, 0, [], 0, 1⟩, ⟨"GRP0", 2, 1, .rw, 0, [], 0, 1⟩, ⟨"GRP1", 3, 1, .rw, 0, [], 0, 1⟩, ⟨"TAGGED", 4, 1, .rw, 0, [], 0, 1⟩, ⟨"-", 5, 11, .res, 0, [], 0, 0⟩]⟩,
  ⟨"PKT_ADDR_VLAN", 0x0202, 1, 0x20, 8, 0x1E, 0x0, [⟨"VID", 0, 12, .rw, 0, [], 0, 4095⟩, ⟨"-", 12, 4, .res, 0, [], 0, 0⟩]⟩,
  ⟨"PKT_ADDR_IP", 0x0204, 8, 0x20, 8, 0x1E, 0x0, [⟨"IP", 0, 128, .rw, 0, [], 0, 340282366920938463463374607431768211455⟩]⟩,
  ⟨"PKT_PTP_CFG", 0x0400, 1, 0x80, 2, 0x1E, 0x0, [⟨"EN", 0, 1, .rw, 0, [], 0, 1⟩, ⟨"TWOSTEP", 1, 1, .rw, 0, [], 0, 1⟩, ⟨"P2P", 2, 1, .rw, 0, [], 0, 1⟩, ⟨"UDP4", 3, 1, .rw, 0, [], 0, 1⟩, ⟨"UDP6", 4, 1, .rw, 0, [], 0, 1⟩, ⟨"L2", 5, 1, .rw, 0, [], 0, 1⟩, ⟨"ANONPTP", 6, 1, .rw, 0, [], 0, 1⟩, ⟨"AUTHEN", 7, 1, .rw, 0, [], 0, 1⟩, ⟨"AUTHREQ", 8, 1, .rw, 0, [], 0, 1⟩, ⟨"-", 9, 7, .res, 0, [], 0, 0⟩]⟩,
  ⟨"PKT_PTP_DOMAIN", 0x0402, 1, 0x80, 2, 0x1E, 0x0, [⟨"DOMAIN", 0, 8, .rw, 0, [], 0, 255⟩, ⟨"-", 8, 8, .res, 0, [], 0, 0⟩]⟩,
  ⟨"PKT_PTP_PRIO", 0x0404, 1, 0x80, 2, 0x1E, 0x0, [⟨"PRIO1", 0, 8, .rw, 128, [], 0, 255⟩, ⟨"PRIO2", 8, 8, .rw, 128, [], 0, 255⟩]⟩,
  ⟨"PKT_PTP_INTV", 0x0406, 1, 0x80, 2, 0x1E, 0x0, [⟨"ANN", 0, 4, .rw, 1, [], 0, 15⟩, ⟨"SYNC", 4, 4, .rw, 0, [], 0, 15⟩, ⟨"MINDREQ", 8, 4, .rw, 0, [], 0, 15⟩, ⟨"-", 12, 4, .res, 0, [], 0, 0⟩]⟩,
  ⟨"PKT_PTP_SPP", 0x0408, 1, 0x80, 2, 0x1E, 0x0, [⟨"SPP", 0, 8, .rw, 0, [], 0, 255⟩, ⟨"-", 8, 8, .res, 0, [], 0, 0⟩]⟩,
  ⟨"PKT_PTP_SLVCFG", 0x0410, 1, 0x80, 2, 0x1E, 0x0, [⟨"EN", 0, 1, .rw, 0, [], 0, 1⟩, ⟨"PORT", 1, 2, .rw, 0, [], 0, 3⟩, ⟨"UNICAST", 3, 1, .rw, 0, [], 0, 1⟩, ⟨"TRANSPORT", 4, 2, .rw, 0, [], 0, 2⟩, ⟨"-", 6, 2, .res, 0, [], 0, 0⟩, ⟨"DREQLOG", 8, 4, .rw, 12, [], 0, 15⟩, ⟨"-", 12, 4, .res, 0, [], 0, 0⟩]⟩,
  ⟨"PKT_PTP_SLVMASTER", 0x0412, 4, 0x80, 2, 0x1E, 0x0, [⟨"ID", 0, 64, .rw, 0, [], 0, 18446744073709551615⟩]⟩,
  ⟨"PKT_PTP_SLVADDR", 0x041A, 8, 0x80, 2, 0x1E, 0x0, [⟨"IP", 0, 128, .rw, 0, [], 0, 340282366920938463463374607431768211455⟩]⟩,
  ⟨"PKT_PTP_SLVSTAT", 0x042A, 1, 0x80, 2, 0x1E, 0x0, [⟨"STATE", 0, 2, .ro, 0, [], 0, 3⟩, ⟨"GRANTED", 2, 1, .ro, 0, [], 0, 1⟩, ⟨"-", 3, 13, .res, 0, [], 0, 0⟩]⟩,
  ⟨"PKT_PTP_SLVCUR", 0x042C, 4, 0x80, 2, 0x1E, 0x0, [⟨"ID", 0, 64, .ro, 0, [], 0, 18446744073709551615⟩]⟩,
  ⟨"PKT_PTP_SLVOFF", 0x0434, 3, 0x80, 2, 0x1E, 0x0, [⟨"PS", 0, 48, .ro, 0, [], 0, 281474976710655⟩]⟩,
  ⟨"PKT_PTP_SLVDELAY", 0x043A, 3, 0x80, 2, 0x1E, 0x0, [⟨"PS", 0, 48, .ro, 0, [], 0, 281474976710655⟩]⟩ ] ++ [
  ⟨"PKT_PTP_SLVCHG", 0x0440, 1, 0x80, 2, 0x1E, 0x0, [⟨"COUNT", 0, 16, .rc, 0, [], 0, 65535⟩]⟩,
  ⟨"PKT_CNT", 0x0800, 2, 0x4, 33, 0x1E, 0x0, [⟨"COUNT", 0, 32, .ro, 0, [], 0, 4294967295⟩]⟩ ]

/-- The registers of AUTH (window 0x0C). -/
def regsAUTH : List RegRow := [
  ⟨"AUTH_ID", 0, 1, 0, 1, 0, 0, [⟨"VERSION", 0, 8, .ro, 1, [], 0, 255⟩, ⟨"-", 8, 3, .res, 0, [], 0, 0⟩, ⟨"BLOCK", 11, 5, .ro, 12, [], 0, 31⟩]⟩,
  ⟨"AUTH_CTRL", 0x0010, 1, 0x0, 1, 0x1E, 0x0, [⟨"EN256", 0, 1, .rw, 1, [], 0, 1⟩, ⟨"EN512", 1, 1, .rw, 1, [], 0, 1⟩, ⟨"MAXCK", 2, 4, .rw, 8, [], 1, 8⟩, ⟨"-", 6, 10, .res, 0, [], 0, 0⟩]⟩,
  ⟨"AUTH_STAT", 0x0012, 1, 0x0, 1, 0x1E, 0x0, [⟨"CURVALID", 0, 1, .ro, 0, [], 0, 1⟩, ⟨"ROTNTS", 1, 1, .ro, 0, [], 0, 1⟩, ⟨"ROTPTP", 2, 1, .ro, 0, [], 0, 1⟩, ⟨"DRBGOK", 3, 1, .ro, 1, [], 0, 1⟩, ⟨"STOREOK", 4, 1, .ro, 1, [], 0, 1⟩, ⟨"-", 5, 11, .res, 0, [], 0, 0⟩]⟩,
  ⟨"AUTH_CURNTS", 0x0014, 1, 0x0, 1, 0x1E, 0x0, [⟨"SLOT", 0, 10, .ro, 0, [], 0, 1023⟩, ⟨"-", 10, 6, .res, 0, [], 0, 0⟩]⟩,
  ⟨"AUTH_SERIAL", 0x0016, 2, 0x0, 1, 0x1E, 0x0, [⟨"NEXT", 0, 22, .ro, 0, [], 0, 4194303⟩, ⟨"-", 22, 10, .res, 0, [], 0, 0⟩]⟩,
  ⟨"AUTH_USED", 0x001A, 1, 0x0, 1, 0x1E, 0x0, [⟨"COUNT", 0, 11, .ro, 0, [], 0, 2047⟩, ⟨"-", 11, 5, .res, 0, [], 0, 0⟩]⟩,
  ⟨"AUTH_FAILLIM", 0x001C, 1, 0x0, 1, 0x1E, 0x0, [⟨"COUNT", 0, 16, .rw, 10000, [], 0, 65535⟩]⟩,
  ⟨"AUTH_GEN", 0x001E, 1, 0x0, 1, 0x1E, 0x0, [⟨"GEN", 0, 16, .ro, 0, [], 0, 65535⟩]⟩,
  ⟨"AUTH_EVT", 0x0020, 1, 0x0, 1, 0x1E, 0x0, [⟨"FAILRATE", 0, 1, .w1c, 0, [], 0, 1⟩, ⟨"TAGLATE", 1, 1, .w1c, 0, [], 0, 1⟩, ⟨"DRBGFAIL", 2, 1, .w1c, 0, [], 0, 1⟩, ⟨"KEYECC", 3, 1, .w1c, 0, [], 0, 1⟩, ⟨"RESTORE", 4, 1, .w1c, 0, [], 0, 1⟩, ⟨"-", 5, 11, .res, 0, [], 0, 0⟩]⟩,
  ⟨"AUTH_ECCCORR", 0x0022, 1, 0x0, 1, 0x1E, 0x0, [⟨"COUNT", 0, 16, .rc, 0, [], 0, 65535⟩]⟩,
  ⟨"AUTH_CNT", 0x0100, 2, 0x4, 14, 0x1E, 0x0, [⟨"COUNT", 0, 32, .ro, 0, [], 0, 4294967295⟩]⟩,
  ⟨"AUTH_SLOT_CFG", 0x1000, 1, 0x10, 1024, 0x1E, 0x0, [⟨"TYPE", 0, 4, .ro, 0, [], 0, 15⟩, ⟨"STATE", 4, 3, .ro, 0, [], 0, 7⟩, ⟨"PERSIST", 7, 1, .ro, 0, [], 0, 1⟩, ⟨"WRAPPED", 8, 1, .ro, 0, [], 0, 1⟩, ⟨"-", 9, 7, .res, 0, [], 0, 0⟩]⟩,
  ⟨"AUTH_SLOT_KEYID", 0x1002, 2, 0x10, 1024, 0x1E, 0x0, [⟨"ID", 0, 32, .ro, 0, [], 0, 4294967295⟩]⟩,
  ⟨"AUTH_SLOT_SPP", 0x1006, 1, 0x10, 1024, 0x1E, 0x0, [⟨"SPP", 0, 8, .ro, 0, [], 0, 255⟩, ⟨"-", 8, 8, .res, 0, [], 0, 0⟩]⟩,
  ⟨"AUTH_SLOT_KCV", 0x1008, 2, 0x10, 1024, 0x1E, 0x0, [⟨"KCV", 0, 24, .ro, 0, [], 0, 16777215⟩, ⟨"-", 24, 8, .res, 0, [], 0, 0⟩]⟩,
  ⟨"AUTH_SLOT_USES", 0x100C, 2, 0x10, 1024, 0x1E, 0x0, [⟨"COUNT", 0, 32, .ro, 0, [], 0, 4294967295⟩]⟩ ]

/-- The registers of CTAB (window 0x0D). -/
def regsCTAB : List RegRow := [
  ⟨"CTAB_ID", 0, 1, 0, 1, 0, 0, [⟨"VERSION", 0, 8, .ro, 1, [], 0, 255⟩, ⟨"-", 8, 3, .res, 0, [], 0, 0⟩, ⟨"BLOCK", 11, 5, .ro, 13, [], 0, 31⟩]⟩,
  ⟨"CTAB_STAT", 0x0010, 1, 0x0, 1, 0x1E, 0x0, [⟨"READY", 0, 1, .ro, 0, [], 0, 1⟩, ⟨"TRAINED", 1, 2, .ro, 1, [], 0, 2⟩, ⟨"REBUILD", 3, 1, .ro, 0, [], 0, 1⟩, ⟨"BULKBUSY", 4, 1, .ro, 0, [], 0, 1⟩, ⟨"-", 5, 11, .res, 0, [], 0, 0⟩]⟩,
  ⟨"CTAB_BULKSHARE", 0x0012, 1, 0x0, 1, 0x1E, 0x0, [⟨"SHARE", 0, 4, .rw, 4, [], 1, 15⟩, ⟨"-", 4, 12, .res, 0, [], 0, 0⟩]⟩,
  ⟨"CTAB_ENTRIES", 0x0014, 2, 0x0, 1, 0x1E, 0x0, [⟨"COUNT", 0, 23, .ro, 0, [], 0, 8388607⟩, ⟨"-", 23, 9, .res, 0, [], 0, 0⟩]⟩,
  ⟨"CTAB_BADCNT", 0x0018, 2, 0x0, 1, 0x1E, 0x0, [⟨"COUNT", 0, 23, .ro, 0, [], 0, 8388607⟩, ⟨"-", 23, 9, .res, 0, [], 0, 0⟩]⟩,
  ⟨"CTAB_GEN", 0x001E, 1, 0x0, 1, 0x1E, 0x0, [⟨"GEN", 0, 16, .ro, 0, [], 0, 65535⟩]⟩,
  ⟨"CTAB_LOOKUPS", 0x0020, 2, 0x0, 1, 0x1E, 0x0, [⟨"COUNT", 0, 32, .ro, 0, [], 0, 4294967295⟩]⟩,
  ⟨"CTAB_HITS", 0x0024, 2, 0x0, 1, 0x1E, 0x0, [⟨"COUNT", 0, 32, .ro, 0, [], 0, 4294967295⟩]⟩,
  ⟨"CTAB_BADHIT", 0x0028, 1, 0x0, 1, 0x1E, 0x0, [⟨"COUNT", 0, 16, .rc, 0, [], 0, 65535⟩]⟩,
  ⟨"CTAB_REBDROP", 0x002A, 1, 0x0, 1, 0x1E, 0x0, [⟨"COUNT", 0, 16, .rc, 0, [], 0, 65535⟩]⟩,
  ⟨"CTAB_STALECMT", 0x002C, 1, 0x0, 1, 0x1E, 0x0, [⟨"COUNT", 0, 16, .rc, 0, [], 0, 65535⟩]⟩,
  ⟨"CTAB_LEASEEXP", 0x002E, 1, 0x0, 1, 0x1E, 0x0, [⟨"COUNT", 0, 16, .rc, 0, [], 0, 65535⟩]⟩,
  ⟨"CTAB_FORCEREL", 0x0030, 1, 0x0, 1, 0x1E, 0x0, [⟨"COUNT", 0, 16, .rc, 0, [], 0, 65535⟩]⟩,
  ⟨"CTAB_IDXFULL", 0x0032, 1, 0x0, 1, 0x1E, 0x0, [⟨"COUNT", 0, 16, .rc, 0, [], 0, 65535⟩]⟩,
  ⟨"CTAB_ECCCORR", 0x0040, 1, 0x0, 1, 0x1E, 0x0, [⟨"COUNT", 0, 16, .rc, 0, [], 0, 65535⟩]⟩,
  ⟨"CTAB_ECCUNC", 0x0042, 1, 0x0, 1, 0x1E, 0x0, [⟨"COUNT", 0, 16, .rc, 0, [], 0, 65535⟩]⟩,
  ⟨"CTAB_ECCLAST", 0x0044, 3, 0x0, 1, 0x1E, 0x0, [⟨"ADDR", 0, 33, .ro, 0, [], 0, 8589934591⟩, ⟨"-", 33, 15, .res, 0, [], 0, 0⟩]⟩,
  ⟨"CTAB_SCRUBH", 0x004A, 1, 0x0, 1, 0x1E, 0x0, [⟨"H", 0, 16, .rw, 4, [], 1, 168⟩]⟩,
  ⟨"CTAB_CELIM", 0x004C, 1, 0x0, 1, 0x1E, 0x0, [⟨"COUNT", 0, 16, .rw, 64, [], 0, 65535⟩]⟩,
  ⟨"CTAB_HISTW", 0x0050, 1, 0x0, 1, 0x1E, 0x0, [⟨"NS", 0, 16, .rw, 1000, [], 1, 65535⟩]⟩ ] ++ [
  ⟨"CTAB_LOADAPP", 0x0060, 2, 0x0, 1, 0x1E, 0x0, [⟨"COUNT", 0, 32, .ro, 0, [], 0, 4294967295⟩]⟩,
  ⟨"CTAB_LOADREJ", 0x0064, 2, 0x0, 1, 0x1E, 0x0, [⟨"COUNT", 0, 32, .ro, 0, [], 0, 4294967295⟩]⟩,
  ⟨"CTAB_TRAIN", 0x0070, 1, 0x0, 1, 0x1E, 0x0, [⟨"PASS", 0, 8, .ro, 0, [], 0, 255⟩, ⟨"FULL", 8, 1, .ro, 1, [], 0, 1⟩, ⟨"-", 9, 7, .res, 0, [], 0, 0⟩]⟩ ]

/-- The registers of EBND (window 0x0E). -/
def regsEBND : List RegRow := [
  ⟨"EBND_ID", 0, 1, 0, 1, 0, 0, [⟨"VERSION", 0, 8, .ro, 1, [], 0, 255⟩, ⟨"-", 8, 3, .res, 0, [], 0, 0⟩, ⟨"BLOCK", 11, 5, .ro, 14, [], 0, 31⟩]⟩,
  ⟨"EBND_CTRL", 0x0010, 1, 0x0, 1, 0x3E, 0x0, [⟨"PTPTLV", 0, 1, .rw, 1, [], 0, 1⟩, ⟨"DEGRADEB", 1, 1, .rw, 0, [], 0, 1⟩, ⟨"TRUST9", 2, 1, .rw, 0, [], 0, 1⟩, ⟨"TRUST10", 3, 1, .rw, 0, [], 0, 1⟩, ⟨"-", 4, 12, .res, 0, [], 0, 0⟩]⟩,
  ⟨"EBND_STAT", 0x0012, 1, 0x0, 1, 0x3E, 0x0, [⟨"CLASS", 0, 8, .ro, 248, [], 0, 255⟩, ⟨"BNDOVER", 8, 1, .ro, 0, [], 0, 1⟩, ⟨"TRACED", 9, 1, .ro, 0, [], 0, 1⟩, ⟨"STALE", 10, 1, .ro, 0, [], 0, 1⟩, ⟨"FROZEN", 11, 1, .ro, 0, [], 0, 1⟩, ⟨"-", 12, 4, .res, 0, [], 0, 0⟩]⟩,
  ⟨"EBND_SERVELIM", 0x0014, 2, 0x0, 1, 0x3E, 0x0, [⟨"NS", 0, 32, .rw, 1000, [], 1, 4294967295⟩]⟩,
  ⟨"EBND_LIM248", 0x0018, 2, 0x0, 1, 0x3E, 0x0, [⟨"NS", 0, 32, .rw, 1000000, [], 0, 4294967295⟩]⟩,
  ⟨"EBND_UNKACC", 0x001C, 2, 0x0, 1, 0x3E, 0x0, [⟨"NS", 0, 32, .rw, 1000000, [], 0, 4294967295⟩]⟩,
  ⟨"EBND_ANONASYM", 0x0020, 2, 0x0, 1, 0x3E, 0x0, [⟨"PS", 0, 32, .rw, 0, [], 0, 4294967295⟩]⟩,
  ⟨"EBND_NTPEFTYPE", 0x0024, 1, 0x0, 1, 0x3E, 0x0, [⟨"TYPE", 0, 16, .rw, 32337, [], 0, 65535⟩]⟩,
  ⟨"EBND_PTPORG", 0x0026, 2, 0x0, 1, 0x3E, 0x0, [⟨"ORG", 0, 24, .rw, 0, [], 0, 16777215⟩, ⟨"-", 24, 8, .res, 0, [], 0, 0⟩]⟩,
  ⟨"EBND_OSLV", 0x002A, 1, 0x0, 1, 0x3E, 0x0, [⟨"V", 0, 16, .rw, 20061, [], 0, 65535⟩]⟩,
  ⟨"EBND_OSLVHOLD", 0x002C, 1, 0x0, 1, 0x3E, 0x0, [⟨"V", 0, 16, .rw, 65535, [], 0, 65535⟩]⟩,
  ⟨"EBND_GEN", 0x003E, 1, 0x0, 1, 0x3E, 0x0, [⟨"GEN", 0, 16, .ro, 0, [], 0, 65535⟩]⟩,
  ⟨"EBND_REFUNC", 0x0040, 2, 0x4, 12, 0x3E, 0x0, [⟨"PS", 0, 32, .rw, 0, [100000, 100000, 100000, 100000, 100000, 100000, 100000, 100000, 0, 50000, 50000, 50000], 0, 4294967295⟩]⟩,
  ⟨"EBND_COMMON", 0x0080, 3, 0x0, 1, 0x3E, 0x0, [⟨"PS", 0, 48, .ro, 281474976710655, [], 0, 281474976710655⟩]⟩,
  ⟨"EBND_SEQ", 0x0086, 1, 0x0, 1, 0x3E, 0x0, [⟨"SEQ", 0, 16, .ro, 0, [], 0, 65535⟩]⟩,
  ⟨"EBND_ASYNCCNT", 0x0088, 1, 0x0, 1, 0x3E, 0x0, [⟨"COUNT", 0, 16, .rc, 0, [], 0, 65535⟩]⟩,
  ⟨"EBND_COMP", 0x0090, 2, 0x4, 9, 0x3E, 0x0, [⟨"PS", 0, 32, .ro, 0, [], 0, 4294967295⟩]⟩,
  ⟨"EBND_PORT", 0x0100, 2, 0x4, 8, 0x3E, 0x0, [⟨"PS", 0, 32, .ro, 4294967295, [], 0, 4294967295⟩]⟩ ]

/-- The registers of MGMT (window 0x0F). -/
def regsMGMT : List RegRow := [
  ⟨"MGMT_ID", 0, 1, 0, 1, 0, 0, [⟨"VERSION", 0, 8, .ro, 1, [], 0, 255⟩, ⟨"-", 8, 3, .res, 0, [], 0, 0⟩, ⟨"BLOCK", 11, 5, .ro, 15, [], 0, 31⟩]⟩,
  ⟨"MGMT_AUDGEN", 0x0F00, 1, 0x0, 1, 0x0, 0x0, [⟨"PASS", 0, 16, .ro, 0, [], 0, 65535⟩]⟩,
  ⟨"MGMT_AUDMIS", 0x0F02, 1, 0x0, 1, 0x0, 0x0, [⟨"COUNT", 0, 16, .rc, 0, [], 0, 65535⟩]⟩,
  ⟨"MGMT_AUDLAST", 0x0F04, 1, 0x0, 1, 0x0, 0x0, [⟨"BLOCK", 0, 5, .ro, 0, [], 0, 31⟩, ⟨"-", 5, 3, .res, 0, [], 0, 0⟩, ⟨"UNIT", 8, 8, .ro, 0, [], 0, 255⟩]⟩,
  ⟨"MGMT_FWVER", 0x0010, 1, 0x0, 1, 0x0, 0x0, [⟨"MINOR", 0, 8, .ro, 0, [], 0, 255⟩, ⟨"MAJOR", 8, 8, .ro, 0, [], 0, 255⟩]⟩,
  ⟨"MGMT_FWBUILD", 0x0012, 1, 0x0, 1, 0x0, 0x0, [⟨"BUILD", 0, 16, .ro, 0, [], 0, 65535⟩]⟩,
  ⟨"MGMT_WBSTAT", 0x0014, 1, 0x0, 1, 0x0, 0x0, [⟨"LONG", 0, 7, .ro, 0, [], 0, 127⟩, ⟨"SAFE", 7, 1, .ro, 0, [], 0, 1⟩, ⟨"-", 8, 8, .res, 0, [], 0, 0⟩]⟩,
  ⟨"MGMT_TAKEN", 0x0016, 2, 0x0, 1, 0x0, 0x0, [⟨"COUNT", 0, 32, .ro, 0, [], 0, 4294967295⟩]⟩,
  ⟨"MGMT_CRCERR", 0x001A, 1, 0x0, 1, 0x0, 0x0, [⟨"COUNT", 0, 16, .rc, 0, [], 0, 65535⟩]⟩,
  ⟨"MGMT_FRAMEERR", 0x001C, 1, 0x0, 1, 0x0, 0x0, [⟨"COUNT", 0, 16, .rc, 0, [], 0, 65535⟩]⟩,
  ⟨"MGMT_UNKNOWN", 0x001E, 1, 0x0, 1, 0x0, 0x0, [⟨"COUNT", 0, 16, .rc, 0, [], 0, 65535⟩]⟩,
  ⟨"MGMT_MANFAIL", 0x0020, 1, 0x0, 1, 0x0, 0x0, [⟨"COUNT", 0, 16, .rc, 0, [], 0, 65535⟩]⟩ ]

/-- The registers of HIF (window 0x10). -/
def regsHIF : List RegRow := [
  ⟨"HIF_ID", 0, 1, 0, 1, 0, 0, [⟨"VERSION", 0, 8, .ro, 1, [], 0, 255⟩, ⟨"-", 8, 3, .res, 0, [], 0, 0⟩, ⟨"BLOCK", 11, 5, .ro, 16, [], 0, 31⟩]⟩,
  ⟨"HIF_STAT", 0x0010, 1, 0x0, 1, 0x1E, 0x0, [⟨"LINKUP", 0, 1, .ro, 0, [], 0, 1⟩, ⟨"SPEED", 1, 3, .ro, 0, [], 0, 7⟩, ⟨"WIDTH", 4, 3, .ro, 0, [], 0, 7⟩, ⟨"BUSMASTER", 7, 1, .ro, 0, [], 0, 1⟩, ⟨"MSIXEN", 8, 1, .ro, 0, [], 0, 1⟩, ⟨"-", 9, 7, .res, 0, [], 0, 0⟩]⟩,
  ⟨"HIF_ACCESS", 0x0012, 1, 0x0, 1, 0x1E, 0x0, [⟨"SPIWR", 0, 1, .rw, 1, [], 0, 1⟩, ⟨"CONWR", 1, 1, .rw, 1, [], 0, 1⟩, ⟨"-", 2, 14, .res, 0, [], 0, 0⟩]⟩,
  ⟨"HIF_CONCFG", 0x0014, 1, 0x0, 1, 0x1E, 0x0, [⟨"BAUD", 0, 3, .rw, 3, [], 0, 6⟩, ⟨"-", 3, 13, .res, 0, [], 0, 0⟩]⟩,
  ⟨"HIF_SPIWAIT", 0x0016, 1, 0x0, 1, 0x1E, 0x0, [⟨"WORDS", 0, 4, .rw, 4, [], 1, 15⟩, ⟨"-", 4, 12, .res, 0, [], 0, 0⟩]⟩,
  ⟨"HIF_UNMAPCNT", 0x0018, 1, 0x0, 1, 0x1E, 0x0, [⟨"COUNT", 0, 16, .rc, 0, [], 0, 65535⟩]⟩,
  ⟨"HIF_PARTCNT", 0x001A, 1, 0x0, 1, 0x1E, 0x0, [⟨"COUNT", 0, 16, .rc, 0, [], 0, 65535⟩]⟩,
  ⟨"HIF_SPIERR", 0x001C, 1, 0x0, 1, 0x1E, 0x0, [⟨"COUNT", 0, 16, .rc, 0, [], 0, 65535⟩]⟩,
  ⟨"HIF_GEN", 0x001E, 1, 0x0, 1, 0x1E, 0x0, [⟨"GEN", 0, 16, .ro, 0, [], 0, 65535⟩]⟩,
  ⟨"HIF_PCIID", 0x0020, 1, 0x0, 1, 0x1E, 0x0, [⟨"VID", 0, 16, .ro, 0, [], 0, 65535⟩]⟩,
  ⟨"HIF_RING_CFG", 0x0100, 1, 0x20, 2, 0x1E, 0x0, [⟨"EN", 0, 1, .rw, 0, [], 0, 1⟩, ⟨"DEPTHLOG", 1, 4, .rw, 0, [], 4, 8⟩, ⟨"-", 5, 11, .res, 0, [], 0, 0⟩]⟩,
  ⟨"HIF_RING_WBASE", 0x0102, 4, 0x20, 2, 0x1E, 0x0, [⟨"ADDR", 0, 64, .rw, 0, [], 0, 18446744073709551615⟩]⟩,
  ⟨"HIF_RING_MBASE", 0x010A, 4, 0x20, 2, 0x1E, 0x0, [⟨"ADDR", 0, 64, .rw, 0, [], 0, 18446744073709551615⟩]⟩,
  ⟨"HIF_RING_PROD", 0x0112, 1, 0x20, 2, 0x1E, 0x0, [⟨"IDX", 0, 16, .rw, 0, [], 0, 65535⟩]⟩,
  ⟨"HIF_RING_CONS", 0x0114, 1, 0x20, 2, 0x1E, 0x0, [⟨"IDX", 0, 16, .ro, 0, [], 0, 65535⟩]⟩,
  ⟨"HIF_Q_CFG", 0x0200, 1, 0x20, 2, 0x1E, 0x0, [⟨"EN", 0, 1, .rw, 0, [], 0, 1⟩, ⟨"DEPTHLOG", 1, 4, .rw, 0, [], 6, 12⟩, ⟨"-", 5, 11, .res, 0, [], 0, 0⟩]⟩,
  ⟨"HIF_Q_BASE", 0x0202, 4, 0x20, 2, 0x1E, 0x0, [⟨"ADDR", 0, 64, .rw, 0, [], 0, 18446744073709551615⟩]⟩,
  ⟨"HIF_Q_PROD", 0x020A, 1, 0x20, 2, 0x1E, 0x0, [⟨"IDX", 0, 16, .rw, 0, [], 0, 65535⟩]⟩,
  ⟨"HIF_Q_CONS", 0x020C, 1, 0x20, 2, 0x1E, 0x0, [⟨"IDX", 0, 16, .ro, 0, [], 0, 65535⟩]⟩,
  ⟨"HIF_Q_DROP", 0x020E, 1, 0x20, 2, 0x1E, 0x0, [⟨"COUNT", 0, 16, .rc, 0, [], 0, 65535⟩]⟩ ] ++ [
  ⟨"HIF_DMA_HADDR", 0x0300, 4, 0x20, 2, 0x1E, 0x0, [⟨"ADDR", 0, 64, .rw, 0, [], 0, 18446744073709551615⟩]⟩,
  ⟨"HIF_DMA_MADDR", 0x0308, 3, 0x20, 2, 0x1E, 0x0, [⟨"ADDR", 0, 33, .rw, 0, [], 0, 8589934591⟩, ⟨"-", 33, 15, .res, 0, [], 0, 0⟩]⟩,
  ⟨"HIF_DMA_LEN", 0x030E, 2, 0x20, 2, 0x1E, 0x0, [⟨"BYTES", 0, 32, .rw, 0, [], 0, 4294967295⟩]⟩,
  ⟨"HIF_DMA_CTRL", 0x0312, 1, 0x20, 2, 0x1E, 0x0, [⟨"START", 0, 1, .w1s, 0, [], 0, 1⟩, ⟨"ABORT", 1, 1, .w1s, 0, [], 0, 1⟩, ⟨"-", 2, 14, .res, 0, [], 0, 0⟩]⟩,
  ⟨"HIF_DMA_STAT", 0x0314, 1, 0x20, 2, 0x1E, 0x0, [⟨"BUSY", 0, 1, .ro, 0, [], 0, 1⟩, ⟨"DONE", 1, 1, .w1c, 0, [], 0, 1⟩, ⟨"ERR", 2, 3, .ro, 0, [], 0, 7⟩, ⟨"-", 5, 11, .res, 0, [], 0, 0⟩]⟩,
  ⟨"HIF_DMA_MOVED", 0x0316, 2, 0x20, 2, 0x1E, 0x0, [⟨"BYTES", 0, 32, .ro, 0, [], 0, 4294967295⟩]⟩ ]

/-- The registers of INTC (window 0x11). -/
def regsINTC : List RegRow := [
  ⟨"INTC_ID", 0, 1, 0, 1, 0, 0, [⟨"VERSION", 0, 8, .ro, 1, [], 0, 255⟩, ⟨"-", 8, 3, .res, 0, [], 0, 0⟩, ⟨"BLOCK", 11, 5, .ro, 17, [], 0, 31⟩]⟩,
  ⟨"INTC_HOST_CLAIM", 0x0100, 1, 0x0, 1, 0x1E, 0x0, [⟨"SRC", 0, 8, .ro, 0, [], 0, 255⟩, ⟨"-", 8, 8, .res, 0, [], 0, 0⟩]⟩,
  ⟨"INTC_HOST_COMPLETE", 0x0102, 1, 0x0, 1, 0x1E, 0x0, [⟨"SRC", 0, 8, .w1s, 0, [], 0, 255⟩, ⟨"-", 8, 8, .res, 0, [], 0, 0⟩]⟩,
  ⟨"INTC_HOST_STAT", 0x0104, 1, 0x0, 1, 0x1E, 0x0, [⟨"LINE", 0, 1, .ro, 0, [], 0, 1⟩, ⟨"LEVEL", 1, 4, .ro, 0, [], 0, 15⟩, ⟨"DEPTH", 5, 5, .ro, 0, [], 0, 31⟩, ⟨"-", 10, 6, .res, 0, [], 0, 0⟩]⟩,
  ⟨"INTC_HOST_SPUR", 0x0106, 1, 0x0, 1, 0x1E, 0x0, [⟨"COUNT", 0, 16, .rc, 0, [], 0, 65535⟩]⟩,
  ⟨"INTC_HOST_COMPERR", 0x0108, 1, 0x0, 1, 0x1E, 0x0, [⟨"COUNT", 0, 16, .rc, 0, [], 0, 65535⟩]⟩,
  ⟨"INTC_HOST_REBUILD", 0x010A, 1, 0x0, 1, 0x1E, 0x0, [⟨"COUNT", 0, 16, .rc, 0, [], 0, 65535⟩]⟩,
  ⟨"INTC_HOST_STACK", 0x0110, 1, 0x2, 16, 0x1E, 0x0, [⟨"SRC", 0, 8, .ro, 0, [], 0, 255⟩, ⟨"PRIO", 8, 4, .ro, 0, [], 0, 15⟩, ⟨"-", 12, 4, .res, 0, [], 0, 0⟩]⟩,
  ⟨"INTC_HOST_PEND", 0x0400, 1, 0x2, 16, 0x1E, 0x0, [⟨"MAP", 0, 16, .w1c, 0, [], 0, 65535⟩]⟩,
  ⟨"INTC_MGMT_PEND", 0x0440, 1, 0x2, 16, 0x1E, 0x0, [⟨"MAP", 0, 16, .ro, 0, [], 0, 65535⟩]⟩,
  ⟨"INTC_GEN", 0x001E, 1, 0x0, 1, 0x1E, 0x0, [⟨"GEN", 0, 16, .ro, 0, [], 0, 65535⟩]⟩,
  ⟨"INTC_SRC_HCFG", 0x1000, 1, 0x2, 256, 0x1E, 0x0, [⟨"PRIO", 0, 4, .rw, 8, [], 0, 15⟩, ⟨"EN", 4, 1, .rw, 0, [], 0, 1⟩, ⟨"LEVEL", 5, 1, .ro, 0, [], 0, 1⟩, ⟨"-", 6, 10, .res, 0, [], 0, 0⟩]⟩,
  ⟨"INTC_SRC_MCFG", 0x1200, 1, 0x2, 256, 0x1E, 0x0, [⟨"-", 0, 16, .ro, 0, [], 0, 65535⟩]⟩,
  ⟨"INTC_MGMT_CLAIM", 0x0200, 1, 0x0, 1, 0x1E, 0x0, [⟨"SRC", 0, 8, .ro, 0, [], 0, 255⟩, ⟨"-", 8, 8, .res, 0, [], 0, 0⟩]⟩,
  ⟨"INTC_MGMT_COMPLETE", 0x0202, 1, 0x0, 1, 0x1E, 0x0, [⟨"SRC", 0, 8, .w1s, 0, [], 0, 255⟩, ⟨"-", 8, 8, .res, 0, [], 0, 0⟩]⟩,
  ⟨"INTC_MGMT_STAT", 0x0204, 1, 0x0, 1, 0x1E, 0x0, [⟨"LINE", 0, 1, .ro, 0, [], 0, 1⟩, ⟨"LEVEL", 1, 4, .ro, 0, [], 0, 15⟩, ⟨"DEPTH", 5, 5, .ro, 0, [], 0, 31⟩, ⟨"-", 10, 6, .res, 0, [], 0, 0⟩]⟩,
  ⟨"INTC_MGMT_SPUR", 0x0206, 1, 0x0, 1, 0x1E, 0x0, [⟨"COUNT", 0, 16, .rc, 0, [], 0, 65535⟩]⟩,
  ⟨"INTC_MGMT_COMPERR", 0x0208, 1, 0x0, 1, 0x1E, 0x0, [⟨"COUNT", 0, 16, .rc, 0, [], 0, 65535⟩]⟩,
  ⟨"INTC_MGMT_REBUILD", 0x020A, 1, 0x0, 1, 0x1E, 0x0, [⟨"COUNT", 0, 16, .rc, 0, [], 0, 65535⟩]⟩,
  ⟨"INTC_MGMT_STACK", 0x0210, 1, 0x2, 16, 0x1E, 0x0, [⟨"SRC", 0, 8, .ro, 0, [], 0, 255⟩, ⟨"PRIO", 8, 4, .ro, 0, [], 0, 15⟩, ⟨"-", 12, 4, .res, 0, [], 0, 0⟩]⟩ ]

/-- The registers of FCOL (window 0x12). -/
def regsFCOL : List RegRow := [
  ⟨"FCOL_ID", 0, 1, 0, 1, 0, 0, [⟨"VERSION", 0, 8, .ro, 1, [], 0, 255⟩, ⟨"-", 8, 3, .res, 0, [], 0, 0⟩, ⟨"BLOCK", 11, 5, .ro, 18, [], 0, 31⟩]⟩,
  ⟨"FCOL_CTRL", 0x0010, 1, 0x0, 1, 0x1E, 0x0, [⟨"COMPAT", 0, 1, .rw, 0, [], 0, 1⟩, ⟨"CRITHOLD", 1, 1, .rw, 1, [], 0, 1⟩, ⟨"-", 2, 14, .res, 0, [], 0, 0⟩]⟩,
  ⟨"FCOL_QUIET", 0x0012, 1, 0x0, 1, 0x1E, 0x0, [⟨"MS", 0, 16, .rw, 1000, [], 1, 60000⟩]⟩,
  ⟨"FCOL_CRITPULSE", 0x0014, 1, 0x0, 1, 0x1E, 0x0, [⟨"US", 0, 16, .rw, 20, [], 20, 65535⟩]⟩,
  ⟨"FCOL_LEDGERMAX", 0x0016, 1, 0x0, 1, 0x1E, 0x0, [⟨"RATE", 0, 16, .rw, 1000, [], 1, 20000⟩]⟩,
  ⟨"FCOL_GEN", 0x001E, 1, 0x0, 1, 0x1E, 0x0, [⟨"GEN", 0, 16, .ro, 0, [], 0, 65535⟩]⟩,
  ⟨"FCOL_DOMSTAT", 0x0020, 1, 0x0, 1, 0x1E, 0x0, [⟨"FAULT", 0, 4, .ro, 0, [], 0, 15⟩, ⟨"QUIET", 4, 4, .ro, 1, [], 0, 15⟩, ⟨"ALIVE", 8, 4, .ro, 0, [], 0, 15⟩, ⟨"-", 12, 4, .res, 0, [], 0, 0⟩]⟩,
  ⟨"FCOL_DOMCLR", 0x0022, 1, 0x0, 1, 0x1E, 0x0, [⟨"CLR", 0, 4, .w1s, 0, [], 0, 15⟩, ⟨"-", 4, 12, .res, 0, [], 0, 0⟩]⟩,
  ⟨"FCOL_CRIT", 0x0024, 1, 0x0, 1, 0x1E, 0x0, [⟨"LATCH", 0, 1, .w1c, 0, [], 0, 1⟩, ⟨"PULSE", 1, 1, .ro, 0, [], 0, 1⟩, ⟨"PIN", 2, 1, .ro, 0, [], 0, 1⟩, ⟨"-", 3, 13, .res, 0, [], 0, 0⟩]⟩,
  ⟨"FCOL_CRITCNT", 0x0026, 1, 0x0, 1, 0x1E, 0x0, [⟨"COUNT", 0, 16, .rc, 0, [], 0, 65535⟩]⟩,
  ⟨"FCOL_FENCEMAP", 0x0028, 1, 0x0, 1, 0x1E, 0x0, [⟨"MAP", 0, 8, .ro, 0, [], 0, 255⟩, ⟨"-", 8, 8, .res, 0, [], 0, 0⟩]⟩,
  ⟨"FCOL_FORCECNT", 0x002A, 1, 0x0, 1, 0x1E, 0x0, [⟨"COUNT", 0, 16, .rc, 0, [], 0, 65535⟩]⟩,
  ⟨"FCOL_LOGFILL", 0x002C, 1, 0x0, 1, 0x1E, 0x0, [⟨"FILL", 0, 8, .ro, 0, [], 0, 255⟩, ⟨"-", 8, 8, .res, 0, [], 0, 0⟩]⟩,
  ⟨"FCOL_LOGOVF", 0x002E, 1, 0x0, 1, 0x1E, 0x0, [⟨"COUNT", 0, 16, .rc, 0, [], 0, 65535⟩]⟩,
  ⟨"FCOL_LOST", 0x0030, 1, 0x0, 1, 0x1E, 0x0, [⟨"COUNT", 0, 16, .rc, 0, [], 0, 65535⟩]⟩,
  ⟨"FCOL_FIRSTSTAT", 0x0040, 1, 0x0, 1, 0x1E, 0x0, [⟨"VALID", 0, 1, .ro, 0, [], 0, 1⟩, ⟨"-", 1, 15, .res, 0, [], 0, 0⟩]⟩,
  ⟨"FCOL_FIRSTNUM", 0x0042, 3, 0x0, 1, 0x1E, 0x0, [⟨"NUM", 0, 48, .ro, 0, [], 0, 281474976710655⟩]⟩,
  ⟨"FCOL_FIRST", 0x0050, 1, 0x2, 16, 0x1E, 0x0, [⟨"WORD", 0, 16, .ro, 0, [], 0, 65535⟩]⟩,
  ⟨"FCOL_LDGNEXT", 0x0080, 3, 0x0, 1, 0x1E, 0x0, [⟨"NUM", 0, 48, .ro, 1, [], 0, 281474976710655⟩]⟩,
  ⟨"FCOL_LDGOLDEST", 0x0086, 3, 0x0, 1, 0x1E, 0x0, [⟨"NUM", 0, 48, .ro, 0, [], 0, 281474976710655⟩]⟩ ] ++ [
  ⟨"FCOL_LDGSTAT", 0x008C, 1, 0x0, 1, 0x1E, 0x0, [⟨"READY", 0, 1, .ro, 1, [], 0, 1⟩, ⟨"SPARE", 1, 7, .ro, 112, [], 0, 127⟩, ⟨"BADREC", 8, 8, .ro, 0, [], 0, 255⟩]⟩,
  ⟨"FCOL_LDGSUPPR", 0x008E, 1, 0x0, 1, 0x1E, 0x0, [⟨"COUNT", 0, 16, .rc, 0, [], 0, 65535⟩]⟩,
  ⟨"FCOL_LDGWEAR", 0x0090, 2, 0x0, 1, 0x1E, 0x0, [⟨"WRITES", 0, 32, .ro, 0, [], 0, 4294967295⟩]⟩,
  ⟨"FCOL_RCNT", 0x0400, 1, 0x2, 320, 0x1E, 0x0, [⟨"COUNT", 0, 16, .rc, 0, [], 0, 65535⟩]⟩,
  ⟨"FCOL_CLS_CFG", 0x0800, 1, 0x2, 320, 0x1E, 0x0, [⟨"CRIT", 0, 1, .rw, 0, [], 0, 1⟩, ⟨"FIXED", 1, 1, .ro, 0, [], 0, 1⟩, ⟨"USED", 2, 1, .ro, 0, [], 0, 1⟩, ⟨"-", 3, 13, .res, 0, [], 0, 0⟩]⟩ ]

/-- The registers of RDN (window 0x13). -/
def regsRDN : List RegRow := [
  ⟨"RDN_ID", 0, 1, 0, 1, 0, 0, [⟨"VERSION", 0, 8, .ro, 1, [], 0, 255⟩, ⟨"-", 8, 3, .res, 0, [], 0, 0⟩, ⟨"BLOCK", 11, 5, .ro, 19, [], 0, 31⟩]⟩,
  ⟨"RDN_CFG", 0x0010, 1, 0x0, 1, 0x1E, 0x0, [⟨"MODE", 0, 2, .rw, 0, [], 0, 3⟩, ⟨"UNIT", 2, 1, .rw, 0, [], 0, 1⟩, ⟨"CRITREL", 3, 1, .rw, 0, [], 0, 1⟩, ⟨"BNDREL", 4, 1, .rw, 0, [], 0, 1⟩, ⟨"PREFER", 5, 1, .rw, 0, [], 0, 1⟩, ⟨"LANEMASK", 6, 2, .rw, 3, [], 0, 3⟩, ⟨"-", 8, 8, .res, 0, [], 0, 0⟩]⟩,
  ⟨"RDN_STAT", 0x0012, 1, 0x0, 1, 0x1E, 0x0, [⟨"ROLE", 0, 3, .ro, 0, [], 0, 7⟩, ⟨"GATE", 3, 1, .ro, 0, [], 0, 1⟩, ⟨"NETGATE", 4, 1, .ro, 0, [], 0, 1⟩, ⟨"READY", 5, 1, .ro, 0, [], 0, 1⟩, ⟨"PARTNER", 6, 1, .ro, 0, [], 0, 1⟩, ⟨"CLMOK", 7, 1, .ro, 0, [], 0, 1⟩, ⟨"GNTST", 8, 2, .ro, 2, [], 0, 2⟩, ⟨"HOSCHED", 10, 1, .ro, 0, [], 0, 1⟩, ⟨"-", 11, 5, .res, 0, [], 0, 0⟩]⟩,
  ⟨"RDN_CLAIM", 0x0014, 1, 0x0, 1, 0x1E, 0x0, [⟨"CLAIM", 0, 16, .ro, 0, [], 0, 65535⟩]⟩,
  ⟨"RDN_PCLAIM", 0x0016, 1, 0x0, 1, 0x1E, 0x0, [⟨"CLAIM", 0, 16, .ro, 0, [], 0, 65535⟩]⟩,
  ⟨"RDN_HBTMO", 0x0018, 1, 0x0, 1, 0x1E, 0x0, [⟨"US", 0, 16, .rw, 300, [], 200, 10000⟩]⟩,
  ⟨"RDN_PREP", 0x001A, 1, 0x0, 1, 0x1E, 0x0, [⟨"US", 0, 16, .rw, 1000, [], 100, 50000⟩]⟩,
  ⟨"RDN_PFLAGS", 0x001C, 1, 0x0, 1, 0x1E, 0x0, [⟨"FLAGS", 0, 4, .ro, 0, [], 0, 15⟩, ⟨"-", 4, 12, .res, 0, [], 0, 0⟩]⟩,
  ⟨"RDN_GEN", 0x001E, 1, 0x0, 1, 0x1E, 0x0, [⟨"GEN", 0, 16, .ro, 0, [], 0, 65535⟩]⟩,
  ⟨"RDN_HOTIME", 0x0020, 4, 0x0, 1, 0x1E, 0x0, [⟨"H", 0, 64, .ro, 0, [], 0, 18446744073709551615⟩]⟩,
  ⟨"RDN_PBOUND", 0x0028, 3, 0x0, 1, 0x1E, 0x0, [⟨"PS", 0, 48, .ro, 0, [], 0, 281474976710655⟩]⟩,
  ⟨"RDN_SWCNT", 0x0040, 1, 0x0, 1, 0x1E, 0x0, [⟨"COUNT", 0, 16, .rc, 0, [], 0, 65535⟩]⟩,
  ⟨"RDN_HOFAIL", 0x0042, 1, 0x0, 1, 0x1E, 0x0, [⟨"COUNT", 0, 16, .rc, 0, [], 0, 65535⟩]⟩,
  ⟨"RDN_HBLOSS", 0x0044, 1, 0x0, 1, 0x1E, 0x0, [⟨"COUNT", 0, 16, .rc, 0, [], 0, 65535⟩]⟩,
  ⟨"RDN_CLMERR", 0x0046, 1, 0x0, 1, 0x1E, 0x0, [⟨"COUNT", 0, 16, .rc, 0, [], 0, 65535⟩]⟩,
  ⟨"RDN_CLMBACK", 0x0048, 1, 0x0, 1, 0x1E, 0x0, [⟨"COUNT", 0, 16, .rc, 0, [], 0, 65535⟩]⟩,
  ⟨"RDN_DUALACT", 0x004A, 1, 0x0, 1, 0x1E, 0x0, [⟨"COUNT", 0, 16, .rc, 0, [], 0, 65535⟩]⟩,
  ⟨"RDN_UNCOORD", 0x004C, 1, 0x0, 1, 0x1E, 0x0, [⟨"COUNT", 0, 16, .rc, 0, [], 0, 65535⟩]⟩,
  ⟨"RDN_ARBSTAT", 0x0060, 1, 0x0, 1, 0x1E, 0x0, [⟨"STATE", 0, 3, .ro, 0, [], 0, 7⟩, ⟨"REQ0", 3, 1, .ro, 0, [], 0, 1⟩, ⟨"REQ1", 4, 1, .ro, 0, [], 0, 1⟩, ⟨"-", 5, 11, .res, 0, [], 0, 0⟩]⟩,
  ⟨"RDN_ARBCNT", 0x0062, 1, 0x0, 1, 0x1E, 0x0, [⟨"COUNT", 0, 16, .rc, 0, [], 0, 65535⟩]⟩ ]

/-- The register map of block `b` (Table 0-3). -/
def blockRegs (b : Nat) : List RegRow :=
  match b with
  | 0 => regsSEQ
  | 1 => regsPSU
  | 2 => regsRMON
  | 3 => regsDPLL
  | 4 => regsHOLD
  | 5 => regsAPLL
  | 6 => regsTBASE
  | 7 => regsTIC
  | 8 => regsGNSS
  | 9 => regsLANE
  | 10 => regsMTS
  | 11 => regsPKT
  | 12 => regsAUTH
  | 13 => regsCTAB
  | 14 => regsEBND
  | 15 => regsMGMT
  | 16 => regsHIF
  | 17 => regsINTC
  | 18 => regsFCOL
  | 19 => regsRDN
  | _ => []

end Sys2Proof.Machine
end

