-- ==== Sys2Proof/Machine/Sparse.lean ====
section
/-! DEFINITION. Sparse maps in one canonical form: a list of (key, value) pairs whose keys rise strictly and whose values differ from the
default an unlisted key reads as.  The register file, the in-package memory and every keyed table of the state are held so. -/
namespace Sys2Proof.Machine

/-- What key `k` reads as: its listed value, or `d`. -/
def look {α : Type} (d : α) : List (Nat × α) → Nat → α
  | [], _ => d
  | (k, v) :: r, a => if a = k then v else look d r a

/-- The list with key `a` taken out. -/
def eraseKey {α : Type} : List (Nat × α) → Nat → List (Nat × α)
  | [], _ => []
  | (k, v) :: r, a => if a = k then eraseKey r a else (k, v) :: eraseKey r a

/-- The list with key `a` holding `x`, keys kept rising. -/
def insertKey {α : Type} : List (Nat × α) → Nat → α → List (Nat × α)
  | [], a, x => [(a, x)]
  | (k, v) :: r, a, x =>
    if a < k then (a, x) :: (k, v) :: r
    else if a = k then (a, x) :: r
    else (k, v) :: insertKey r a x

/-- Store `x` at `a`: writing the default removes the entry, so equal maps are equal lists. -/
def store {α : Type} [DecidableEq α] (d : α) (m : List (Nat × α)) (a : Nat) (x : α) : List (Nat × α) :=
  if x = d then eraseKey m a else insertKey m a x

/-- Keys rise strictly, all above `lo`. -/
def rising {α : Type} (lo : Nat) : List (Nat × α) → Bool
  | [] => true
  | (k, _) :: r => decide (lo ≤ k) && rising (k + 1) r

/-- The canonical form: keys rise strictly and no entry holds the default of its key. -/
def canon {α : Type} [DecidableEq α] (d : Nat → α) (m : List (Nat × α)) : Bool :=
  rising 0 m && m.all (fun p => decide (p.2 ≠ d p.1))

/-- Element `i` of a list, or `d` past its end. -/
def at' {α : Type} (d : α) (l : List α) (i : Nat) : α := l.getD i d

/-- The list with element `i` changed by `f`; unchanged past its end. -/
def modAt {α : Type} (l : List α) (i : Nat) (f : α → α) : List α :=
  match l, i with
  | [], _ => []
  | x :: r, 0 => f x :: r
  | x :: r, i + 1 => x :: modAt r i f

/-- Insert a number into a strictly rising list, once. -/
def insertNat : List Nat → Nat → List Nat
  | [], a => [a]
  | k :: r, a => if a < k then a :: k :: r else if a = k then k :: r else k :: insertNat r a

end Sys2Proof.Machine
end

