-- ==== Sys2Proof/Machine/StateGnss.lean ====
section
/-! DEFINITION. The state of the GNSS block beyond its registers (spec/08). -/
namespace Sys2Proof.Machine

/-- A decoded navigation unit as MGMT holds it (R225): signal B, message type, check, sequence, the unit in 20 words. -/
structure NavUnit where
  sigB : Bool
  type : Nat
  pass : Bool
  seqNo : Nat
  words : List Word
  deriving DecidableEq, Repr

/-- A channel beyond its registers: the observables of the last epoch (GNSS_OBSREAD's sixteen words after STAT), epochs in lock,
navigation units newest first and their sequence.  Lock is counted in tenths of a second (Table 8-10). -/
structure GnssCh where
  obs : List Word := []
  locked : Nat := 0
  units : List NavUnit := []
  navSeq : Nat := 0
  deriving DecidableEq, Repr

/-- A search (R218, R219): its waybill, none for a firmware search; system, remaining PRNs in ascending order, PRNs in all and done,
transforms of one PRN and of the blocks, threshold, hand-off, records counted; the search centre in Hz; the blocks of port A that the staging region
holds for it from its first address on.  No register and no operation shows their samples (log entry 72). -/
structure AcqJob where
  wb : Option WbHead
  gal : Bool
  prns : List Nat
  total : Nat
  done : Nat := 0
  perPrn : Nat
  forward : Nat
  thr : Nat
  handoff : Bool
  results : List Word := []
  centre : Int := 0
  blocks : Nat := 0
  deriving DecidableEq, Repr

/-- A notch that holds a line (R223): the line, spectra for which it has been 3 dB below NOTCHTHR. -/
structure NotchRun where
  line : Nat
  below : Nat := 0
  deriving DecidableEq, Repr

/-- GNSS beyond its registers. -/
structure Gnss where
  chans : List (Nat × GnssCh) := []
  job : Option AcqJob := none
  /-- The one queued host search, and the firmware searches to come. -/
  host : Option AcqJob := none
  firm : List AcqJob := []
  /-- GNSS_NFCAL in progress. -/
  nfcal : Option (WbHead × Nat) := none
  /-- Sequence number of the last epoch and its TBASE capture. -/
  epochSeq : Nat := 0
  capture : Nat := 0
  /-- TBASE_STAT.TIMESET and the low 8 bits of TBASE_STEPCNT that the capture carries (R217). -/
  capSet : Bool := false
  capStep : Nat := 0
  /-- No valid solution yet since the GNSS start (source 93). -/
  first : Bool := false
  /-- Lines held by automatic notches, key band × 4 + notch; consecutive spectra above NOTCHTHR of other lines, key band × 2^32 + line. -/
  notches : List (Nat × NotchRun) := []
  runs : List (Nat × Nat) := []
  /-- Leap announcements by satellite (system × 64 + PRN): UTCOFF, PEND, LEAPSEC; the last one acted on (R229). -/
  leaps : List (Nat × Nat × Nat × Nat) := []
  leapActed : Option (Nat × Nat × Nat) := none
  /-- B_hold at the AON load of this start, ps (R230). -/
  aonBound : Nat := 0
  /-- GNSS_SOLUNC of the last solution used, ns (R346). -/
  usedUnc : Nat := 0
  deriving DecidableEq, Repr

end Sys2Proof.Machine
end

