-- ==== Sys2Proof/Machine/StateHub.lean ====
section
/-! DEFINITION. The state of the control side: supply and always-on island, sequencer and configuration store, waybill
interpreter, host interface, interrupt controller, fault collector and Ledger (spec/02, spec/14 to spec/17). -/
namespace Sys2Proof.Machine

/-- The supervisor's states (Table 2-4); RESET passes at once to BATTERY or OFF and is never held. -/
inductive Sup | off | battery | start | normal | warning
  deriving DecidableEq, Repr

/-- The sequencer's states (Table 2-9). -/
inductive SeqSt | idle | starting | setting | running | retry | safe
  deriving DecidableEq, Repr

/-- The kind of a start (SEQ_STARTINFO.KIND). -/
inductive StartKind | cold | warm | safe
  deriving DecidableEq, Repr

/-- PSU: supervisor, sensed supplies, excursions of R53. -/
structure Psu where
  sup : Sup := .off
  vbatOk : Bool := false
  railExc : Bool := false
  tempExc : Bool := false
  /-- The reset before this start was a VIN reset-level crossing (PSU_EVT.RESETLVL). -/
  resetLvl : Bool := false
  deriving DecidableEq, Repr

/-- The always-on island (R63): its time in units of 2^-48 ns, validity, counting source (0 none, 1 AOSC_IN, 2 crystal),
the AOSC_IN frequency code taken at the reset, and what happened during the outage. -/
structure Aon where
  time : Nat := 0
  valid : Bool := false
  src : Nat := 2
  aoscFreq : Nat := 0
  srcChg : Bool := false
  chgTime : Nat := 0
  vbatUsed : Bool := false
  deriving DecidableEq, Repr

/-- The holdover start state of R156 that a checkpoint carries: for each oscillator member (AOSC_IN, crystal) its unsteered frequency
against the ensemble (10^-18), and F_e, B0 and t_e. -/
structure HoldStart where
  fAosc : Int := 0
  fXtal : Int := 0
  fe : Int := 0
  b0 : Nat := 0
  te : Nat := 0
  /-- TBASE time of the checkpoint. -/
  at0 : Nat := 0
  /-- The temperature at t_e and Σ(Δy since t_e) of a holdover in progress (R153). -/
  temp : Int := 0
  sum : Int := 0
  deriving DecidableEq, Repr

/-- What a checkpoint slot of the configuration store holds (spec/02, Checkpoints). -/
structure Ckpt where
  slot : Nat := 0
  seqNo : Nat := 0
  complete : Bool := false
  format : Nat := 0
  /-- The registers that a warm start loads from the checkpoint, word address and word. -/
  regs : List (Nat × Word) := []
  start : HoldStart := {}
  freq : Int := 0
  /-- The TDC bin tables, one list of code widths per interpolator, and the die temperature they were measured at. -/
  tdc : List (List Nat) := []
  tdcTemp : Int := 0
  trims : Nat := 0
  /-- The decoded navigation pages by channel. -/
  nav : List (Nat × List Word) := []
  ledgerWp : Nat := 0
  wfail : Nat := 0
  cfail : Nat := 0
  deriving DecidableEq, Repr

/-- One copy of the configuration image: its CRC is good, and the register words it covers that differ from the factory's. -/
structure CfgCopy where
  ok : Bool := true
  image : List (Nat × Word) := []
  deriving DecidableEq, Repr

/-- A fault message on its way to FCOL (Table 17-1); `held` marks one delivered under R77, which carries TVALID 0. -/
structure FMsg where
  src : Nat
  kind : Nat
  detail : Nat := 0
  master : Nat := 0
  acc : Nat := 0
  addr : Option Nat := none
  held : Bool := false
  /-- TBASE's tick count when the block formed it (R416). -/
  sent : Nat := 0
  deriving DecidableEq, Repr

/-- The record of a persistent key slot in the configuration store (R314). -/
structure KeyRec where
  slot : Nat
  type : Nat
  state : Nat
  wrapped : Bool
  keyId : Nat
  spp : Nat
  kcv : Nat
  key : List Nat
  ok : Bool := true
  deriving DecidableEq, Repr

/-- The configuration store, an MRAM that outlives every reset: two image copies, failed-start counters,
checkpoint ring of 64 slots, held fault messages (R77), persistent key records (R314) and calibration values saved by blocks. -/
structure Store where
  a : CfgCopy := {}
  b : CfgCopy := {}
  wfail : Nat := 0
  cfail : Nat := 0
  ckpts : List Ckpt := []
  /-- The design version in the fuses (R68, condition 6). -/
  design : Nat := 0
  /-- Ring slot and sequence number of the most recent checkpoint. -/
  slot : Nat := 0
  seqNo : Nat := 0
  held : List FMsg := []
  heldLost : Nat := 0
  keys : List KeyRec := []
  /-- Words that blocks save by themselves (survey position, noise-floor reference, crystal trim). -/
  saved : List (Nat × Word) := []
  /-- RDN's stored claim and last heard claim (R444, R445). -/
  claim : Nat := 0
  pclaim : Nat := 0
  deriving DecidableEq, Repr

/-- SEQ beyond its registers: the sequencer, the checkpoint that runs with the SEQ_CHECKPOINTs waiting for it, and the resets to come. -/
structure SeqBlk where
  st : SeqSt := .idle
  step : Nat := 0
  kind : Option StartKind := none
  /-- The first failing condition of Table 2-7. -/
  reason : Nat := 0
  /-- Cause of the preceding reset (SEQ_STARTINFO.CAUSE). -/
  cause : Nat := 0
  /-- The reset before this start asked for a cold start (Table 2-7, condition 1). -/
  wantCold : Bool := false
  /-- The last start attempt was a failed cold start (condition 2). -/
  lastFailedCold : Bool := false
  /-- A checkpoint was cut by a reset, to be reported at the next start (R62). -/
  ckptCut : Bool := false
  ckptRun : Bool := false
  ckptWait : List WbHead := []
  /-- Milliseconds since the last checkpoint completed, held at 100, and the same at the last reset. -/
  sinceCkpt : Nat := 100
  sinceReset : Nat := 100
  /-- SEQ_CFGSAVE in progress (R79): its waybill, the image, and whether copy A is written. -/
  saving : Option (WbHead × CfgCopy × Bool) := none
  /-- RST_N is low. -/
  rstLow : Bool := false
  /-- A reset through RST_N waits for the checkpoint or the 400 µs (R58). -/
  rstWait : Bool := false
  /-- A reset 1 ms after SEQ_RESTART, SEQ_SAFECLEAR or SEQ_SAFECLR (R62, R72, R78): its cause and whether it asks for a cold start. -/
  deferred : Option (Nat × Bool) := none
  /-- The deferred reset's time has come and only a running checkpoint holds it back. -/
  deferredDue : Bool := false
  deriving DecidableEq, Repr

/-- The state of a manifest (Table 14-6). -/
inductive ManSt | none | queued | running | partialSt | done | failed | aborted
  deriving DecidableEq, Repr

/-- A manifest slot as the LN7400 last wrote it (Tables 14-3 and 14-4). -/
structure Manifest where
  ring : Nat
  slot : Nat
  status : Nat
  tag : Word
  state : ManSt
  upd : Nat
  spec : Bool
  progress : Nat
  results : List Word
  deriving DecidableEq, Repr

/-- A waybill that MGMT has taken and whose manifest is not final (R370, R378). -/
structure Taken where
  ring : Nat
  slot : Nat
  w0 : Word
  tag : Word
  /-- All the words taken, so that the checks of R374 can be made when it starts. -/
  words : List Word := []
  started : Bool := false
  /-- A long operation that has been accepted. -/
  long : Bool := false
  state : ManSt := .none
  upd : Nat := 0
  progress : Nat := 0
  spec : Bool := false
  results : List Word := []
  /-- MGMT_CANCEL or MGMT_SUSPEND acts at the operation's next stopping point (R378). -/
  stopReq : Bool := false
  suspReqs : List WbHead := []
  /-- After an endpoint reset: the bases at which its ring must stand again for the manifest to be written (R388). -/
  base : Option Nat := none
  deriving DecidableEq, Repr

/-- The waybill interpreter: taken waybills oldest first, manifests by slot, the cached generations of the audit (R44, R45). -/
structure Mgmt where
  taken : List Taken := []
  manifests : List Manifest := []
  /-- The cached views: the register file as the last audit read it (R44, R45). -/
  cache : List (Nat × Word) := []
  /-- The ring of 0, 2 and 3 that a waybill was last taken from (Table 14-7). -/
  lastRing : Nat := 3
  deriving DecidableEq, Repr

/-- A requester's read latch in one block window (R102): the words it holds. -/
structure Latch where
  req : Nat
  blk : Nat
  words : List (Nat × Word)
  deriving DecidableEq, Repr

/-- A host frame given to or waiting in a queue: port and bytes. -/
structure HostFrame where
  port : Nat
  len : Nat
  deriving DecidableEq, Repr

/-- HIF beyond its registers. -/
structure Hif where
  perstLow : Bool := false
  /-- Ring 2's four waybill slots and ring 3's one, and the doorbells rung, oldest first (R394). -/
  mailbox : List (Nat × List Word) := []
  bells : List (Nat × Nat) := []
  latches : List Latch := []
  /-- TBASE_TIME's own latch per requester (R173): its sixteen-word group. -/
  timeLatch : List (Nat × List Word) := []
  /-- The words of the last reply to each requester: the words read, or an SPI frame's status, data and CRC. -/
  replies : List (Nat × List Word) := []
  /-- The last line the console answered, as characters. -/
  console : List Nat := []
  /-- Receive frames in host buffers that the host has not yet taken (source 219). -/
  rxUntaken : Nat := 0
  /-- Transmit descriptors handed over and not yet sent, oldest first (R397). -/
  txPend : List HostFrame := []
  /-- Transmit descriptors handed over that HIF has not read yet, oldest first. -/
  txWait : List HostFrame := []
  /-- Memory address and length with which each DMA channel's last transfer started (R398). -/
  dma : List (Nat × Nat) := [(0, 0), (0, 0)]
  /-- Lower words of multi-word registers written and not yet in effect (R384): byte address and word. -/
  shadow : List (Nat × Word) := []
  deriving DecidableEq, Repr

/-- An entry of a target's priority stack (R405), with what R408 watches between claim and completion. -/
structure StackEnt where
  src : Nat
  prio : Nat
  looked : Bool := false
  dropped : Bool := false
  deriving DecidableEq, Repr

/-- One interrupt target: pending sources, stack (top first) and line. -/
structure Target where
  pend : List Nat := []
  stack : List StackEnt := []
  line : Bool := false
  deriving DecidableEq, Repr

/-- INTC: running from the end of step 3 (R411), interrupts held before that (R77), the two targets, MSI-X vector 0 (R389). -/
structure Intc where
  running : Bool := false
  held : List Nat := []
  host : Target := {}
  mgmt : Target := {}
  /-- The vector's mask bit; PRESUMED set at reset, as PCI Express has it (log entry 15). -/
  msixMasked : Bool := true
  msixPending : Bool := false
  msixSent : Nat := 0
  deriving DecidableEq, Repr

/-- The states of a fault domain (Table 17-4). -/
inductive DomSt | down | alive | faulted | clearable
  deriving DecidableEq, Repr

/-- A fault domain: state, whether its quiet period has elapsed, the classes that sent a message since it last left ALIVE. -/
structure Dom where
  st : DomSt := .down
  quiet : Bool := true
  classes : List Nat := []
  deriving DecidableEq, Repr

/-- An event record of the Ledger (Table 17-7) without its CRC: number, message words, messages suppressed before it. -/
structure LedgerRec where
  num : Nat
  words : List Word
  suppressed : Nat
  ok : Bool := true
  deriving DecidableEq, Repr

/-- A summary slot of the Ledger (R437). -/
structure Summary where
  slot : Nat
  counts : List (Nat × Nat)
  intervals : List (Nat × Nat)
  powered : Nat
  starts : List Nat
  holdSecs : Nat
  temps : List (Nat × Nat)
  maxNum : Nat
  deriving DecidableEq, Repr

/-- The Ledger, an MRAM that outlives every start (R435 to R439). -/
structure Ledger where
  events : List LedgerRec := []
  /-- Event-ring position of the next record. -/
  wp : Nat := 0
  summaries : List Summary := []
  nextSlot : Nat := 0
  /-- Lifetime count of every class. -/
  counts : List (Nat × Nat) := []
  /-- Interval histogram, key domain × 32 + bin; the powered second at which each domain's last FAULTED episode began. -/
  intervals : List (Nat × Nat) := []
  episodes : List (Option Nat) := [none, none, none, none]
  powered : Nat := 0
  /-- Cold, warm and failed starts, safe-configuration entries, recovered dips, authorised steps. -/
  starts : List Nat := [0, 0, 0, 0, 0, 0]
  holdSecs : Nat := 0
  temps : List (Nat × Nat) := []
  maxNum : Nat := 0
  /-- Largest write count of any event-ring word, spare blocks left, the remap table. -/
  wear : Nat := 0
  spare : Nat := 112
  remap : List (Nat × Nat) := []
  deriving DecidableEq, Repr

/-- A Ledger dump in progress (FCOL_LEDGERDUMP): its waybill, kind, next number, items left and done. -/
structure LdgDump where
  wb : WbHead
  summary : Bool
  next : Nat
  left : Nat
  done : Nat
  total : Nat
  deriving DecidableEq, Repr

/-- FCOL beyond its registers. -/
structure Fcol where
  running : Bool := false
  /-- Messages sent and not yet handled, in the order sent (R416). -/
  inflight : List FMsg := []
  /-- Messages dropped and not yet reported, by sender. -/
  unrep : List (Nat × Nat) := []
  doms : List Dom := [{}, {}, {}, {}]
  /-- The log ring: number and message, oldest first. -/
  log : List (Nat × List Word) := []
  /-- Messages admitted to the Ledger and not yet written. -/
  toWrite : List (Nat × List Word) := []
  /-- The admission bucket (R436), in 1/1000ths of a record; privileged messages admitted in the present TAI second. -/
  bucket : Nat := 256000
  privSec : Nat := 0
  /-- Milliseconds of the second in progress, for the Ledger's powered seconds. -/
  ms : Nat := 0
  dump : Option LdgDump := none
  /-- TBASE's tick count when FCOL last handled a privileged message (R425). -/
  privAt : Option Nat := none
  deriving DecidableEq, Repr

end Sys2Proof.Machine
end

