-- ==== Sys2Proof/Machine/StateTime.lean ====
section
/-! DEFINITION. The state of the time path: references, loop, ensemble, synthesis, timebase and error bounds (spec/03 to
spec/06, spec/13).  TBASE times are held in units of 2^-48 ns from the epoch, phases in ps unless a field says otherwise. -/
namespace Sys2Proof.Machine

/-- What a configuration operation of PKT or EBND brings with it: nothing more, PKT's service state, a PTP instance's epoch, a slave's restart, or the
voiding of grants (0 group 0, 1 group 1, 2 both). -/
inductive CfgAct
  | plain
  | control
  | instanceOf (g : Nat)
  | slaveOf (g : Nat)
  | grants (k : Nat)
  deriving DecidableEq, Repr

/-- A configuration operation that waits for the moment at which it takes effect (R292, R358): its waybill, the generation it carries, the values it
gives registers. -/
structure CfgJob where
  wb : WbHead
  given : Nat
  regs : List (Nat × Nat)
  act : CfgAct
  deriving DecidableEq, Repr

/-- RMON's monitor of one reference, beyond its registers (spec/03). -/
structure Ref where
  /-- Time of the last input edge, ps, and consecutive edges with no gap longer than the activity window, held at 4 (R80). -/
  lastEdge : Option Nat := none
  run : Nat := 0
  /-- Edges since the prescaler's last output. -/
  divCnt : Nat := 0
  /-- Measurements of this millisecond: their sum and number (R87). -/
  sum : Int := 0
  cnt : Nat := 0
  /-- The latest measured phase against TBASE, DELAY subtracted, and whether it is new in this tick (R109). -/
  meas : Option Int := none
  fresh : Bool := false
  /-- The last measurement by itself, which the DPLL follows for REF8 to REF11 (R109). -/
  last : Option Int := none
  /-- Phase at entry to QUALIFYING of a frequency-only reference; none before its first measurement (R81). -/
  base : Option Int := none
  /-- The TBASE second to which the prescaler is aligned, ps (R81). -/
  anchor : Nat := 0
  /-- The learned offset, once there is one (R83). -/
  learned : Option Int := none
  /-- REJECTED on its offset, not on the window (R86). -/
  rejOff : Bool := false
  /-- Qualification timer, ms. -/
  timer : Nat := 0
  /-- Mean offset of each TAI second, newest first, at most 1000 (R91), and the second in progress. -/
  win : List Int := []
  secSum : Int := 0
  secCnt : Nat := 0
  /-- Seconds QUALIFIED without a break, held at 1000 (R84). -/
  qualSecs : Nat := 0
  /-- The drift term passed to EBND (R92). -/
  drift : Option Nat := none
  /-- Fresh milliseconds in the second in progress, and in the last one (R118). -/
  freshSec : Nat := 0
  rate : Nat := 0
  deriving DecidableEq, Repr

/-- A request that DPLL applies at order 3 or 6 of its next tick. -/
inductive DpllReq
  | openLoop (wb : Option WbHead) (gen : Option Nat)
  | closeLoop (bump : Option Nat) (wb : Option WbHead) (gen : Option Nat)
  | applyWord (wb : WbHead)
  deriving DecidableEq, Repr

/-- DPLL and selector beyond their registers (spec/03, spec/04).  Frequencies carry 32 bits below one bit of DPLL_FREQ (R112). -/
structure Dpll where
  integ : Int := 0
  /-- The proportional term in force and the rounding residual of the last write. -/
  prop : Int := 0
  resid : Int := 0
  /-- What is left of Δ0 in a slew, in units of 0.01 ps, signed; the held Δ0 in ps. -/
  slewRem : Int := 0
  held : Int := 0
  /-- What the millisecond in progress removes of it, 0.01 ps. -/
  slewNow : Nat := 0
  /-- The integrator at the moment of opening (R120). -/
  integOpen : Int := 0
  /-- The last applied software word (R121). -/
  lastWord : Int := 0
  /-- Ticks since the previous fresh tick or the take, this tick included, at most 2000 (R109); 0 in the tick of a take. -/
  since : Nat := 0
  /-- A reference was taken and the next tick makes the phase take (R115). -/
  taken : Bool := false
  /-- The take of a closing loop keeps the integrator that CLOSEBUMP chose (R120). -/
  keep : Bool := false
  /-- DPLL_RESOLVE's choice, taken at the next tick. -/
  resolve : Option Nat := none
  reqs : List DpllReq := []
  /-- Phase errors of the last 1024 ticks, newest first. -/
  phlog : List Int := []
  /-- Loop errors and phase errors of fresh ticks of the last second and the one before: age in ms, |loop error|, |phase error|. -/
  errs : List (Nat × Nat × Nat) := []
  lockMs : Nat := 0
  voteMs : Nat := 0
  /-- Milliseconds for which ACTIVE has been selected without a break. -/
  selMs : Nat := 0
  /-- Time lost at a switch whose add-back has not begun, ps. -/
  lost : Nat := 0
  /-- Time being added back in this millisecond, ps. -/
  adding : Nat := 0
  /-- A reference take since the start has completed its slew or step (Table 13-1, SET). -/
  setDone : Bool := false
  deriving DecidableEq, Repr

/-- One ensemble scale of HOLD (R139, R141): the whole ensemble, or the ensemble without one entity.  Entities 0 to 11 are the
references, 12 AOSC_IN, 13 the crystal.  Phases in 10^-24 s, frequencies in 10^-24. -/
structure Scale where
  e : Int := 0
  rate : Int := 0
  /-- h_i and f_i of each tracked entity. -/
  hf : List (Nat × Int × Int) := []
  deriving DecidableEq, Repr

/-- What HOLD learns of one entity's noise (R142): x − E_{-i} of each second, newest first, and the averaged squared second difference. -/
structure Noise where
  hist : List Int := []
  avg : Nat := 0
  /-- Seconds of history. -/
  secs : Nat := 0
  deriving DecidableEq, Repr

/-- HOLD beyond its registers (spec/05). -/
structure Hold where
  /-- Scale j < 14 leaves entity j out; scale 14 is the ensemble. -/
  scales : List Scale := []
  noise : List Noise := []
  /-- Weights in force, in 1/65536, by entity. -/
  weights : List (Nat × Nat) := []
  /-- The DPLL_FREQ that would have made TBASE run at the rate of E, newest first, with 32 bits below one (R153). -/
  feHist : List Int := []
  fe : Int := 0
  /-- Milliseconds since t_e, and t_e as TBASE time. -/
  tMs : Nat := 0
  te : Nat := 0
  /-- TBASE time at which the holdover began, which a change of its oscillator does not move (Table 10-3). -/
  began : Nat := 0
  /-- Σ(Δy since t_e), 10^-18. -/
  sumTe : Int := 0
  tempTe : Int := 0
  dtMax : Nat := 0
  /-- The model in force during a holdover: D, UD, C, UC, UY, T0 (R152). -/
  frozen : Option (List Int) := none
  /-- The member slot whose sigma the holdover term charges (R154, R156). -/
  slot : Nat := 0
  /-- The hour in progress: sums of the oscillator's frequency against the ensemble without it, steering removed (10^-24), and of the
  temperature, with their number; the hourly means, newest first (R146). -/
  hourSum : Int := 0
  hourTemp : Int := 0
  hourCnt : Nat := 0
  hours : List (Int × Int) := []
  /-- Steering changes on their way to DPLL, oldest first (R150). -/
  steers : List Int := []
  /-- The fraction below one code, in 1/4096 code, and the temperature at the last correction (R149). -/
  steerFrac : Int := 0
  steerTemp : Int := 0
  /-- Milliseconds since the last steering frame, held at 1000, and its |Δy|, 10^-18. -/
  frameMs : Nat := 1001
  frameDy : Nat := 0
  /-- A UART command waits for its acknowledgement: resent already. -/
  ackWait : Option Bool := none
  /-- The last frame or command sent, as bytes (R148). -/
  sent : List Nat := []
  sentCnt : Nat := 0
  /-- First condition of R159: the slew has completed or the step has been made. -/
  settled : Bool := false
  /-- HOLD_MODELREPORT runs: waybill, step count, step in minutes, steps done, results so far. -/
  reports : List (WbHead × Nat × Nat × Nat × List Word) := []
  deriving DecidableEq, Repr

/-- APLL beyond its registers (spec/04). -/
structure Apll where
  /-- Consecutive windows within LOCKTOL of each PLL. -/
  runs : List Nat := [0, 0, 0]
  /-- Reference in use by each PLL: 0 crystal, 1 AOSC_IN, 2 APLL_SYS. -/
  refs : List Nat := [0, 0, 2]
  aoscAct : Bool := false
  /-- Each PLL has locked once since the start (R108). -/
  first : List Bool := [false, false, false]
  /-- Milliseconds since TCORE returned from the bypass multiplier, held at 1000 (Table 4-6). -/
  backMs : Nat := 1001
  deriving DecidableEq, Repr

/-- An event entry (R183): start in 2^-48 ns, period in 2^-16 ns, the index of its next edge and pulses emitted. -/
structure EvtEntry where
  start : Nat
  period : Nat
  count : Nat
  width : Nat
  cont : Bool
  k : Nat := 0
  emitted : Nat := 0
  deriving DecidableEq, Repr

/-- An event channel: queued entries, the running one, the begin and end of its latest pulse. -/
structure Evt where
  queue : List EvtEntry := []
  cur : Option EvtEntry := none
  highFrom : Nat := 0
  highUntil : Option Nat := none
  deriving DecidableEq, Repr

/-- A capture stamp (R187); time in 2^-32 ns. -/
structure CapStamp where
  time : Nat
  rise : Bool
  ovf : Bool
  tset : Bool
  step : Nat
  deriving DecidableEq, Repr

/-- A capture input: FIFO oldest first, last stamped edge, a drop not yet shown by OVFBEFORE. -/
structure Cap where
  fifo : List CapStamp := []
  last : Option Nat := none
  ovf : Bool := false
  deriving DecidableEq, Repr

/-- A beacon on its way (R23): the time it carries, the local rate word, and whether it was sent after a step or load that the island has still to
apply (R26). -/
structure Beacon where
  time : Nat
  rate : Nat
  after : Bool := false
  deriving DecidableEq, Repr

/-- A beacon-fed island (R23 to R27): local time at the last beacon and the projection it carried, local rate word, cycles since,
the beacon in flight, the announced step and its T_s. -/
structure Island where
  base : Nat := 0
  proj : Nat := 0
  rate : Nat := 0
  cycles : Nat := 0
  flight : Option Beacon := none
  step : Option (Int × Nat) := none
  /-- TBASE has made the announced step or load. -/
  made : Bool := false
  /-- TBASE's tick count at the last load, from which the nominal cycles since are known. -/
  tick0 : Nat := 0
  /-- The loss of beacons since the last one has been reported (R27). -/
  lost : Bool := false
  deriving DecidableEq, Repr

/-- A time load that has been requested (R168, R169): 0 at a given time, 1 waiting for the edge of a capture input, 2 a GNSS solution. -/
structure Load where
  src : Nat
  mode : Nat
  cap : Nat
  /-- The time given, 2^-48 ns. -/
  goal : Nat
  /-- For an edge-referenced load, the stamp of the edge. -/
  edge : Option Nat
  /-- The tick of the load, once it is known (T_s). -/
  ts : Option Nat
  /-- The declared uncertainty, ps. -/
  unc : Nat
  wb : Option WbHead
  /-- TBASE_GEN as the waybill expects it, checked again when the load is made (R46, R374). -/
  gen : Option Nat := none
  deriving DecidableEq, Repr

/-- An accepted authorised step (R171): its waybill, unless that has ended early, the DPLL_GEN it expects, and once it is announced its amount (2^-48 ns) and T_s. -/
structure AuthStep where
  wb : Option WbHead
  gen : Nat
  ann : Option (Int × Nat) := none
  deriving DecidableEq, Repr

/-- PPS_OUT (R177, R178): TCORE ticks at the previous edge, begin and end of the latest pulse. -/
structure Pps where
  last : Option Nat := none
  highFrom : Nat := 0
  highUntil : Nat := 0
  deriving DecidableEq, Repr

/-- TBASE beyond its registers (spec/06). -/
structure Tbase where
  time : Nat := 0
  counting : Bool := false
  ticks : Nat := 0
  evts : List Evt := [{}, {}, {}, {}, {}, {}, {}, {}, {}, {}, {}, {}, {}, {}, {}, {}]
  caps : List Cap := [{}, {}, {}, {}, {}, {}, {}, {}]
  islands : List Island := [{}, {}, {}, {}, {}]
  load : Option Load := none
  astep : Option AuthStep := none
  pps : Pps := {}
  /-- The time of the next second plus OFFSET at which each realigning CLKOUT restarts (R180). -/
  realign : List (Option Nat) := [none, none, none, none]
  /-- Declared uncertainty of the time load, ps (component SET). -/
  setUnc : Nat := 0
  /-- Phase-interpolator position of each CLKOUT, in steps (R180). -/
  interp : List Int := [0, 0, 0, 0]
  deriving DecidableEq, Repr

/-- A stamp channel of TIC: FIFO oldest first, the last stamped edge in 2^-12 ns, a drop not yet shown by OVFBEFORE (spec/07). -/
structure TicCh where
  fifo : List CapStamp := []
  last : Option Nat := none
  ovf : Bool := false
  deriving DecidableEq, Repr

/-- A statistics run (R207): its waybill, N, the sums so far, extremes, orphans and dead-time drops during the run. -/
structure StatRun where
  wb : WbHead
  n : Nat
  cnt : Nat := 0
  sx : Int := 0
  sxx : Nat := 0
  lo : Int := 0
  hi : Int := 0
  orph : Nat := 0
  dead : Nat := 0
  /-- The timeout in s, 0 none. -/
  timeout : Nat := 0
  deriving DecidableEq, Repr

/-- A measurement unit: start stamps not consumed, newest first; stops not decided, oldest first; first stamp of the pending
period with the periods since; opening stamp of the gate (R202 to R205).  Stamps in 2^-12 ns. -/
structure Meas where
  arms : List Nat := []
  stops : List Nat := []
  period : Option (Nat × Nat) := none
  gate : Option Nat := none
  /-- Edges counted since the gate opened; the gate's SPAN has passed and the next edge closes it. -/
  cnt : Nat := 0
  due : Bool := false
  run : Option StatRun := none
  deriving DecidableEq, Repr

/-- TIC beyond its registers: the hits on each code of the 64 interpolators (R196, R197), a background calibration and its waiting waybills,
and what R200 and R201 keep. -/
structure Tic where
  chans : List TicCh := [{}, {}, {}, {}, {}, {}, {}, {}, {}, {}, {}, {}, {}, {}, {}, {}]
  units : List Meas := [{}, {}, {}, {}]
  hits : List (List Nat) := []
  waiters : List WbHead := []
  /-- A passed calibration waits for the next millisecond boundary. -/
  swap : Bool := false
  /-- The second in progress is not tested against XWLIM (R200). -/
  noTest : Bool := false
  /-- The number of channel 10's edges so far and its last two stamps (R204). -/
  xCnt : Nat := 0
  xLast : Option Nat := none
  xPrev : Option Nat := none
  /-- Channel 10's count and stamp at the end of the last second (R200). -/
  xSec : Option (Nat × Nat) := none
  /-- Milliseconds for which the background calibration has collected hits (R210). -/
  calMs : Nat := 0
  /-- Sum and number of f_1's seconds of the day in progress (10^-24). -/
  f1Sum : Int := 0
  f1Cnt : Nat := 0
  deriving DecidableEq, Repr

/-- EBND beyond its registers (spec/13). -/
structure Ebnd where
  /-- Operations that the next tick applies (R358). -/
  cfgs : List CfgJob := []
  /-- Per port: the largest port bound of each TAI second with the components 0 to 9 it was published with, newest first, at most 4096 (R350). -/
  hist : List (List (Nat × List Nat)) := [[], [], [], [], [], [], [], []]
  /-- The TAI second the newest entries stand for. -/
  sec : Nat := 0
  /-- The blocks whose terms are missing, and ticks for which they have been, two at most. -/
  missing : List (Nat × Nat) := []
  /-- The port bounds and the components 0 to 8 of the latest publication at full width, and the stamp terms of the ports; none before the first. -/
  ports : List Nat := []
  terms : List Nat := []
  stamps : List Nat := []
  /-- The common bound exceeds LIM248; a term uses EBND_UNKACC. -/
  over248 : Bool := false
  unk : Bool := false
  deriving DecidableEq, Repr

end Sys2Proof.Machine
end

