-- ==== Sys2Proof/Machine/StateNet.lean ====
section
/-! DEFINITION. The state of the network side beyond its registers: lanes and meters (spec/09), PKT (spec/10), AUTH (spec/11), CTAB (spec/12)
and RDN (spec/18).  Times are TBASE times in 2^-48 ns. -/
namespace Sys2Proof.Machine

/-- A phase meter (R246): the number of a reference word edge, its TBASE time and the word period in 2^-48 ns; the entries of the 1,024-entry
linearity table that differ from 0. -/
structure Meter where
  word : Nat := 0
  time : Nat := 0
  period : Nat := 0
  table : List (Nat × Int) := []
  deriving DecidableEq, Repr

/-- LANE and MTS: milliseconds since the last switch of the lane reference, held at 1001; transmit buffer fills; lanes that receive local fault;
the transmit and receive meters; what MTS predicts for each transmit buffer (R237). -/
structure Mts where
  swMs : Nat := 1001
  fill : List Nat := [16, 16, 16, 16, 16, 16, 16, 16, 16, 16]
  lfault : List Nat := []
  tx : List Meter := List.replicate 10 {}
  rx : List Meter := List.replicate 10 {}
  plan : List RatePlan := List.replicate 10 ⟨[], none⟩
  deriving DecidableEq, Repr

/-- What CTAB returns with a grant: entry, ENTGEN, PERMIT, ASYMTRIM, ASYMBND, the interleaved pair and its valid bits, the previous LASTREQ in ns. -/
structure Grantd where
  entry : Nat
  gen : Nat
  permit : Nat
  trim : Int
  bnd : Nat
  irx : Nat
  itx : Nat
  irxv : Bool
  itxv : Bool
  prevNs : Nat
  deriving DecidableEq, Repr

/-- CTAB's answer to a lookup (R264, R325, R326, R321). -/
inductive Decision
  | grant (d : Grantd)
  | denied
  | anon
  | unknown
  | bad
  deriving DecidableEq, Repr

/-- AUTH's verdict: passed, with the slots used, the slot reserved for fresh cookies, client algorithm, session keys and number of fresh cookies;
or failed, with the AUTH counter. -/
inductive Verdict
  | pass (uses : List Nat) (ckSlot : Option Nat) (alg : Nat) (keys : List Nat) (cookies : Nat)
  | fail (counter : Nat)
  deriving DecidableEq, Repr

/-- A request between classification and composition (R263). -/
structure Req where
  id : Nat
  port : Nat
  /-- Class, in the order of Table 10-1 from 0. -/
  cls : Nat
  key : Key
  rx : Nat
  body : Payload
  /-- The decision CTAB has made and PKT has not got; the one PKT holds. -/
  dec : Option Decision := none
  got : Option Decision := none
  needAuth : Bool := false
  ver : Option Verdict := none
  gotVer : Option Verdict := none
  /-- PKT answers it: the request is ready for composition. -/
  ready : Bool := false
  /-- Granted as an anonymous sender, and the refusal of unicast negotiation. -/
  anon : Bool := false
  deriving DecidableEq, Repr

/-- The Thrumver bound fields (Tables 13-3, 13-4), with the field type of the extension field or the organizationId of the TLV. -/
structure BoundEf where
  id : Nat
  flags : Nat
  sel : Nat
  own : Nat
  trim : Int
  comps : List Nat
  deriving DecidableEq, Repr

/-- An NTP response (Table 10-3), and what follows its header: the body of the echoed Unique Identifier, the bound field, the algorithm and the number
of fresh cookies under the Authenticator (R279), or the key ID of a MAC. -/
structure NtpOut where
  li : Nat
  vn : Nat
  mode : Nat := 4
  stratum : Nat
  poll : Nat
  prec : Nat
  rootDelay : Nat := 0
  disp : Nat
  refid : Nat
  reft : Nat
  org : Nat
  rcv : Nat
  xmt : Nat
  uid : List Nat := []
  ef : Option BoundEf := none
  alg : Nat := 0
  cookies : Nat := 0
  keyId : Option Nat := none
  deriving DecidableEq, Repr

/-- A PTP message that PKT sends: messageType, transport, sequence, the time it carries (2^-48 ns), twoStepFlag, the dataset of an Announce
(clockIdentity, priority1, clockClass, clockAccuracy, variance, priority2, timeSource, currentUtcOffset, leap flags, traceable), bound TLV,
negotiation TLVs; then the common header: domain, clockIdentity of the source, correctionField (2^-16 ns), logMessageInterval, unicast; the portIdentity
that a response or Signaling message is for, and the address it is sent to (0 for the multicast address). -/
structure PtpOut where
  group : Nat
  type : Nat
  tr : Nat
  seq : Nat := 0
  time : Nat := 0
  twoStep : Bool := false
  quality : List Nat := []
  tlv : Option BoundEf := none
  tlvs : List SigTlv := []
  /-- The client's entry, for a granted or answered message. -/
  entry : Option Nat := none
  auth : Bool := false
  domain : Nat := 0
  src : Nat := 0
  corr : Int := 0
  logInt : Int := 0x7F
  unicast : Bool := false
  peer : Nat × Nat := (0, 0)
  dst : Nat := 0
  deriving DecidableEq, Repr

/-- The content of a frame that PKT sends. -/
inductive Content
  | ntp (o : NtpOut)
  | ptp (o : PtpOut)
  | arp (v6 : Bool) (entry : Nat)
  | host (len : Nat)
  deriving DecidableEq, Repr

/-- The protection that AUTH gave a frame: none, the MAC of an NTP-MAC response, nonce and ciphertext of an NTS Authenticator, or the SPP, key ID and ICV
of an Annex P TLV. -/
inductive Tag
  | none
  | mac (keyId : Nat) (mac : List Nat)
  | nts (nonce ct : List Nat)
  | icv (spp keyId : Nat) (icv : List Nat)
  deriving DecidableEq, Repr

/-- What a ready response is made from. -/
inductive Source
  | req (r : Req)
  /-- A kiss-o'-death reply, an NTS NAK, or a refusal of unicast negotiation. -/
  | kod (r : Req)
  | nak (r : Req)
  | refuse (r : Req)
  /-- A scheduled or granted message: group, messageType, transport (0 UDP/IPv4, 1 UDP/IPv6, 2 IEEE 802.3), entry. -/
  | sched (group type tr : Nat) (entry : Option Nat)
  /-- The Follow_Up of a Sync, or the Pdelay_Resp_Follow_Up of a request, with the measured stamp. -/
  | follow (group type seq time tr : Nat) (entry : Option Nat) (req : Option Req)
  /-- The slave's Delay_Req and its negotiation. -/
  | slaveReq (group : Nat)
  | slaveSig (group : Nat)
  | arp (v6 : Bool) (entry : Nat)
  | host (len : Nat)
  deriving DecidableEq, Repr

/-- A ready response: port, priority of R267, source, and its number in the order in which responses became ready. -/
structure Item where
  port : Nat
  prio : Nat
  src : Source
  arr : Nat
  deriving DecidableEq, Repr

/-- How far a placed frame is: reserved; its delimiter confirmed, or found elsewhere, with the frame check sequence still to come; waiting for a
locked unit interval; at a locked unit interval. -/
inductive SlotPh | placed | confirmed | missed | locked
  deriving DecidableEq, Repr

/-- A placed frame. -/
structure Slot where
  id : Nat
  item : Item
  content : Content
  /-- Speculative content, and not yet confirmed. -/
  spec : Bool
  /-- Scheduled crossing, and the transmit stamp written. -/
  pos : Nat
  stamp : Nat
  interleaved : Bool := false
  resend : Bool := false
  /-- A tag is asked for; it has come back. -/
  needTag : Bool := false
  tagged : Bool := false
  tag : Tag := .none
  bound : Nat := 0
  ph : SlotPh := .placed
  /-- A miss still waits for its locked unit interval. -/
  wantLock : Bool := false
  /-- The frame check sequence has not been released. -/
  fcs : Bool := true
  /-- The frame carries a UDP checksum (R269). -/
  csum : Bool := false
  /-- Basic mode although the origin matched (R278). -/
  fall : Bool := false
  /-- Unit intervals from its delimiter to the end of its frame; those by which its delimiter has been displaced (R238). -/
  len : Nat := 0
  shift : Int := 0
  /-- The unit interval in which a missed delimiter was found (R274). -/
  found : Nat := 0
  deriving DecidableEq, Repr

/-- A unicast grant as PKT's scheduler holds it. -/
structure UGrant where
  entry : Nat
  type : Nat
  group : Nat
  port : Nat
  tr : Nat
  log : Int
  /-- Expiry, TAI seconds. -/
  expiry : Nat
  epoch : Nat
  deriving DecidableEq, Repr

/-- A master heard by a slave. -/
structure Master where
  id : Nat
  ann : Announce
  deriving DecidableEq, Repr

/-- A group's slave (R285, R286). -/
structure Slave where
  masters : List Master := []
  cur : Option Nat := none
  /-- The latest Sync: sequence, receive stamp, origin once known. -/
  sync : Option (Nat × Nat × Option Nat) := none
  /-- The latest complete Sync: T1, T2. -/
  pair : Option (Nat × Nat) := none
  pairNew : Bool := false
  dreqSeq : Nat := 0
  /-- The latest Delay_Req: sequence and measured transmit stamp. -/
  dreq : Option (Nat × Option Nat) := none
  delay : Option Int := none
  /-- Grants held, of Announce, Sync and Delay_Resp: messageType, expiry in TAI seconds, duration. -/
  held : List (Nat × Nat × Nat) := []
  deriving DecidableEq, Repr

/-- PKT beyond its registers. -/
structure Pkt where
  nextId : Nat := 0
  reqs : List Req := []
  /-- Responses that are ready, and how many have been since the start. -/
  ready : List Item := []
  arrived : Nat := 0
  slots : List Slot := []
  /-- Operations that the next convoy close applies (R292). -/
  cfgs : List CfgJob := []
  /-- The first unit interval after the last slot placed on each port (R267). -/
  free : List Nat := [0, 0, 0, 0, 0, 0, 0, 0]
  /-- Anonymous buckets that have been used: tokens in 1/256 request and time of the last update; the aggregate bucket; the hash key. -/
  anon : List (Nat × Nat × Nat) := []
  agg : Option (Nat × Nat) := none
  anonKey : Nat := 0
  /-- This TAI second: misses, frames passed to the host, kiss-o'-death replies. -/
  misses : Nat := 0
  hostSec : Nat := 0
  kodSec : Nat := 0
  /-- Milliseconds for which the bound has been at or below the serve limit. -/
  svcMs : Nat := 0
  /-- Grant epochs, grants, granted load in 1/128 message per second. -/
  epoch : List Nat := [0, 0]
  grants : List UGrant := []
  load : Nat := 0
  slaves : List Slave := [{}, {}]
  /-- Sequence numbers of Announce and Sync, per group. -/
  seqs : List Nat := [0, 0, 0, 0]
  /-- The DPLL's last tick in TRACKING or PHASEHOLD, or the begin of holdover. -/
  refTime : Nat := 0
  /-- The last frame check sequence released: slot and whether it was stomped. -/
  lastFcs : Option (Nat × Bool) := none
  /-- LASTTX of each port before the unconfirmed one: stamp, kind, valid. -/
  prevTx : List (Nat × Nat × Bool) := [(0, 0, false), (0, 0, false), (0, 0, false), (0, 0, false), (0, 0, false), (0, 0, false), (0, 0, false), (0, 0, false)]
  deriving DecidableEq, Repr

/-- An AUTH job that waits: a request to verify, or a slot to tag (again). -/
inductive AuthJob
  | verify (req : Nat) (granted : Bool)
  | tag (slot : Nat)
  | retag (slot : Nat)
  deriving DecidableEq, Repr

/-- A state change of a key slot that takes effect at the next millisecond (R313). -/
structure KeyChange where
  slot : Nat
  state : Nat
  deriving DecidableEq, Repr

/-- A rotation (R316): its waybill and the generation it carries. -/
structure Rotation where
  wb : WbHead
  gen : Nat
  ptp : Bool
  spp : Nat
  new : Nat
  old : Option Nat := none
  /-- Acceptance and activation, TAI seconds; retire delay. -/
  start : Nat
  act : Nat
  delay : Nat
  activated : Bool := false
  /-- Its old slot is being zeroised. -/
  retiring : Bool := false
  results : List Word := []
  deriving DecidableEq, Repr

/-- A zeroisation in progress: its waybill, if any, and the slots not yet overwritten. -/
structure Zeroise where
  wb : Option WbHead
  total : Nat
  slots : List Nat
  deriving DecidableEq, Repr

/-- A mint stage: the halves it holds, as bytes. -/
structure Stage where
  c2s : Option (List Nat) := none
  s2c : Option (List Nat) := none
  deriving DecidableEq, Repr

/-- AUTH beyond its registers: key bytes by slot, jobs in order of arrival. -/
structure Auth where
  keys : List (Nat × List Nat) := []
  jobs : List AuthJob := []
  changes : List KeyChange := []
  rots : List Rotation := []
  zero : List Zeroise := []
  stages : List (Nat × Stage) := []
  /-- AUTH_COOKIEMINT waybills behind the jobs of R295, with their parameters. -/
  mints : List (WbHead × List Word) := []
  /-- Failures of this TAI second. -/
  failSec : Nat := 0
  deriving DecidableEq, Repr

/-- What a confirmed response commits (R332): entry, ENTGEN seen, receive and transmit stamp, its kind, class, interleaved, re-send, the
request's NTP transmit timestamp, bound served (ps), previous LASTREQ (ns); or a grant record (0 Announce, 1 Sync, 2 Delay_Resp; 16 bytes) with
the requester's portIdentity, or of a refused negotiation that alone; or a loss; or a failed verdict of a granted request. -/
inductive Commit
  | resp (entry gen rx tx kind cls : Nat) (inter again : Bool) (xmt bound prevNs : Nat)
  | grant (entry gen type record port : Nat)
  | party (entry gen port : Nat)
  | lost (entry gen : Nat)
  | failed (entry gen : Nat)
  deriving DecidableEq, Repr

/-- The entry a commit names, and the ENTGEN it carries. -/
def Commit.entry : Commit → Nat
  | .resp e _ _ _ _ _ _ _ _ _ _ => e
  | .grant e _ _ _ _ => e
  | .party e _ _ => e
  | .lost e _ => e
  | .failed e _ => e

def Commit.gen : Commit → Nat
  | .resp _ g _ _ _ _ _ _ _ _ _ => g
  | .grant _ g _ _ _ => g
  | .party _ g _ => g
  | .lost _ g => g
  | .failed _ g => g

/-- The write set that a held lease stands for (R328): the bucket decision of a request, a commit, the next load record, or a sweep's action. -/
inductive LeaseOp
  | decide (req : Nat)
  | commit (c : Commit)
  | load
  | sweep
  deriving DecidableEq, Repr

/-- A lease that its holder has not released. -/
structure Lease where
  entry : Nat
  op : LeaseOp
  deriving DecidableEq, Repr

/-- A load, sweep or dump (R336 to R338). -/
inductive Bulk
  | load (wb : WbHead) (next left total : Nat) (results : List Word)
  | sweep (wb : WbHead) (next left total filter idle deny action maxn : Nat) (results : List Word)
  | dump (wb : WbHead) (hist : Bool) (next left total : Nat)
  deriving DecidableEq, Repr

/-- CTAB beyond its registers. -/
structure Ctab where
  hashKey : Nat := 0
  /-- The memory-training trims in force. -/
  trims : Nat := 0
  leases : List Lease := []
  /-- Holders that wait for a lease, in order of request. -/
  queue : List Lease := []
  commits : List Commit := []
  bulks : List Bulk := []
  /-- Buckets being rebuilt (R326). -/
  rebuild : List Nat := []
  /-- Corrected errors of the present hour, and the hour. -/
  ceHour : Nat := 0
  hour : Nat := 0
  refresh2 : Bool := false
  deriving DecidableEq, Repr

/-- A scheduled handover (R456, R458). -/
structure Handover where
  h : Nat
  /-- This unit gives the role up. -/
  leaving : Bool
  planned : Bool
  acked : Bool := false
  /-- Time of the last heartbeat from the partner with the same H. -/
  heard : Option Nat := none
  deriving DecidableEq, Repr

/-- A partner lane of Drover: the sequence number of our next heartbeat, the stamps of R453, the words last sent. -/
structure Drover where
  seq : Nat := 0
  /-- Measured transmit stamps of our latest heartbeat and of the one before it. -/
  tx : Option Nat := none
  txOld : Option Nat := none
  /-- Sequence number of the partner's latest heartbeat, and its receive stamp. -/
  rxSeq : Option Nat := none
  rx : Option Nat := none
  /-- The 32 words of the latest heartbeat (Table 18-6), and the unit interval of its delimiter. -/
  sent : List Word := []
  at_ : Option Nat := none
  deriving DecidableEq, Repr

/-- RDN beyond its registers: the mode taken at step 3, whether ABSENT came after GRANTED, the new claim to come into force. -/
structure Rdn where
  mode : Nat := 0
  wasGranted : Bool := false
  newClaim : Option Nat := none
  ho : Option Handover := none
  /-- Time at which GRANTED was decided. -/
  grantedAt : Option Nat := none
  /-- ARB_REQ is low in a handover pulse; it owes the withdrawal of H + 10 µs; it is low for that withdrawal (R456). -/
  pulse : Bool := false
  owes : Bool := false
  withdraw : Bool := false
  /-- A valid claim frame has come since the start. -/
  heardClaim : Bool := false
  partnerReady : Bool := false
  /-- The H of a release that this unit's check as taking unit turned away. -/
  refused : Option Nat := none
  lanes : List Drover := [{}, {}]
  /-- EVT_OUTs whose gate stays open until their pulse ends, with that time (R457). -/
  evtHold : List (Nat × Nat) := []
  /-- The H from which this unit, become active, starts its outputs, and whether the switchover is coordinated (R457, R458). -/
  startAt : Option (Nat × Bool) := none
  /-- Announcement rounds still to send, and the groups whose first Announce brings one more (R460). -/
  rounds : Nat := 0
  firstAnn : List Nat := []
  /-- The grant records to mirror: key, which record, its words (R454); the ones sent last. -/
  mirror : List (Key × Nat × List Word) := []
  mirrored : List (Key × Nat × List Word) := []
  /-- The latest claim frame on CLM_OUT, bit i of Table 18-2 as bit i; the line idles high. -/
  claimSent : Nat := 4294967295
  deriving DecidableEq, Repr

end Sys2Proof.Machine
end

