-- ==== Sys2Proof/Machine/State.lean ====
section
/-! DEFINITION. The state of the LN7400 as plain data, the faults and refusals of a step, and the state after reset. -/
namespace Sys2Proof.Machine

/-- The reasons a step can stop with a fault.  No command of this block ends in a fault: what the spec reports, it reports through its fault
messages, interrupts and manifests, which are state. -/
inductive Fault
  /-- Never raised by a meaning; it keeps the type inhabited (safe). -/
  | none
  deriving DecidableEq, Repr

/-- The reasons a step can be refused.  No command of this block is refused: a host error leaves its block as R377 allows. -/
inductive Refusal
  /-- An arm of `exec` with no meaning yet (safe). -/
  | notModelled (mnemonic : String)
  deriving DecidableEq, Repr

/-- The whole machine. -/
structure State where
  /-- The register file: byte address and word of every register that does not hold its value after a cold start (R5, R9). -/
  regs : List (Nat × Word) := []
  psu : Psu := {}
  aon : Aon := {}
  store : Store := {}
  refs : List Ref := [{}, {}, {}, {}, {}, {}, {}, {}, {}, {}, {}, {}]
  dpll : Dpll := {}
  hold : Hold := {}
  apll : Apll := {}
  tb : Tbase := {}
  tic : Tic := {}
  ebnd : Ebnd := {}
  gnss : Gnss := {}
  mts : Mts := {}
  pkt : Pkt := {}
  auth : Auth := {}
  ctab : Ctab := {}
  rdn : Rdn := {}
  /-- The in-package memory (R320): addresses rising, no entry 0, which is what an unlisted byte reads as. -/
  mem : List Host.Cell := []
  seq : SeqBlk := {}
  mgmt : Mgmt := {}
  hif : Hif := {}
  intc : Intc := {}
  fcol : Fcol := {}
  ledger : Ledger := {}
  /-- The model's own counter of fresh free values; no field of the spec. -/
  fresh : Nat := 0
  /-- The commands waiting, first in first out. -/
  pending : List Instr := []
  deriving DecidableEq, Repr

/-- The machine right after reset: unpowered at the first power-up, every register at the value of its table, queues empty. -/
def State.reset : State := {}

end Sys2Proof.Machine
end

