-- ==== Sys2Proof/Machine/Regs.lean ====
section
/-! DEFINITION. Reading and writing registers and their fields (spec/00 R8 to R15). -/
namespace Sys2Proof.Machine

abbrev Res := Host.Outcome State Fault Refusal

/-- The block index of a byte address (R5). -/
def blockOf (a : Nat) : Nat := a / 0x10000

/-- The number of a register group that window offset `off` falls in, if the row covers it. -/
def RegRow.index (r : RegRow) (off : Nat) : Option Nat :=
  if off < r.off then none
  else if r.count = 1 then (if off < r.off + 2 * r.words then some 0 else none)
  else
    let d := off - r.off
    if d / r.stride < r.count ∧ d % r.stride < 2 * r.words then some (d / r.stride) else none

/-- The row of a list that covers an offset, with the group number. -/
def rowFor : List RegRow → Nat → Option (RegRow × Nat)
  | [], _ => none
  | r :: rs, off => match r.index off with
    | some i => some (r, i)
    | none => rowFor rs off

/-- The register at a byte address, with its group number; none for an offset that is not listed.  INTC has no source 0 (R7, Table 16-4). -/
def regAt (a : Nat) : Option (RegRow × Nat) :=
  if a = 0x111000 ∨ a = 0x111200 then none else rowFor (blockRegs (blockOf a)) (a % 0x10000)

/-- The interrupt sources that are level sources (the source tables of the chapters). -/
def levelSources : List Nat := [7, 22, 56, 67, 84, 161, 219, 233]

/-- The classes whose CRIT is fixed at 1 (Table 17-5). -/
def fixedClasses : List Nat := [52, 66, 226, 227]

/-- Number of fault kinds each block defines, kinds 1 to n (the fault tables of the chapters). -/
def faultKinds (src : Nat) : Nat := [4, 5, 4, 4, 5, 5, 4, 3, 6, 4, 3, 6, 4, 7, 3, 1, 3, 2, 6, 6].getD src 0

/-- The value after a cold start of a field that differs from group member to group member by a rule. -/
def specialCold (name : String) (f : FieldRow) (i : Nat) : Option Nat :=
  if name = "INTC_SRC_HCFG" ∧ f.lo = 5 then some (if levelSources.contains i then 1 else 0)
  else if name = "INTC_SRC_MCFG" then some (if levelSources.contains i then 32 else 0)
  else if name = "FCOL_CLS_CFG" then
    if f.lo = 0 then some (if fixedClasses.contains i || i = 177 then 1 else 0)
    else if f.lo = 1 then some (if fixedClasses.contains i then 1 else 0)
    else if f.lo = 2 then some (if 1 ≤ i % 16 ∧ i % 16 ≤ faultKinds (i / 16) then 1 else 0)
    else none
  else none

/-- The value of a field after a cold start, for member `i` of its group. -/
def FieldRow.coldAt (f : FieldRow) (name : String) (i : Nat) : Nat :=
  match specialCold name f i with
  | some v => v
  | none => f.inst.getD i f.cold

/-- The value of a whole register after a cold start. -/
def coldValue (r : RegRow) (i : Nat) : Nat :=
  r.fields.foldl (fun acc f => acc + f.coldAt r.name i * 2 ^ f.lo) 0

/-- What an unlisted address of the register file reads as: the word after a cold start; 0 where no register is listed (R6). -/
def regDefault (a : Nat) : Word :=
  match regAt a with
  | none => 0
  | some (r, i) => BitVec.ofNat 16 (coldValue r i / 2 ^ (8 * ((a % 0x10000 - r.off) - i * r.stride)))

/-- The word held at a byte address. -/
def State.rd (s : State) (a : Nat) : Word := look (regDefault a) s.regs a

/-- Hold a word at a byte address. -/
def State.wr (s : State) (a : Nat) (w : Word) : State :=
  { s with regs := Machine.store (regDefault a) s.regs a w }

/-- The value of `n` words from address `a`, least significant word first (R9). -/
def State.rdN (s : State) (a : Nat) : Nat → Nat
  | 0 => 0
  | n + 1 => (s.rd a).toNat + 65536 * s.rdN (a + 2) n

/-- Hold a value in `n` words from address `a`, least significant word first (R9). -/
def State.wrN (s : State) (a : Nat) (v : Nat) : Nat → State
  | 0 => s
  | n + 1 => (s.wr a (BitVec.ofNat 16 v)).wrN (a + 2) (v / 65536) n

/-- The words a field reaches into. -/
def Field.words (f : Field) : Nat := (f.lo + f.wid + 15) / 16

/-- The value of a field. -/
def State.get (s : State) (f : Field) : Nat := s.rdN f.addr f.words / 2 ^ f.lo % 2 ^ f.wid

/-- A number with bits `lo` to `lo + wid - 1` replaced by `v`. -/
def putBits (old lo wid v : Nat) : Nat :=
  old % 2 ^ lo + (v % 2 ^ wid) * 2 ^ lo + old / 2 ^ (lo + wid) * 2 ^ (lo + wid)

/-- Put a value into a field, its other bits unchanged. -/
def State.set (s : State) (f : Field) (v : Nat) : State :=
  s.wrN f.addr (putBits (s.rdN f.addr f.words) f.lo f.wid v) f.words

/-- A number of `w` bits read as two's complement. -/
def toSigned (w v : Nat) : Int := if v < 2 ^ (w - 1) then (v : Int) else (v : Int) - 2 ^ w

/-- An integer as a two's complement number of `w` bits, wrapping. -/
def ofSigned (w : Nat) (v : Int) : Nat := (v % (2 ^ w : Nat)).toNat

/-- An integer held to what `w` bits of two's complement can carry. -/
def satSigned (w : Nat) (v : Int) : Int :=
  if v > (2 ^ (w - 1) : Nat) - 1 then (2 ^ (w - 1) : Nat) - 1
  else if v < -((2 ^ (w - 1) : Nat) : Int) then -((2 ^ (w - 1) : Nat) : Int) else v

/-- A number held to what `w` bits can carry. -/
def satNat (w v : Nat) : Nat := if v < 2 ^ w then v else 2 ^ w - 1

/-- The signed value of a field. -/
def State.getI (s : State) (f : Field) : Int := toSigned f.wid (s.get f)

/-- Put a signed value into a field, saturating. -/
def State.setI (s : State) (f : Field) (v : Int) : State := s.set f (ofSigned f.wid (satSigned f.wid v))

/-- Put a value into a field, saturating. -/
def State.setSat (s : State) (f : Field) (v : Nat) : State := s.set f (satNat f.wid v)

/-- Put a truth value into a one-bit field. -/
def State.setB (s : State) (f : Field) (b : Bool) : State := s.set f (if b then 1 else 0)

/-- A one-bit field is set. -/
def State.on (s : State) (f : Field) : Bool := s.get f % 2 = 1

/-- Count one up in a field, held at its largest value (the saturating counters). -/
def State.inc (s : State) (f : Field) : State := s.setSat f (s.get f + 1)

/-- Count one up in a field, wrapping (the generation numbers of R44 and the wrapping counters). -/
def State.bump (s : State) (f : Field) : State := s.set f (s.get f + 1)

/-- Bit `i` of a map field. -/
def State.bit (s : State) (f : Field) (i : Nat) : Bool := s.get f / 2 ^ i % 2 = 1

/-- Put bit `i` of a map field. -/
def State.setBit (s : State) (f : Field) (i : Nat) (b : Bool) : State := s.setB ⟨f.addr, f.lo + i, 1⟩ b

/-- The words of a register field's address range, as read. -/
def State.rdWords (s : State) (a : Nat) : Nat → List Word
  | 0 => []
  | n + 1 => s.rd a :: s.rdWords (a + 2) n

/-- The `n` words of a number, least significant first. -/
def wordsOf (v : Nat) : Nat → List Word
  | 0 => []
  | n + 1 => BitVec.ofNat 16 v :: wordsOf (v / 65536) n

/-- The number that words spell, least significant first. -/
def ofWords : List Word → Nat
  | [] => 0
  | w :: r => w.toNat + 65536 * ofWords r

/-- A fresh free value (log entry 3): an open number, and the state with the counter advanced. -/
def State.freeNat (s : State) : Nat × State := (Config.freeNat s.fresh, { s with fresh := s.fresh + 1 })

end Sys2Proof.Machine
end

