-- ==== Sys2Proof/Machine/Ops.lean ====
section
/-! DEFINITION. The shared operations of every block: raising interrupts (R402), sending fault messages (R415, R416), moving
generations (R44) and writing manifests (R362 to R367). -/
namespace Sys2Proof.Machine

/-! ### Interrupt sources -/

/-- Record an event of an edge source in both targets' pending bits, enabled or not (R402). -/
def Target.post (t : Target) (n : Nat) : Target := { t with pend := insertNat t.pend n }

/-- Raise an edge source; before INTC runs it is held for the end of step 3 (R77, R411). -/
def State.raise (s : State) (n : Nat) : State :=
  if s.intc.running then
    { s with intc := { s.intc with host := s.intc.host.post n, mgmt := s.intc.mgmt.post n } }
  else { s with intc := { s.intc with held := insertNat s.intc.held n } }

/-- Raise a source if a condition holds. -/
def State.raiseIf (s : State) (b : Bool) (n : Nat) : State := if b then s.raise n else s

/-- Count one up in a saturating counter and raise a source as it leaves 0. -/
def State.incRaise (s : State) (f : Field) (n : Nat) : State :=
  let was := s.get f
  (s.inc f).raiseIf (was = 0) n

/-! ### Fault messages -/

/-- FCOL's count of messages of sender `b` that were dropped and not reported. -/
def State.unrep (s : State) (b : Nat) : Nat := look 0 s.fcol.unrep b

/-- Messages of block `b` on their way that it may not have sent yet: a block sends a message within 2 µs, 1250 ticks, of forming it (R416). -/
def State.queued (s : State) (b : Nat) : Nat :=
  (s.fcol.inflight.filter (fun m => m.src = b && s.tb.ticks ≤ m.sent + 1250)).length

/-- Block `b` has room for one more unsent message.  When each of eight leaves within its 2 µs is open (R416; log entry 9). -/
def State.hasRoom (s : State) (b : Nat) : Bool :=
  s.queued b < 8 || !Config.queueFull b s.tb.ticks s.fcol.inflight.length (s.unrep b)

/-- A block forms a message, which joins those on their way to FCOL. -/
def State.pushMsg (s : State) (m : FMsg) : State :=
  { s with fcol := { s.fcol with inflight := s.fcol.inflight ++ [{ m with sent := s.tb.ticks }] } }

/-- A message is dropped at the queue of sender `b` (R416). -/
def State.dropMsg (s : State) (b : Nat) : State :=
  let s := s.inc F.FCOL_LOST
  { s with fcol := { s.fcol with unrep := Machine.store 0 s.fcol.unrep b (s.unrep b + 1) } }

/-- FCOL reports the losses of sender `b` if it has any and FCOL's own queue has room (R416, kind 0x03, Table 17-13). -/
def State.reportLoss (s : State) (b : Nat) : State :=
  if s.unrep b ≠ 0 ∧ s.hasRoom 0x12 = true then
    let n := satNat 16 (s.unrep b)
    { s with fcol := { s.fcol with unrep := Machine.store 0 s.fcol.unrep b 0 } }.pushMsg { src := 0x12, kind := 3, detail := b + 65536 * n }
  else s

/-- FCOL reports losses, senders in ascending order. -/
def State.reportLosses (s : State) : State :=
  (s.fcol.unrep.map Prod.fst).foldl State.reportLoss s

/-- Form and send a fault message.  Before FCOL runs SEQ holds it, eight at most (R77). -/
def State.sendMsg (s : State) (m : FMsg) : State :=
  if s.fcol.running then
    if s.hasRoom m.src then s.pushMsg m else (s.dropMsg m.src).reportLosses
  else if s.store.held.length < 8 then
    { s with store := { s.store with held := s.store.held ++ [{ m with held := true }] } }
  else { s with store := { s.store with heldLost := s.store.heldLost + 1 } }

/-- Send a fault message of block `src`, kind `kind`, with one detail value (R487). -/
def State.fault (s : State) (src kind : Nat) (detail : Nat := 0) : State :=
  s.sendMsg { src := src, kind := kind, detail := detail % 2 ^ 32 }

/-- Send a fault message that names a master and an access. -/
def State.faultM (s : State) (src kind detail master acc : Nat) (addr : Option Nat) : State :=
  s.sendMsg { src := src, kind := kind, detail := detail % 2 ^ 32, master := master, acc := acc, addr := addr }

/-! ### Fault domains at a start's end, and the Ledger's counts -/

/-- One more start, dip or step in the Ledger's counts: 0 cold, 1 warm, 2 failed starts, 3 safe-configuration entries, 4 recovered dips,
5 authorised steps (R437). -/
def State.ledgerCount (s : State) (i : Nat) : State :=
  { s with ledger := { s.ledger with starts := modAt s.ledger.starts i (fun n => n + 1) } }

/-- The histogram bin of an interval in seconds (R437). -/
def intervalBin (d : Nat) : Nat := if d = 0 then 0 else min 31 (Nat.log2 d + 1)

/-- A FAULTED episode of domain `d` begins: its distance from the last one is counted. -/
def State.episode (s : State) (d : Nat) : State :=
  let l := s.ledger
  let n := l.powered
  let iv := match at' none l.episodes d with
    | some e => Machine.store 0 l.intervals (d * 32 + intervalBin (n - e)) (look 0 l.intervals (d * 32 + intervalBin (n - e)) + 1)
    | none => l.intervals
  { s with ledger := { l with intervals := iv, episodes := modAt l.episodes d (fun _ => some n) } }

/-- The start is complete: every domain leaves DOWN (Table 17-4). -/
def State.domainsUp (s : State) : State :=
  let s := (List.range 4).foldl (fun s d => if (at' {} s.fcol.doms d).quiet then s else s.episode d) s
  { s with fcol := { s.fcol with doms := s.fcol.doms.map (fun d => { d with st := if d.quiet then .alive else .faulted, classes := if d.quiet then [] else d.classes }) } }

/-! ### Generations -/

/-- The window offset of the generation register that serves a register (R44), as a field; none where no unit keeps one. -/
def genOf (r : RegRow) (i blk : Nat) : Option Field :=
  if r.gen = 0 then none else some ⟨blk * 0x10000 + r.gen + i * r.genStride, 0, 16⟩

/-! ### Manifests -/

/-- The state number of Table 14-4. -/
def ManSt.code : ManSt → Nat
  | .none => 0 | .queued => 1 | .running => 2 | .partialSt => 3 | .done => 4 | .failed => 5 | .aborted => 6

/-- DONE, FAILED and ABORTED are final (R364). -/
def ManSt.final : ManSt → Bool
  | .done | .failed | .aborted => true
  | _ => false

/-- The status codes of Table 14-5. -/
inductive Status | ok | frame | crc | unknown | blockUnavail | genConflict | busy | notPermitted | timeout | dataError | stopped | interrupted
  deriving DecidableEq, Repr

def Status.code : Status → Nat
  | .ok => 0 | .frame => 1 | .crc => 2 | .unknown => 3 | .blockUnavail => 4 | .genConflict => 5 | .busy => 6
  | .notPermitted => 7 | .timeout => 8 | .dataError => 9 | .stopped => 10 | .interrupted => 11

/-- The taken waybill of a ring and slot. -/
def State.takenAt (s : State) (ring slot : Nat) : Option Taken :=
  s.mgmt.taken.find? (fun t => t.ring = ring ∧ t.slot = slot)

/-- The manifest slot of a ring and slot. -/
def State.manifestAt (s : State) (ring slot : Nat) : Option Manifest :=
  s.mgmt.manifests.find? (fun m => m.ring = ring ∧ m.slot = slot)

/-- Host memory can be reached: the link is up and bus mastering is enabled (R391). -/
def State.hostMem (s : State) : Bool := s.on F.HIF_STAT_LINKUP && s.on F.HIF_STAT_BUSMASTER

/-- The two bases of ring `r`, as one number. -/
def State.ringBases (s : State) (r : Nat) : Nat := s.rdN (F.HIF_RING_WBASE r).addr 8

/-- A manifest of this slot can reach its memory: rings 2 and 3 always; rings 0 and 1 while host memory can be reached and, after an endpoint
reset, once the ring is enabled again at the same bases (R388, R391). -/
def State.canWrite (s : State) (ring slot : Nat) : Bool :=
  if ring ≥ 2 then true
  else s.hostMem &&
    (match (s.takenAt ring slot).bind (fun t => t.base) with
     | some b => s.on (F.HIF_RING_CFG_EN ring) && s.ringBases ring = b
     | none => true)

/-- Write a manifest header with the results it counts (R366); a write that fails is counted and reported, nothing else (R381). -/
def State.putManifest (s : State) (m : Manifest) : State :=
  if s.canWrite m.ring m.slot then
    { s with mgmt := { s.mgmt with manifests := m :: s.mgmt.manifests.filter (fun x => ¬ (x.ring = m.ring ∧ x.slot = m.slot)) } }
  else (s.inc F.MGMT_MANFAIL).fault 0x0F 1 (Config.openDetail 0x0F 1 [m.ring, m.slot])

/-- UPD of the next header write: it starts at 1 and wraps from 127 to 0 (Table 14-4). -/
def nextUpd (u : Nat) : Nat := (u + 1) % 128

/-- The waybill of a head, as taken; a bare one where MGMT holds none. -/
def State.entryOf (s : State) (h : WbHead) : Taken :=
  (s.takenAt h.ring h.slot).getD { ring := h.ring, slot := h.slot, w0 := 0, tag := h.tag, started := true }

/-- Change the taken entry of a ring and slot. -/
def State.modTaken (s : State) (ring slot : Nat) (f : Taken → Taken) : State :=
  { s with mgmt := { s.mgmt with taken := s.mgmt.taken.map (fun t => if t.ring = ring ∧ t.slot = slot then f t else t) } }

/-- Remove the taken entry of a ring and slot. -/
def State.dropTaken (s : State) (ring slot : Nat) : State :=
  { s with mgmt := { s.mgmt with taken := s.mgmt.taken.filter (fun t => ¬ (t.ring = ring ∧ t.slot = slot)) } }

/-- MGMT_WBSTAT.LONG follows the long operations accepted and not final (Table 14-13). -/
def State.countLong (s : State) : State :=
  s.setSat F.MGMT_WBSTAT_LONG (s.mgmt.taken.filter (fun t => t.long)).length

/-- A MGMT_SUSPEND that is final waits for no target any more. -/
def State.dropWaiter (s : State) (h : WbHead) : State :=
  { s with mgmt := { s.mgmt with taken := s.mgmt.taken.map (fun t =>
      { t with suspReqs := t.suspReqs.filter (fun w => !(w.ring = h.ring && w.slot = h.slot)) }) } }

/-- Write the final header of one waybill: state, status, progress, results; interrupt 200 where its IRQ flag asks for it (R360), 203 where a
long operation ends ABORTED with INTERRUPTED (Table 14-14).  The waybill is then no longer taken. -/
def State.finishOne (s : State) (h : WbHead) (st : ManSt) (status : Status) (progress : Nat) (results : List Word) (spec : Bool := false) : State :=
  let t := s.entryOf h
  let m : Manifest := ⟨h.ring, h.slot, status.code, h.tag, st, nextUpd t.upd, spec || t.spec, progress, results⟩
  let s := s.putManifest m
  let s := ((s.dropTaken h.ring h.slot).dropWaiter h).countLong
  let s := s.raiseIf (h.flags % 2 = 1) 200
  let s := s.raiseIf ([0x6840, 0x6880, 0x68C0].contains (t.w0.toNat / 64 * 64)) 176
  s.raiseIf (t.long && st = .aborted && status = .interrupted) 203

/-- A waybill becomes final; a MGMT_SUSPEND that still waits for it completes with that state (R378). -/
def State.finish (s : State) (h : WbHead) (st : ManSt) (status : Status) (progress : Nat) (results : List Word) (spec : Bool := false) : State :=
  (s.entryOf h).suspReqs.foldl (fun s w => s.finishOne w .done .ok 0xFFFF [BitVec.ofNat 16 st.code]) (s.finishOne h st status progress results spec)

/-- A short operation completes DONE (R364, R365). -/
def State.done (s : State) (h : WbHead) (results : List Word := []) : State := s.finish h .done .ok 0xFFFF results

/-- A short operation completes FAILED (R363, R365). -/
def State.failed (s : State) (h : WbHead) (status : Status) : State := s.finish h .failed status 0 []

/-- Accept a long operation: its first header reads RUNNING, or QUEUED while its engine is held (R364).  One that was accepted while its block waited
for step 7 moves on, and with QUIET its header does not show it (R360). -/
def State.acceptLong (s : State) (h : WbHead) (w0 : Nat) (st : ManSt) : State :=
  let old := s.entryOf h
  let quiet := old.long && h.flags / 4 % 2 = 1
  let t := { old with long := true, state := st, upd := if quiet then old.upd else nextUpd old.upd, tag := h.tag, w0 := BitVec.ofNat 16 (w0 + h.flags % 64) }
  let s := if (s.takenAt h.ring h.slot).isSome then s.modTaken h.ring h.slot (fun _ => t)
    else { s with mgmt := { s.mgmt with taken := s.mgmt.taken ++ [t] } }
  (if quiet then s else s.putManifest ⟨h.ring, h.slot, 0, h.tag, st, t.upd, false, 0, []⟩).countLong

/-- A long operation's header moves on: a new state, progress and results.  With QUIET only acceptance and the final state are written (R360). -/
def State.advance (s : State) (h : WbHead) (st : ManSt) (progress : Nat) (results : List Word) : State :=
  let t := s.entryOf h
  if h.flags / 4 % 2 = 1 then
    s.modTaken h.ring h.slot (fun t => { t with state := st, progress := progress, results := results })
  else
    let s := s.modTaken h.ring h.slot (fun t => { t with state := st, progress := progress, results := results, upd := nextUpd t.upd })
    s.putManifest ⟨h.ring, h.slot, 0, h.tag, st, nextUpd t.upd, t.spec, progress, results⟩

/-- PROGRESS of `done` out of `total` (R365). -/
def progressOf (done total : Nat) : Nat := if total = 0 then 0xFFFF else min 0xFFFF (65536 * done / total)

/-! ### Parameters -/

/-- Parameter word `i`; one that the waybill does not carry takes an arbitrary value, another at each read that the operation makes of it, which `use`
tells apart (R376, log entry 4). -/
def param (s : State) (ps : List Word) (i : Nat) (use : Nat := 0) : Nat := (ps.getD i (Config.missingParam s.fresh i use)).toNat

/-- A value of `n` parameter words from word `i`, least significant first (R9). -/
def paramN (s : State) (ps : List Word) (i n : Nat) (use : Nat := 0) : Nat :=
  ofWords ((List.range n).map (fun k => ps.getD (i + k) (Config.missingParam s.fresh (i + k) use)))

/-- Signed parameters. -/
def paramI (s : State) (ps : List Word) (i n : Nat) (use : Nat := 0) : Int := toSigned (16 * n) (paramN s ps i n use)

end Sys2Proof.Machine
end

