-- ==== Sys2Proof/Machine/IntcOps.lean ====
section
/-! DEFINITION. INTC's evaluation of its two targets (spec/16 R402 to R411), and the end of every command: level sources
are sampled and the lines follow. -/
namespace Sys2Proof.Machine

/-- The capture level source 56: an input with IRQEN holds its watermark (R186). -/
def State.capLevel (s : State) : Bool :=
  (List.range 8).any (fun n => s.on (F.TBASE_CAP_CFG_IRQEN n) && s.get (F.TBASE_CAP_CFG_WMARKM1 n) < (at' {} s.tb.caps n).fifo.length)

/-- The level source 67: a stamp channel with IRQEN holds its watermark (R206). -/
def State.ticLevel (s : State) : Bool :=
  (List.range 16).any (fun n => s.on (F.TIC_CH_CFG_IRQEN n) && s.get (F.TIC_CH_CFG_WMARKM1 n) < (at' {} s.tic.chans n).fifo.length)

/-- Source 84: POST exceeds JNLIM in either band (R224). -/
def State.jamLevel (s : State) : Bool := s.get F.GNSS_JNLIM_LIM < s.get F.GNSS_JNA_POST || s.get F.GNSS_JNLIM_LIM < s.get F.GNSS_JNB_POST

/-- The input of a level source (the source tables of the chapters). -/
def State.levelIn (s : State) (n : Nat) : Bool :=
  match n with
  | 7 => s.on F.PSU_EVT_RAILFLT || s.on F.PSU_EVT_OVERTEMP
  | 22 => s.on F.TBASE_STAT_TIMESET && !s.on F.RMON_WITNESS_PVALID
  | 56 => s.capLevel
  | 67 => s.ticLevel
  | 84 => s.jamLevel
  | 161 => !s.on F.AUTH_STAT_CURVALID && s.on F.PKT_CTRL_NTSEN
  | 219 => 0 < s.hif.rxUntaken
  | 233 => !s.fcol.log.isEmpty
  | _ => false

/-- Enable bit of a source for a target (Table 16-4). -/
def State.srcEnabled (s : State) (mgmt : Bool) (n : Nat) : Bool :=
  if mgmt then s.get (F.INTC_SRC_MCFG n) / 16 % 2 = 1 else s.on (F.INTC_SRC_HCFG_EN n)

/-- Priority of a source for a target (Table 16-4). -/
def State.srcPrio (s : State) (mgmt : Bool) (n : Nat) : Nat :=
  if mgmt then s.get (F.INTC_SRC_MCFG n) % 16 else s.get (F.INTC_SRC_HCFG_PRIO n)

/-- A priority above the target's present level; with an empty stack every priority is (R403). -/
def Target.above (t : Target) (p : Nat) : Bool :=
  match t.stack with
  | [] => true
  | e :: _ => e.prio < p

/-- The best of a list of sources: highest priority, then lowest number (R403); the list rises. -/
def bestOf (prio : Nat → Nat) : List Nat → Option Nat
  | [] => none
  | n :: r => match bestOf prio r with
    | none => some n
    | some m => if prio n < prio m then some m else some n

/-- The best eligible source of a target (R403). -/
def State.eligible (s : State) (mgmt : Bool) (t : Target) : Option Nat :=
  bestOf (s.srcPrio mgmt) (t.pend.filter (fun n => s.srcEnabled mgmt n && t.above (s.srcPrio mgmt n)))

/-- Sample one level source for a target: outside service its pending bit follows its input (R402); in service, a
de-assertion before the first look is remembered (R408). -/
def sampleLevel (inp : Bool) (t : Target) (n : Nat) : Target :=
  if t.stack.any (fun e => e.src = n) then
    { t with stack := t.stack.map (fun e => if e.src = n ∧ !e.looked ∧ !inp then { e with dropped := true } else e) }
  else { t with pend := if inp then insertNat t.pend n else t.pend.filter (fun m => m ≠ n) }

/-- Sample every level source for a target. -/
def State.sampleAll (s : State) (t : Target) : Target :=
  levelSources.foldl (fun t n => sampleLevel (s.levelIn n) t n) t

/-- INTC follows the state: level sources are sampled, the lines follow the eligible sources (R404), and vector 0 is sent or left pending at
each assertion of the host line (R389). -/
def State.settle (s : State) : State :=
  if s.intc.running then
    let h := s.sampleAll s.intc.host
    let m := s.sampleAll s.intc.mgmt
    let hl := (s.eligible false h).isSome
    let ml := (s.eligible true m).isSome
    let fire := hl && !s.intc.host.line && s.on F.HIF_STAT_MSIXEN
    { s with intc := { s.intc with
        host := { h with line := hl }
        mgmt := { m with line := ml }
        msixPending := s.intc.msixPending || (fire && s.intc.msixMasked)
        msixSent := s.intc.msixSent + (if fire && !s.intc.msixMasked then 1 else 0) } }
  else s

/-- A command ends: INTC follows, and the machine is in the next state. -/
def fin (s : State) : Res := .next s.settle

/-- The block's own register window has been read by a target: its claims of level sources of that block count as looked at (R408). -/
def sourceBlock (n : Nat) : Nat :=
  if n < 8 then (if n = 1 ∨ n = 2 ∨ n = 5 ∨ n = 7 then 1 else 0)
  else if n < 24 then 2 else if n < 32 then 3 else if n < 40 then 4 else if n < 48 then 5 else if n < 64 then 6
  else if n < 80 then 7 else if n < 96 then 8 else if n < 128 then 9 else if n < 144 then 10 else if n < 160 then 11
  else if n < 176 then 12 else if n < 192 then 13 else if n < 200 then 14 else if n < 216 then 15 else if n < 224 then 16
  else if n < 232 then 17 else if n < 248 then 18 else 19

/-- Mark a target's stack entries whose source's block has been read. -/
def Target.lookAt (t : Target) (blk : Nat) : Target :=
  { t with stack := t.stack.map (fun e => if sourceBlock e.src = blk then { e with looked := true } else e) }

/-- A read of a register window by a requester: 0 PCIe, 1 SPI target, 2 console, 3 to 6 the MGMT cores (R102, R408). -/
def State.lookedAt (s : State) (req blk : Nat) : State :=
  if req < 3 then { s with intc := { s.intc with host := s.intc.host.lookAt blk } }
  else { s with intc := { s.intc with mgmt := s.intc.mgmt.lookAt blk } }

end Sys2Proof.Machine
end

