-- ==== Sys2Proof/Machine/Gate.lean ====
section
/-! DEFINITION. Which commands have an effect when: the start's progress (spec/02 Table 2-6), the availability of waybills (spec/14 R370
to R376), and the common form of an operation that writes configuration (R46, R376). -/
namespace Sys2Proof.Machine

/-! ### Host errors (R13, R376, R377) -/

/-- The value that an open number gives a field: any value of a configuration field's range, any at all of its width for the others; a field that
reads 0 stays 0. -/
def FieldRow.openVal (f : FieldRow) (x : Nat) : Nat :=
  match f.acc with
  | .res | .w1s => 0
  | .rw => f.vmin + x % (f.vmax - f.vmin + 1)
  | _ => x % 2 ^ f.wid

/-- One register of a block whose result is unpredictable takes any value (R377). -/
def State.openReg (s : State) (base : Nat) (r : RegRow) : State :=
  let (x, s) := s.freeNat
  s.wrN base (r.fields.foldl (fun v f => v + f.openVal (x / 2 ^ f.lo) * 2 ^ f.lo) 0) r.words

/-- A result that the spec calls unpredictable in block `blk`: each of its registers takes a free value, and nothing else changes (R376, R377; log
entry 19).  FCOL_FENCEMAP keeps its value: it stops MGMT and other masters, which an unpredictable result never does. -/
def State.blockErr (s : State) (blk : Nat) : State :=
  ((blockRegs blk).filter (fun r => blk * 0x10000 + r.off ≠ F.FCOL_FENCEMAP.addr)).foldl (fun s r => (List.range r.count).foldl (fun s i => s.openReg (blk * 0x10000 + r.off + i * r.stride) r) s) s

/-- A waybill that is a host error in block `blk`: the block's registers take free values and the manifest reports a free final state, status,
progress and results, so that MGMT goes on with later waybills (R377; log entry 19). -/
def State.waybillErr (s : State) (blk : Nat) (h : WbHead) : State :=
  let s := s.blockErr blk
  let (a, s) := s.freeNat
  let (b, s) := s.freeNat
  let (c, s) := s.freeNat
  s.finish h ([ManSt.done, .failed, .aborted].getD (a % 3) .done)
    ([Status.ok, .frame, .crc, .unknown, .blockUnavail, .genConflict, .busy, .notPermitted, .timeout, .dataError, .stopped, .interrupted].getD (a / 3 % 12) .ok)
    (b % 65536) (wordsOf c (b / 65536 % 61))

/-- Start step `k` has completed in this start (Table 2-6). -/
def State.past (s : State) (k : Nat) : Bool :=
  match s.seq.st with
  | .setting | .running => true
  | .starting => k < s.seq.step
  | .safe => k ≤ 3
  | _ => false

/-- The start is complete (R67). -/
def State.up (s : State) : Bool := s.seq.st = .running

/-- An event of hardware that runs once start step `k` has completed; before that it cannot happen and nothing changes (log entry 7). -/
def hwAfter (k : Nat) (s : State) (f : State → State) : Res :=
  if s.past k then fin (f s) else .next s

/-- Blocks that safe configuration leaves unpowered (R384): GNSS, LANE, MTS, PKT, AUTH, CTAB. -/
def unpowered : List Nat := [8, 9, 0x0A, 0x0B, 0x0C, 0x0D]

/-- Register accesses to a block reach it: from the end of step 3, outside the windows that safe configuration leaves unpowered (R384, R387). -/
def State.busUp (s : State) (blk : Nat) : Bool := s.intc.running && !(s.seq.st = .safe && unpowered.contains blk)

/-- A direct write with a row of its own: discarded where the window is unpowered, and counted (R384). -/
def directWrite (blk : Nat) (s : State) (f : State → State) : Res :=
  if s.busUp blk then fin (f s) else if s.intc.running then fin (s.incRaise F.HIF_UNMAPCNT 222) else .next s

/-- Blocks whose waybills run at once (R373). -/
def earlyBlocks : List Nat := [0, 1, 0x0F, 0x10, 0x12]

/-- Blocks whose waybills safe configuration accepts (R71). -/
def safeBlocks : List Nat := [0, 1, 0x10, 0x12]

/-- All four MGMT cores are fenced, so no waybill runs (R430). -/
def State.mgmtFenced (s : State) : Bool :=
  s.bit F.FCOL_FENCEMAP 0 && s.bit F.FCOL_FENCEMAP 1 && s.bit F.FCOL_FENCEMAP 2 && s.bit F.FCOL_FENCEMAP 3

/-! ### Operations by opcode (Table 14-16) -/

/-- The operations of each block, by OP: how many there are, with the gaps of DPLL. -/
def opKnown (w0 : Nat) : Bool :=
  let b := w0 / 2048
  let op := w0 / 64 % 32
  if b = 3 then op < 6 || (8 ≤ op && op < 11)
  else op < [5, 1, 4, 0, 5, 4, 7, 9, 9, 4, 3, 12, 11, 7, 5, 8, 2, 2, 8, 3].getD b 0

/-- Long operations, and those that MGMT_SUSPEND accepts (the index's L and L+S). -/
def suspendable (w0 : Nat) : Bool := [0x20C0, 0x6840, 0x6880, 0x68C0, 0x9180].contains (w0 / 64 * 64)
def isLong (w0 : Nat) : Bool := suspendable w0 || [0x38C0, 0x3980, 0x4040, 0x6100].contains (w0 / 64 * 64)

/-- The head of a taken waybill, and the parameters that its words carry (R359). -/
def Taken.head (t : Taken) : WbHead := ⟨t.ring, t.slot, t.tag, t.w0.toNat % 64⟩
def Taken.params (t : Taken) : List Word := (t.words.drop 3).take (t.words.getD 2 0).toNat

/-! ### Starting a waybill (R369 to R374) -/

/-- MGMT takes waybills: it runs, and fewer than 64 long operations are accepted. -/
def State.mayTake (s : State) : Bool :=
  s.intc.running && !s.mgmtFenced && decide ((s.mgmt.taken.filter (fun t => t.long)).length < 64)

/-- A waybill still holds up later ones of its block: it is not final and not an accepted long operation. -/
def Taken.holds (t : Taken) : Bool := !t.long

/-- The waybills that MGMT took before this one, from any ring. -/
def State.before (s : State) (t : Taken) : List Taken := s.mgmt.taken.takeWhile (fun x => !(x.ring = t.ring && x.slot = t.slot))

/-- An authorised step that was accepted does not make the TBASE_AUTHSTEP of another ring wait: that one is answered at once (R171; log entry 76). -/
def Taken.answers (x t : Taken) : Bool := x.started && x.ring ≠ t.ring && x.w0.toNat / 64 * 64 = 0x3040 && t.w0.toNat / 64 * 64 = 0x3040

/-- The waybill may start: every one for its block that MGMT took before it, from its ring (R370) or another (R371), is final or an accepted long
operation; with FENCE, every earlier one of its ring is final. -/
def State.mayStart (s : State) (t : Taken) : Bool :=
  (s.before t).all (fun x => !(x.holds && x.w0.toNat / 2048 = t.w0.toNat / 2048) || x.answers t) &&
    (t.w0.toNat / 2 % 2 = 0 || (s.before t).all (fun x => x.ring ≠ t.ring))

/-- CRC-16/CCITT over bytes (R361). -/
def crc16Bits : Nat → Nat → Nat
  | 0, c => c
  | k + 1, c => crc16Bits k (if c / 32768 = 1 then (c * 2 % 65536) ^^^ 0x1021 else c * 2)
def crc16 (bs : List Nat) : Nat := bs.foldl (fun c b => crc16Bits 8 (c ^^^ (b * 256))) 0xFFFF

/-- Checks 1 to 4 of Table 14-8 on the words of a waybill: the status of the first that fails. -/
def State.checkWords (s : State) (ws : List Word) : Option Status :=
  let n := (ws.getD 2 0).toNat
  let w0 := (ws.getD 0 0).toNat
  if 60 < n then some .frame
  else if crc16 ((ws.take (3 + n)).flatMap (fun w => [w.toNat % 256, w.toNat / 256])) ≠ (ws.getD (3 + n) 0).toNat then some .crc
  else if !opKnown w0 then some .unknown
  else if s.seq.st = .safe && !safeBlocks.contains (w0 / 2048) then some .blockUnavail
  else none

/-- A waybill fails check 1 to 4: its manifest, the counts of Table 14-13 and the sources 201 and 202. -/
def State.checkFail (s : State) (t : Taken) (e : Status) : State :=
  let s := match e with
    | .frame => (s.inc F.MGMT_FRAMEERR).raise 202
    | .crc => (s.inc F.MGMT_CRCERR).raise 201
    | .unknown => (s.inc F.MGMT_UNKNOWN).raise 202
    | _ => s
  s.failed t.head e

/-- The words of a waybill (R359): operation and flags, tag, count, parameters, CRC. -/
def wbWords (w0 : Nat) (h : WbHead) (ps : List Word) : List Word :=
  let l := [BitVec.ofNat 16 (w0 + h.flags % 64), h.tag, BitVec.ofNat 16 ps.length] ++ ps
  l ++ [BitVec.ofNat 16 (crc16 (l.flatMap (fun w => [w.toNat % 256, w.toNat / 256])))]

/-- What MGMT takes with the row of an operation whose slot holds no taken waybill (log entry 5). -/
def ownTaken (w0 : Nat) (h : WbHead) (ps : List Word) : Taken :=
  { ring := h.ring, slot := h.slot, w0 := BitVec.ofNat 16 (w0 + h.flags % 64), tag := h.tag, words := wbWords w0 h ps }

/-- MGMT takes a waybill. -/
def State.takeOne (s : State) (t : Taken) : State := { s with mgmt := { s.mgmt with taken := s.mgmt.taken ++ [t] } }.bump F.MGMT_TAKEN

/-- A taken waybill spells the operation `w0` with this head and these parameters. -/
def Taken.spells (t : Taken) (w0 : Nat) (h : WbHead) (ps : List Word) : Bool :=
  t.w0.toNat / 64 * 64 = w0 && t.head = h && t.params = ps

/-- A taken waybill begins its operation. -/
def State.markStarted (s : State) (h : WbHead) : State := s.modTaken h.ring h.slot (fun t => { t with started := true })

/-- A waybill that must still wait for what its block is doing has not started. -/
def State.putBack (s : State) (h : WbHead) : State := s.modTaken h.ring h.slot (fun t => { t with started := false })

/-- A taken waybill starts, or waits for step 7: reserved flags are a host error (R360); safe configuration refuses every block but four (R71); while
a block waits for step 7 its waybills wait, and a long operation among them reads QUEUED (R373); otherwise `f` runs. -/
def startOp (w0 : Nat) (long : Bool) (h : WbHead) (s : State) (f : State → State) : Res :=
  let blk := w0 / 2048
  if 8 ≤ h.flags then fin (s.waybillErr blk h)
  else if s.seq.st = .safe && !safeBlocks.contains blk then fin (s.failed h .blockUnavail)
  else if !earlyBlocks.contains blk && !s.past 7 then
    fin (if long && !(s.entryOf h).long then s.acceptLong h w0 .queued else s)
  else fin (f ({ s.markStarted h with fresh := s.fresh + 1 }.lookedAt 3 blk))

/-- The row of an operation: MGMT, which runs waybills from the end of step 3, starts the waybill of this head, words and operation.  Where its slot
holds a taken waybill, that must be this one and must not have started.  Where it holds none, MGMT takes this one with the row.  A waybill that may
not start yet stays taken (R370; log entry 5). -/
def runOp (w0 : Nat) (long : Bool) (h : WbHead) (ps : List Word) (s : State) (f : State → State) : Res :=
  if !s.intc.running || s.mgmtFenced then .next s
  else match s.takenAt h.ring h.slot with
    | some t => if !t.started && t.spells w0 h ps && s.mayStart t then startOp w0 long h s f else .next s
    | none =>
      if !s.mayTake then .next s
      else
        let t := ownTaken w0 h ps
        if s.mayStart t then startOp w0 long h (s.takeOne t) f else fin (s.takeOne t)

/-- The generation check of R46: a unit whose generation differs is left unchanged. -/
def genCheck (g : Field) (given : Nat) (h : WbHead) (s : State) (f : State → State) : State :=
  if s.get g = given then f s else s.failed h .genConflict

/-- A value fits the fields of the register at an address: reserved bits 0 (R13) and each RW field within its stated range. -/
def regOk (a v : Nat) : Bool :=
  match regAt a with
  | none => true
  | some (r, _) => r.fields.all (fun f =>
      let x := v / 2 ^ f.lo % 2 ^ f.wid
      match f.acc with
      | .res => x = 0
      | .rw => f.vmin ≤ x && x ≤ f.vmax
      | _ => true)

/-- A word written directly has no reserved bit set (R13); ranges are not checked (R385). -/
def resOk (a v : Nat) : Bool :=
  match regAt a with
  | none => true
  | some (r, _) => r.fields.all (fun f => f.acc ≠ .res || v / 2 ^ f.lo % 2 ^ f.wid = 0)

/-- A value with the RW fields of `v` and the other bits of `old`. -/
def rwMerge (fields : List FieldRow) (old v : Nat) : Nat :=
  fields.foldl (fun o f => if f.acc = .rw then putBits o f.lo f.wid (v / 2 ^ f.lo) else o) old

/-- Write a register's RW fields, its other fields unchanged. -/
def State.putReg (s : State) (a v : Nat) : State :=
  match regAt a with
  | none => s
  | some (r, _) => s.wrN a (rwMerge r.fields (s.rdN a r.words) v) r.words

/-- The bits of the word at an address that belong to RW fields. -/
def rwMask (a : Nat) : Nat :=
  match regAt a with
  | none => 0
  | some (r, i) => (r.fields.foldl (fun acc f => if f.acc = .rw then acc + (2 ^ f.wid - 1) * 2 ^ f.lo else acc) 0)
      / 2 ^ (8 * (a % 0x10000 - r.off - i * r.stride)) % 65536

/-- Words of the register at an address. -/
def regWords (a : Nat) : Nat :=
  match regAt a with
  | none => 1
  | some (r, _) => r.words

/-- The values that consecutive parameters give a list of registers, from parameter `i`. -/
def cfgValues (s : State) (ps : List Word) : Nat → List Nat → List (Nat × Nat)
  | _, [] => []
  | i, a :: r => (a, paramN s ps i (regWords a)) :: cfgValues s ps (i + regWords a) r

/-- Write a list of registers, if every value fits. -/
def State.putRegs (s : State) (l : List (Nat × Nat)) : State := l.foldl (fun s p => s.putReg p.1 p.2) s

/-- An operation that writes configuration: generation, ranges, the writes, the new generation as word 0.  `post` carries the effects of the
change, from the state before and the state after. -/
def cfgOp (g : Field) (given : Nat) (l : List (Nat × Nat)) (post : State → State → State) (h : WbHead) (s : State) : State :=
  genCheck g given h s fun s =>
    if l.all (fun p => regOk p.1 p.2) then
      let t := post s ((s.putRegs l).bump g)
      t.done h [BitVec.ofNat 16 (t.get g)]
    else s.waybillErr (g.addr / 0x10000) h

/-- No effect beyond the write. -/
def noPost (_ t : State) : State := t

/-! ### Long operations (R364, R378) -/

/-- The taken entry of a long operation says it runs. -/
def State.running (s : State) (h : WbHead) : Bool := (s.takenAt h.ring h.slot).any (fun t => t.long && t.state = .running)

/-- A long operation reaches a point at which it can end or be held: a cancel ends it ABORTED with STOPPED, a suspend writes PARTIAL and
completes MGMT_SUSPEND with 3 (R378).  `stop` releases the engine of an operation that ends. -/
def State.stopPoint (s : State) (h : WbHead) (progress : Nat) (results : List Word) (stop : State → State) : State :=
  match s.takenAt h.ring h.slot with
  | none => s
  | some t =>
    if t.stopReq then stop (s.finish h .aborted .stopped progress results)
    else if t.suspReqs.isEmpty then s
    else
      let s := s.modTaken h.ring h.slot (fun t => { t with suspReqs := [] })
      t.suspReqs.foldl (fun s w => s.done w [3]) (s.advance h .partialSt progress results)

/-- One more item of a long operation is done: it completes after the last, else its header moves on and a stop or suspend takes effect. -/
def State.longStep (s : State) (h : WbHead) (done total : Nat) (results : List Word) (stop : State → State) : State :=
  if total ≤ done then stop (s.finish h .done .ok 0xFFFF results)
  else (s.advance h .running (progressOf done total) results).stopPoint h (progressOf done total) results stop

/-! ### The time value (R164, R165) -/

/-- One ns and one second in units of 2^-48 ns. -/
def NS48 : Nat := 0x1000000000000
def SEC48 : Nat := 1000000000 * NS48

/-- A time of the format of Table 6-1 as a 128-bit number; the 16 bits below FRAC are truncated. -/
def time128 (t : Nat) : Nat :=
  (t / SEC48) % 2 ^ 64 * 2 ^ 64 + (t % SEC48) / NS48 * 2 ^ 32 + t % NS48 / 2 ^ 16

/-- A 128-bit number of the format of Table 6-1 as a time. -/
def ofTime128 (v : Nat) : Nat := v / 2 ^ 64 * SEC48 + v / 2 ^ 32 % 2 ^ 32 * NS48 + v % 2 ^ 32 * 2 ^ 16

/-- The eight words of a time. -/
def timeWords (t : Nat) : List Word := wordsOf (time128 t) 8

/-- TBASE time now. -/
def State.now (s : State) : Nat := s.tb.time

/-- A number as one result word. -/
def w16 (n : Nat) : Word := BitVec.ofNat 16 n

/-! ### Reads through a latch (R102, R173) -/

def State.setHif (s : State) (h : Hif) : State := { s with hif := h }

/-- A requester's latch in a block holds a word (R102). -/
def State.latched (s : State) (req a : Nat) : Option Word :=
  match s.hif.latches.find? (fun l => l.req = req ∧ l.blk = blockOf a) with
  | none => none
  | some l => (l.words.find? (fun p => p.1 = a)).map Prod.snd

/-- The words that are latched with the register at `a` (R102, R291, R356): LASTST with LASTTX; the components and SEQ with EBND_COMMON. -/
def companions (a : Nat) : List Nat :=
  if 0x0B0100 ≤ a ∧ a < 0x0B0200 ∧ a % 0x20 = 8 then [a + 16]
  else if a = F.EBND_COMMON.addr then F.EBND_SEQ.addr :: (List.range 18).map (fun k => (F.EBND_COMP 0).addr + 2 * k)
  else []

/-- The least significant word of a register of `n` words is read: the requester's latch of the block holds the others, and what goes with them. -/
def State.loadLatch (s : State) (v : State) (req a n : Nat) : State :=
  let l : Latch := ⟨req, blockOf a, (((List.range (n - 1)).map (fun k => a + 2 * (k + 1))) ++ companions a).map (fun b => (b, v.rd b))⟩
  s.setHif { s.hif with latches := l :: s.hif.latches.filter (fun x => ¬ (x.req = req ∧ x.blk = blockOf a)) }

/-- The words of TBASE_TIME, TSETLAT and TIMESC at this tick (R173). -/
def State.timeGroup (s : State) : List Word := timeWords s.now ++ [w16 (s.get F.TBASE_STAT % 2), s.rd F.TBASE_STEPCNT.addr]

/-- A requester reads the first word of TBASE_TIME: its own latch of the time holds the group (R173). -/
def State.loadTime (s : State) (req : Nat) : State :=
  s.setHif { s.hif with timeLatch := Machine.insertKey s.hif.timeLatch req s.timeGroup }

/-- A waybill reads a word through the MGMT core that runs it, requester 3 (R102; log entry 71). -/
def State.mgmtWord (s : State) (a : Nat) : State × Word :=
  let s := s.lookedAt 3 (blockOf a)
  match s.latched 3 a, regAt a with
  | some w, _ => (s, w)
  | none, some (r, i) => (if a = blockOf a * 0x10000 + r.off + i * r.stride ∧ 1 < r.words then s.loadLatch s 3 a r.words else s, s.rd a)
  | none, none => (s, s.rd a)

/-- A waybill reads `n` words in ascending order. -/
def State.mgmtRead (s : State) (a : Nat) : Nat → State × List Word
  | 0 => (s, [])
  | n + 1 =>
    let x := s.mgmtWord a
    let y := x.1.mgmtRead (a + 2) n
    (y.1, x.2 :: y.2)

/-- A waybill reads runs of words one after another. -/
def State.mgmtReads (s : State) : List (Nat × Nat) → State × List Word
  | [] => (s, [])
  | p :: l =>
    let x := s.mgmtRead p.1 p.2
    let y := x.1.mgmtReads l
    (y.1, x.2 ++ y.2)

/-- A waybill ends with the words of runs of registers as its results, after the words `pre`. -/
def State.doneRd (s : State) (h : WbHead) (l : List (Nat × Nat)) (pre : List Word := []) : State :=
  let x := s.mgmtReads l
  x.1.done h (pre ++ x.2)

/-- The run of words of a field's register. -/
def Field.run (f : Field) : Nat × Nat := (f.addr, f.words)

/-- The words of a field, as read. -/
def State.fw (s : State) (f : Field) : List Word := s.rdWords f.addr f.words

/-- A signed number as one result word, saturating. -/
def wI (v : Int) : Word := BitVec.ofNat 16 (ofSigned 16 (satSigned 16 v))

/-- The square root of a number below 2^256, rounded down, found bit by bit. -/
def isqrtGo (v : Nat) : Nat → Nat → Nat
  | 0, r => r
  | k + 1, r => isqrtGo v k (if (r + 2 ^ k) * (r + 2 ^ k) ≤ v then r + 2 ^ k else r)

def isqrt (v : Nat) : Nat := isqrtGo v 128 0

/-- Division rounded up. -/
def ceilDiv (a b : Nat) : Nat := (a + b - 1) / b

/-- The words of a list of fields, RC fields among them cleared as they are read. -/
def State.report (s : State) : List (Field × Bool) → List Word × State
  | [] => ([], s)
  | (f, rc) :: r =>
    let y := s.mgmtRead f.addr f.words
    let x := (if rc then y.1.set f 0 else y.1).report r
    (y.2 ++ x.1, x.2)

/-- The reports of `n` group members from `a`, in order. -/
def State.reportRange (s : State) (l : Nat → List (Field × Bool)) (a n : Nat) : List Word × State :=
  s.report ((List.range n).flatMap (fun i => l (a + i)))

end Sys2Proof.Machine
end

