-- ==== Sys2Proof/Machine/TbaseOps.lean ====
section
/-! DEFINITION. The shared operations of TBASE (spec/06) and of its beacons (spec/01 R23 to R28). -/
namespace Sys2Proof.Machine

/-! ### The time value (R164, R165) -/

/-- Whole seconds of TBASE time. -/
def State.secNow (s : State) : Nat := s.tb.time / SEC48

/-- The increment in force (R166). -/
def State.incr (s : State) : Nat := s.get F.TBASE_INCR

/-- The increment's constant of R111: 1.6 ns. -/
def INCR0 : Nat := 0x0199999999999A

/-- Phases in ps as signed steps of 2^-16 ns, rounded to nearest (TBASE_HELD). -/
def psToHeld (ps : Int) : Int := (ps * 65536 * 2 + 1000) / 2000

/-- A jump of the time by a signed amount. -/
def jump (t : Nat) (d : Int) : Nat := ((t : Int) + d).toNat

def State.setTb (s : State) (t : Tbase) : State := { s with tb := t }

/-! ### Leap seconds (R175) -/

/-- Apply a pending leap once SECONDS has reached or passed LEAPSEC. -/
def State.leapCheck (s : State) : State :=
  let p := s.get F.TBASE_LEAP
  if p ≠ 0 ∧ s.get F.TBASE_LEAPSEC ≤ s.secNow then
    let u := s.get F.TBASE_UTCOFF
    let s := s.set F.TBASE_UTCOFF (if p = 1 then u + 1 else u + 65535)
    ((s.set F.TBASE_LEAP 0).bump F.TBASE_GEN).raise 51
  else s

/-! ### Counting (R165) -/

/-- One TCORE tick: the increment is added. -/
def State.tick (s : State) : State :=
  if s.tb.counting then
    ({ s with tb := { s.tb with time := (s.tb.time + s.incr) % (SEC48 * 2 ^ 64), ticks := s.tb.ticks + 1 } }).leapCheck
  else s

/-! ### Beacons (R23 to R27) -/

/-- An island's clock period in units of 1/20 ns (Table 1-2): NET, CRYPT, MEM, CTRL, HOST. -/
def islandPeriod (i : Nat) : Nat := [20, 20, 25, 25, 40].getD i 20

/-- The local rate word: the increment scaled to the island's clock period, rounded down to 2^-48 ns (log entry 67). -/
def rateWord (incr i : Nat) : Nat := incr * islandPeriod i / 32

/-- The nominal cost of the crossing from TCORE (R20): two cycles of each clock. -/
def crossCost (i : Nat) : Nat := (2 * 32 + 2 * islandPeriod i) * NS48 / 20

/-- An island's local time after `k` cycles: half rate until the projection catches up (R25). -/
def Island.localAt (x : Island) (k : Nat) : Nat := max (x.base + k * x.rate / 2) (x.proj + k * x.rate)

/-- Cycles of island `i` since its last load, counted at its nominal clock, when TBASE has counted `ticks`. -/
def Island.since (x : Island) (i ticks : Nat) : Nat := (ticks - x.tick0) * 32 / islandPeriod i

/-- The local time of island `i` when TBASE has counted `ticks`. -/
def Island.local (x : Island) (i ticks : Nat) : Nat := x.localAt (x.since i ticks)

/-- What a change of `d` makes of a beacon in flight: one sent before T_s carries a time before the change (R26). -/
def Beacon.moved (b : Beacon) (d : Int) : Beacon := if b.after then { b with after := false } else { b with time := jump b.time d }

/-- The island applies an announced change of `d` (R26), to a beacon in flight as well. -/
def Island.apply (x : Island) (i ticks : Nat) (d : Int) : Island :=
  { x with base := jump (x.local i ticks) d, proj := jump (x.proj + x.since i ticks * x.rate) d, cycles := 0, tick0 := ticks, step := none, made := false,
           flight := x.flight.map (fun b => b.moved d) }

/-- The island's time when a beacon arrives `k` cycles after the last; one from after T_s brings the announced change with it (R26). -/
def Island.beforeLoad (x : Island) (k : Nat) (b : Beacon) : Nat :=
  match x.step with
  | some (d, _) => if b.after then jump (x.localAt k) d else x.localAt k
  | none => x.localAt k

/-- The island loads a beacon that arrives `k` cycles after the last, TBASE having counted `ticks` (R24, R25): it never steps back. -/
def Island.load (x : Island) (i k ticks : Nat) : Island :=
  match x.flight with
  | none => { x with cycles := k }
  | some b =>
    let p := b.time + crossCost i
    { x with base := max (x.beforeLoad k b) p, proj := p, rate := b.rate, cycles := 0, flight := none, tick0 := ticks, lost := false,
             step := if b.after then none else x.step, made := x.made && !b.after }

/-- TBASE sends an island the time `t` and a rate word (R23). -/
def Island.send (x : Island) (t r : Nat) : Island := { x with flight := some ⟨t, r, x.made⟩ }

def State.setIslands (s : State) (l : List Island) : State := { s with tb := { s.tb with islands := l } }

/-- Announce a step or load to every beacon-fed island (R26). -/
def State.announce (s : State) (d : Int) (ts : Nat) : State :=
  s.setIslands (s.tb.islands.map (fun x => { x with step := some (d, ts), made := false }))

/-- TBASE makes what it announced: a beacon it sends from now on carries the new time (R26). -/
def State.announceMade (s : State) : State := s.setIslands (s.tb.islands.map (fun x => { x with made := x.step.isSome }))

/-- An announcement is withdrawn. -/
def State.announceOff (s : State) : State := s.setIslands (s.tb.islands.map (fun x => { x with step := none, made := false }))

/-- T_s at the earliest: 64 ticks from now. -/
def State.tsFrom (s : State) (t : Nat) : Nat := t + 64 * s.incr

/-! ### Event outputs (R183 to R185) -/

/-- The time of the entry's next edge. -/
def EvtEntry.next (e : EvtEntry) : Nat := e.start + e.k * e.period * 2 ^ 32

/-- Every pulse of a counted entry has been made or counted. -/
def EvtEntry.spent (e : EvtEntry) : Bool := !e.cont && e.count ≤ e.k

/-- Edges of the entry from its next one that lie before `lim`. -/
def EvtEntry.before (e : EvtEntry) (lim : Nat) : Nat :=
  let p := e.period * 2 ^ 32
  let n := if e.next < lim then (if p = 0 then 1 else (lim - e.next + p - 1) / p) else 0
  if e.cont then n else min n (e.count - e.k)

def State.evt (s : State) (n : Nat) : Evt := at' {} s.tb.evts n
def State.setEvt (s : State) (n : Nat) (e : Evt) : State :=
  { s with tb := { s.tb with evts := modAt s.tb.evts n (fun _ => e) } }

/-- Add to a saturating counter. -/
def State.addSat (s : State) (f : Field) (n : Nat) : State := s.setSat f (s.get f + n)

/-- The running entry has moved: it completes if it is over, with source 54 where DONEIRQ asks (R184). -/
def State.evtDone (s : State) (n : Nat) (e : EvtEntry) : State :=
  let v := s.evt n
  if e.spent then (s.setEvt n { v with cur := none }).raiseIf (s.on (F.TBASE_EVT_CFG_DONEIRQ n)) 54
  else s.setEvt n { v with cur := some e }

/-- The next queued entry arms: its late edges count and are not emitted (R184). -/
def State.evtArm (s : State) (n : Nat) : State :=
  let v := s.evt n
  match v.cur, v.queue with
  | none, e :: q =>
    let s := s.setEvt n { v with queue := q }
    let late := e.before (s.now + 8 * s.incr)
    let s := (s.addSat (F.TBASE_EVT_LATECNT n) late).raiseIf (late ≠ 0) 52
    s.evtDone n { e with k := e.k + late }
  | _, _ => s

/-- An edge of the running entry: the pin pulses for its width, where it drives. -/
def State.evtEdge (s : State) (n : Nat) : State :=
  let v := s.evt n
  match v.cur with
  | some e =>
    let s := s.setEvt n { v with highFrom := e.next, highUntil := some (e.next + e.width * NS48) }
    s.evtDone n { e with k := e.k + 1, emitted := e.emitted + 1 }
  | none => s

/-- An authorised step moves entries of channel `n`'s schedule (R185), which is a change of TBASE's state (R44). -/
def State.evtMoves (s : State) (n : Nat) : Bool :=
  s.on (F.TBASE_EVT_CFG_STEPPOL n) && ((s.evt n).cur.isSome || !(s.evt n).queue.isEmpty)

/-- A channel across an authorised step of `d` (R185). -/
def State.evtStep (d : Int) (s : State) (n : Nat) : State :=
  let v := s.evt n
  let v := { v with highFrom := jump v.highFrom d, highUntil := v.highUntil.map (fun t => jump t d) }
  if s.on (F.TBASE_EVT_CFG_STEPPOL n) then
    let mv := fun e : EvtEntry => { e with start := jump e.start d }
    s.setEvt n { v with cur := v.cur.map mv, queue := v.queue.map mv }
  else match v.cur with
    | some e =>
      let s := s.setEvt n v
      let skip := if 0 < d then e.before (s.now + 1) else 0
      let s := (s.addSat (F.TBASE_EVT_SKIPCNT n) skip).raiseIf (skip ≠ 0) 53
      if skip = 0 then s else s.evtDone n { e with k := e.k + skip }
    | none => s.setEvt n v

/-! ### PPS_OUT (R177, R178) -/

/-- The whole second plus TBASE_PPS_OFFSET that lies nearest to now. -/
def State.ppsTarget (s : State) : Nat :=
  let off := s.getI F.TBASE_PPS_OFFSET * NS48 / 1000
  jump (jump (s.now + SEC48 / 2) (-off) / SEC48 * SEC48) off

/-- Counting crosses a boundary: the pin pulses for PPS_WIDTH and source 48 is raised; less than 500 ms after the previous edge it is suppressed and
counted.  500 ms are 312,500,000 nominal ticks. -/
def State.ppsEdge (s : State) : State :=
  let p := s.tb.pps
  if p.last.any (fun k => s.tb.ticks < k + 312500000) then s.inc F.TBASE_PPS_SUPCNT
  else
    let t := s.ppsTarget
    (s.setTb { s.tb with pps := ⟨some s.tb.ticks, t, t + s.get F.TBASE_PPS_WIDTH * 1000 * NS48⟩ }).raise 48

/-- A jump of the time by `d` leaves the pulse its elapsed width. -/
def Pps.moved (p : Pps) (d : Int) : Pps := { p with highFrom := jump p.highFrom d, highUntil := jump p.highUntil d }

/-! ### Interpolators (R193, R196, R197) -/

/-- The hits on each code of an interpolator. -/
def State.hitsOf (s : State) (i : Nat) : List Nat := at' [] s.tic.hits i

/-- p(c) in units of 2^-32 of a tick: (Σ_{j<c} h_j + h_c ÷ 2) ÷ 2^22. -/
def posOf (hits : List Nat) (c : Nat) : Nat := (2 * (hits.take c).foldl (· + ·) 0 + hits.getD c 0) * 512

/-- The interpolator in service for an index of R196. -/
def State.serving (s : State) (idx : Nat) : Nat := s.get F.TIC_CALSTAT_SET * 32 + idx

/-- The stamp of an edge that the interpolator of index `idx` samples with code `c` at a tick whose time after its addition is `t`, in units of
2^-`k` ns, rounded to nearest (R193; log entry 70 for the stampers of RMON and CAP_IN). -/
def State.edgeAt (s : State) (k idx t c : Nat) : Nat :=
  (t * 2 ^ 32 - posOf (s.hitsOf (s.serving idx)) c * s.incr + 2 ^ (79 - k)) / 2 ^ (80 - k)

/-! ### Captures (R186, R187) -/

def State.cap (s : State) (n : Nat) : Cap := at' {} s.tb.caps n
def State.setCap (s : State) (n : Nat) (c : Cap) : State :=
  { s with tb := { s.tb with caps := modAt s.tb.caps n (fun _ => c) } }

/-- CAP_IN `n`'s EDGE field selects an edge. -/
def State.capSelects (s : State) (n : Nat) (rise : Bool) : Bool :=
  s.bit (F.TBASE_CAP_CFG_EDGE n) (if rise then 0 else 1)

/-- 6.4 ns in units of 2^-32 ns. -/
def capDead : Nat := 64 * 2 ^ 32 / 10

/-- A mode 1 TBASE_SETTIME that waits for this edge takes its stamp; the load follows 64 ticks later (R169). -/
def State.loadEdge (s : State) (n : Nat) (rise : Bool) (t : Nat) : State :=
  match s.tb.load with
  | some l =>
    if l.mode = 1 ∧ l.edge = none ∧ l.cap = n ∧ rise then
      let e := t * 2 ^ 16
      let ts := s.tsFrom e
      ({ s with tb := { s.tb with load := some { l with edge := some e, ts := some ts } } }).announce ((l.goal : Int) - e) ts
    else s
  | none => s

/-- An edge on CAP_INn with stamp `t` (2^-32 ns): stamped, or dropped and counted (R186). -/
def State.capEdge (s : State) (n : Nat) (rise : Bool) (t : Nat) : State :=
  let c := s.cap n
  if !s.capSelects n rise then s
  else if c.last.any (fun l => l ≤ t ∧ t < l + capDead) then
    (s.inc (F.TBASE_CAP_DEADCNT n)).raise 57
  else
    let s := s.loadEdge n rise t
    if c.fifo.length ≥ 256 then
      ((s.inc (F.TBASE_CAP_OVFCNT n)).setCap n { c with last := some t, ovf := true }).raise 57
    else
      let st : CapStamp := ⟨t, rise, c.ovf, s.on F.TBASE_STAT_TIMESET, s.get F.TBASE_STEPCNT % 256⟩
      s.setCap n { fifo := c.fifo ++ [st], last := some t, ovf := false }

/-- The POP word of a stamp (R187). -/
def CapStamp.pop (c : CapStamp) : Nat :=
  1 + (if c.rise then 2 else 0) + (if c.ovf then 4 else 0) + (if c.tset then 8 else 0) + c.step * 256

/-- A pop of CAP_INn: the oldest stamp leaves the FIFO and is latched into CAPn_STAMP; the POP word read. -/
def State.capPop (s : State) (n : Nat) : State × Word :=
  let c := s.cap n
  match c.fifo with
  | [] => (s.set (F.TBASE_CAP_STAMP n) 0, 0)
  | x :: r => ((s.setCap n { c with fifo := r }).set (F.TBASE_CAP_STAMP n) (time128 (x.time * 2 ^ 16)), w16 x.pop)

/-! ### Setting time (R168, R169) -/

/-- A GNSS solution or host request asks for a load against an edge stamped `e`, which marks the time `goal`. -/
def State.requestLoad (s : State) (l : Load) : State :=
  let s := { s with tb := { s.tb with load := some l } }
  match l.ts, l.edge with
  | some ts, some e => s.announce ((l.goal : Int) - e) ts
  | some ts, none => s.announce ((l.goal : Int) - ts) ts
  | none, _ => s

/-- The start completes: time is set and step 7 is done (R67); source 6 is raised. -/
def State.startComplete (s : State) : State :=
  if s.seq.st = .setting && s.on F.TBASE_STAT_TIMESET then
    let warm := s.seq.kind = some StartKind.warm
    let s := { s with seq := { s.seq with st := .running } }
    let s := ((s.set F.SEQ_STARTINFO_KIND (if warm then 1 else 0)).set F.SEQ_STARTINFO_REASON s.seq.reason).set F.SEQ_STARTINFO_CAUSE s.seq.cause
    ((s.raise 6).domainsUp).ledgerCount (if warm then 1 else 0)
  else s

/-! ### CLKOUT (R179 to R181) -/

/-- The first TAI second plus CLKn_OFFSET after now (R180). -/
def State.clkNext (s : State) (n : Nat) : Nat :=
  let off := s.getI (F.TBASE_CLK_OFFSET n) * NS48 / 1000
  jump (jump s.now (-off) / SEC48 * SEC48 + SEC48) off

/-- CLKOUTn waits for its restart (R180). -/
def State.clkWaits (s : State) (n : Nat) : Bool := s.on (F.TBASE_CLK_CFG_ALIGN n) && (at' none s.tb.realign n).any (fun t => s.now < t)

/-- CLKOUTn realigns: it restarts at the next second plus OFFSET. -/
def State.realign (s : State) (n : Nat) : State := s.setTb { s.tb with realign := modAt s.tb.realign n (fun _ => some (s.clkNext n)) }

/-- Every enabled and aligned CLKOUT waits to restart at the next second plus OFFSET. -/
def State.realignAll (s : State) : State :=
  s.setTb { s.tb with realign := (List.range 4).map (fun n =>
    if s.on (F.TBASE_CLK_CFG_ALIGN n) && s.on (F.TBASE_CLK_CFG_EN n) then some (s.clkNext n) else none) }

/-- The synthesis clock in units of 2^-48 × 156.25 MHz ÷ POSTDIV. -/
def State.synthN (s : State) : Nat := s.get (F.APLL_PLL_NINT 2) * 2 ^ 48 + s.get (F.APLL_PLL_NFRAC 2)

/-- A phase error of `ps` is larger than one interpolator step, 1/64 of the synthesis period (R179, R180). -/
def State.overStep (s : State) (ps : Int) : Bool :=
  64 * ps.natAbs * s.synthN * 15625 > 100000000 * s.get (F.APLL_PLL_POSTDIV 2) * 2 ^ 48

/-- The once-per-second measurement of a CLKOUT's edge nearest the second plus OFFSET (R180). -/
def State.clkCheck (s : State) (n : Nat) (ps : Int) : State :=
  let s := s.setTb { s.tb with realign := modAt s.tb.realign n (fun _ => none) }
  let s := s.setI (F.TBASE_CLK_PHERR n) ps
  let bad := decide (s.get (F.TBASE_CLK_ALIGNTOL n) < ps.natAbs)
  let s := s.setB (F.TBASE_CLK_STAT_ALIGNED n) (!bad)
  let s := if s.overStep ps then
      { s with tb := { s.tb with interp := modAt s.tb.interp n (fun i => if 0 < ps then i - 1 else i + 1) } }
    else s
  if bad then
    let s := (s.raiseIf (!s.on (F.TBASE_CLK_STAT_ALIGNFLT n)) 55).setB (F.TBASE_CLK_STAT_ALIGNFLT n) true
    (s.fault 6 2 n).realign n
  else s

end Sys2Proof.Machine
end

