-- ==== Sys2Proof/Machine/RmonOps.lean ====
section
/-! DEFINITION. The shared operations of RMON and of the selector (spec/03). -/
namespace Sys2Proof.Machine

def State.ref (s : State) (n : Nat) : Ref := at' {} s.refs n
def State.setRef (s : State) (n : Nat) (r : Ref) : State := { s with refs := modAt s.refs n (fun _ => r) }
def State.modRef (s : State) (n : Nat) (f : Ref → Ref) : State := { s with refs := modAt s.refs n f }

/-- The qualification state of a reference (Table 3-2). -/
def State.qual (s : State) (n : Nat) : Nat := s.get (F.RMON_REF_STATE_STATE n)

/-- The selected reference; 15 in holdover. -/
def State.active (s : State) : Nat := s.get F.DPLL_SELSTAT_ACTIVE

/-! ### The ensemble as RMON sees it (R83; HOLD keeps it) -/

def State.scale (s : State) (j : Nat) : Scale := at' {} s.hold.scales j

/-- E_{-n} in ps: ensemble time without reference `n`, minus TBASE time. -/
def State.witness (s : State) (n : Nat) : Int := (s.scale n).e / 1000000000000

/-- A reference's weight goes to zero at once (R84). -/
def State.weightZero (s : State) (n : Nat) : State :=
  let s := { s with hold := { s.hold with weights := s.hold.weights.filter (fun p => p.1 ≠ n) } }
  (List.range 6).foldl (fun s i => if s.get (F.HOLD_MEMBER_CFG_SRC (i + 2)) = n then s.set (F.HOLD_MEMBER_WEIGHT (i + 2)) 0 else s) s

/-! ### State changes (Table 3-2) -/

/-- The prescaler's divisor: the smallest D for which FNOM ÷ D is 1 MHz or less (R80). -/
def State.prescale (s : State) (n : Nat) : Nat := max 1 (ceilDiv (s.get (F.RMON_REF_FNOM n)) 1000000)

/-- The activity window in ps: 2.5 nominal periods or 100 ns, whichever is longer (R80). -/
def State.actWindow (s : State) (n : Nat) : Nat := max (2500000000000 / max 1 (s.get (F.RMON_REF_FNOM n))) 100000

/-- The count at which the prescaler stands after the last edge when it is aligned to the second plus DELAY (R81). -/
def State.alignCount (s : State) (n : Nat) (t : Nat) : Nat :=
  let f := s.get (F.RMON_REF_FNOM n)
  let x := ((t : Int) - s.getI (F.RMON_REF_DELAY n)) % 1000000000000
  ((x * f + 500000000000) / 1000000000000).toNat % s.prescale n

/-- The TBASE second that alignment counts from, ps. -/
def State.alignSecond (s : State) (n : Nat) (t : Nat) : Nat :=
  (((t : Int) - s.getI (F.RMON_REF_DELAY n)) / 1000000000000 * 1000000000000).toNat

/-- The drift term of R92 in ps, rounded up: |offset| + |slope| × 1000 s. -/
def State.driftTerm (s : State) (n : Nat) : Nat :=
  (s.getI (F.RMON_REF_OFFSET n)).natAbs + (s.getI (F.RMON_REF_SLOPE n)).natAbs

/-- The reference's offset moves by `d` ps with its definition, not with its phase: what it shows and its window move with it, so that neither a
frequency nor a slope sees a jump (R87, R91). -/
def Ref.shiftOff (r : Ref) (d : Int) : Ref := { r with win := r.win.map (· + d), secSum := r.secSum + r.secCnt * d }

/-- A reference enters QUALIFYING: its timer starts; the offset of a frequency-only one starts from zero, and the prescaler of the others is aligned
to the second (R81).  `f` is the present phase against the witness. -/
def Ref.enterQual (r : Ref) (phaseMode : Bool) (f : Option Int) (count second : Nat) : Ref :=
  let r := { r with timer := 0 }
  if phaseMode then { r with base := some 0, divCnt := if r.lastEdge.isSome then count else 0, anchor := second }
  else match f, r.base with
    | some p, some b => { r.shiftOff (b - p) with base := some p }
    | _, _ => { r with base := f }

/-- The phase of a reference against its witness without the base of a frequency-only one: E_{-n} and the learned offset, or DELAY where none has been
learned (R83). -/
def State.refPhase (s : State) (n : Nat) : Option Int :=
  let r := s.ref n
  let d := s.getI (F.RMON_REF_DELAY n)
  r.meas.map (fun p => p + s.witness n + (if s.on (F.RMON_REF_CFG_PHASEMODE n) then d - r.learned.getD d else 0))

/-- A reference enters a qualification state: maps, generation, interrupt and the state's own effects.  `loss` marks an entry to NOSIG caused
by loss of activity. -/
def State.refTo (s : State) (n st : Nat) (loss : Bool := false) : State :=
  let old := s.qual n
  if old = st then s else
  let sel := decide (s.active = n)
  let s := ((s.set (F.RMON_REF_STATE_STATE n) st).bump (F.RMON_REF_GEN n)).raise (8 + n)
  let s := ((s.setBit F.RMON_QUALMAP n (st = 3)).setBit F.RMON_DRIFTMAP n (st = 4)).setBit F.RMON_REJMAP n (st = 5)
  let s := if old = 3 then (s.weightZero n).modRef n (fun r => { r with qualSecs := 0 }) else s
  let s := if old = 4 ∧ (st = 3 ∨ !sel) then s.modRef n (fun r => { r with drift := none }) else s
  let s := if st ≤ 1 then
      ((s.modRef n (fun r => { r with win := [], secSum := 0, secCnt := 0, timer := 0 })).setB (F.RMON_REF_STATE_SLOPEVALID n) false).setB
        (F.RMON_REF_STATE_FWOK n) false
    else s
  let s := if st = 2 then
      let t := (s.ref n).lastEdge.getD 0
      let pm := s.on (F.RMON_REF_CFG_PHASEMODE n)
      let s := s.modRef n (fun r => r.enterQual pm (s.refPhase n) (s.alignCount n t) (s.alignSecond n t))
      (if pm then s else s.setI (F.RMON_REF_OFFSET n) 0).setB (F.RMON_REF_STATE_FWOK n) true
    else s.set (F.RMON_REF_QREMAIN n) 0
  let s := if st = 4 then
      let d := s.driftTerm n
      let s := (s.raise 20).modRef n (fun r => { r with drift := some d })
      if sel then s.fault 2 2 else s
    else s
  let s := if st = 5 then
      let s := s.inc (F.RMON_REF_REJCNT n)
      if sel then s.fault 2 1 n else s
    else s
  if st = 1 ∧ loss then
    let s := s.inc (F.RMON_REF_LOSCNT n)
    if sel then (s.raise 21).fault 2 3 else s
  else s

/-! ### Measurements (R80, R81, R87) -/

/-- A number brought to the half-open range around 0 of a modulus. -/
def centre (x m : Int) : Int := let y := x % m; if 2 * y ≥ m then y - m else y

/-- A measured phase joins the reference's millisecond (R87). -/
def State.refMeas (s : State) (n : Nat) (ps : Int) : State :=
  s.modRef n (fun r => { r with sum := r.sum + ps, cnt := r.cnt + 1, last := some ps })

/-- Activity returns or is present. -/
def State.setAct (s : State) (n : Nat) (b : Bool) : State := (s.setB (F.RMON_REF_STATE_ACT n) b).setBit F.RMON_ACTMAP n b

/-- A confirmed offset of REF8 to REF11 against TBASE, before DELAY. -/
def State.refOffset (s : State) (n : Nat) (ps : Int) : State :=
  if s.on (F.RMON_REF_CFG_ENABLE n) then (s.setAct n true).refMeas n (ps - s.getI (F.RMON_REF_DELAY n)) else s

/-- The reference loses activity and goes to NOSIG (R80, Table 3-2). -/
def State.actLost (s : State) (n : Nat) : State :=
  let s := (s.setAct n false).modRef n (fun r => { r with run := 0 })
  if 2 ≤ s.qual n then s.refTo n 1 true else s

/-- The phase of a stamped edge at `t` ps: its distance from its expected time (R109), which for an aligned reference lies whole prescaled periods from
the second of its alignment (R81); unwrapped for a frequency-only reference. -/
def State.edgePhase (s : State) (n t : Nat) : Int :=
  let f : Int := max 1 (s.get (F.RMON_REF_FNOM n))
  let m : Int := s.prescale n * 1000000000000
  let x := ((t : Int) - s.getI (F.RMON_REF_DELAY n) - (s.ref n).anchor) * f
  if s.on (F.RMON_REF_CFG_PHASEMODE n) then centre x m / f
  else match (s.ref n).meas with
    | none => centre x m / f
    | some p => p + centre (x - p * f) m / f

/-- An edge on REF_INn at TBASE time `t` ps: activity, prescaler and stamper (R80). -/
def State.refEdge (s : State) (n t : Nat) : State :=
  let r := s.ref n
  let long := match r.lastEdge with
    | none => true
    | some l => decide (s.actWindow n < t - l)
  let run := if long then 1 else min 4 (r.run + 1)
  let d := s.prescale n
  let c := r.divCnt + 1
  let s := s.setRef n { r with lastEdge := some t, run := run, divCnt := if d ≤ c then 0 else c }
  let s := if run = 4 then s.setAct n true else s
  if d ≤ c then s.refMeas n (s.edgePhase n t) else s

/-! ### The 1 ms update (R87, R90) -/

/-- The reference qualifies. -/
def State.qualify (s : State) (n : Nat) : State := s.refTo n 3

/-- The mean of the millisecond becomes the latest measurement (R87, R109). -/
def State.refMean (s : State) (n : Nat) : State :=
  s.modRef n (fun r =>
    if r.cnt = 0 then { r with fresh := false }
    else { r with meas := some (r.sum / r.cnt), fresh := true, sum := 0, cnt := 0, freshSec := r.freshSec + 1 })

/-- REF_OFFSET of the latest measurement against the witness (R83), and its part in the second's mean (R91). -/
def State.refOff (s : State) (n : Nat) : State :=
  match s.refPhase n with
  | none => s
  | some p =>
    let b := (s.ref n).base.getD (if s.on (F.RMON_REF_CFG_PHASEMODE n) then 0 else p)
    let o := p - b
    (s.setI (F.RMON_REF_OFFSET n) o).modRef n (fun r => { r with base := some b, secSum := r.secSum + o, secCnt := r.secCnt + 1 })

/-- The slope asks for DRIFTING: monitored, valid and above SLOPELIM (Table 3-2). -/
def State.slopeHigh (s : State) (n : Nat) : Bool :=
  s.on (F.RMON_REF_STATE_SLOPEVALID n) && s.on (F.RMON_REF_CFG_SLOPEEN n) &&
    decide (s.get (F.RMON_REF_SLOPELIM n) * 1000 < (s.getI (F.RMON_REF_SLOPE n)).natAbs)

/-- The slope lets DRIFTING go: at most SLOPELIM ÷ 2. -/
def State.slopeLow (s : State) (n : Nat) : Bool := decide (2 * (s.getI (F.RMON_REF_SLOPE n)).natAbs ≤ s.get (F.RMON_REF_SLOPELIM n) * 1000)

/-- The transitions of Table 3-2 that need a phase or the window, in a state above NOSIG.  While the phase part of the witness is not valid, activity
and the window alone judge, and what the offset or the slope decided stands (R85, R86). -/
def State.refJudge (s : State) (n : Nat) : State :=
  let st := s.qual n
  let o := (s.getI (F.RMON_REF_OFFSET n)).natAbs
  let pv := s.on F.RMON_WITNESS_PVALID
  let fw := s.on (F.RMON_REF_STATE_FWOK n)
  let has := (s.ref n).meas.isSome
  let inAcc := has && decide (o < s.get (F.RMON_REF_ACCEPT n))
  let overRej := has && decide (s.get (F.RMON_REF_REJECT n) < o)
  let need := s.get (F.RMON_REF_QUALTIME n) * 1000
  if st = 2 then
    if !fw then (s.modRef n (fun r => { r with rejOff := false })).refTo n 5
    else if pv && !has then s
    else if pv && !inAcc then s.modRef n (fun r => { r with timer := 0 })
    else
      let s := s.modRef n (fun r => { r with timer := min need (r.timer + 1) })
      if pv && need ≤ (s.ref n).timer then s.qualify n else s
  else if st = 3 ∨ st = 4 then
    if !fw || (pv && overRej) then (s.modRef n (fun r => { r with rejOff := fw })).refTo n 5
    else if pv && st = 3 && s.slopeHigh n then s.refTo n 4
    else if pv && st = 4 && s.slopeLow n then s.refTo n 3
    else s
  else if st = 5 then
    if fw && (if pv then inAcc else !(s.ref n).rejOff) then s.refTo n 2 else s
  else s

/-- A drift term kept for a selected reference that has left DRIFTING follows its last offset and slope (R92). -/
def State.driftKeep (s : State) (n : Nat) : State :=
  if (s.ref n).drift.isSome ∧ s.qual n ≠ 4 then let d := s.driftTerm n; s.modRef n (fun r => { r with drift := some d }) else s

/-- RMON's update of one reference (R90): loss of activity first, then the window, then the phase.  QREMAIN reads 0 outside QUALIFYING (log entry
31). -/
def State.refUpdate (s : State) (n : Nat) : State :=
  let st := s.qual n
  if !s.on (F.RMON_REF_CFG_ENABLE n) then s.refTo n 0
  else if st = 0 then s.refTo n 1
  else
    let s := s.refMean n
    let s := if !s.on (F.RMON_REF_STATE_ACT n) then (if st = 1 then s else s.refTo n 1 true)
      else if st = 1 then (s.refTo n 2).refOff n
      else (s.refOff n).refJudge n
    let s := s.driftKeep n
    let need := s.get (F.RMON_REF_QUALTIME n) * 1000
    s.set (F.RMON_REF_QREMAIN n) (if s.qual n = 2 then ceilDiv (need - (s.ref n).timer) 1000 else 0)

/-- Order 1 of Table 4-3. -/
def State.rmonUpdate (s : State) : State := (List.range 12).foldl State.refUpdate s

/-! ### The slope fit, once per second (R87, R89, R91, R92) -/

/-- Σ (2 i − (N − 1)) y_i over a window, oldest sample first. -/
def slopeSum : Int → List Int → Int
  | _, [] => 0
  | c, y :: r => c * y + slopeSum (c + 2) r

/-- The least-squares slope of a window (newest first) in units of 10^-15. -/
def slopeOf (win : List Int) : Int :=
  let n : Int := win.length
  if n < 2 then 0 else 6000 * slopeSum (1 - n) win.reverse / (n * (n * n - 1))

/-- REF_FOFF over `k` seconds in units of 10^-14: 0.01 ps per second.  A window that holds fewer seconds gives the mean over those, and 0 with fewer
than two samples (DESIGN CHOICE, log entry 31: R87 speaks of the last 100 s only, and a reference can qualify earlier). -/
def foffOf (win : List Int) (k : Nat) : Int :=
  let k := min k (win.length - 1)
  if k = 0 then 0 else (win.getD 0 0 - win.getD k 0) * 100 / k

/-- The once-per-second work of one reference; the slope's transitions follow at its next update (R90).  A second in which there was no offset yet, as
after a time load or a change of DELAY, leaves no sample. -/
def State.refSecond (s : State) (n : Nat) : State :=
  if s.qual n ≤ 1 then s.modRef n (fun r => { r with rate := r.freshSec, freshSec := 0 }) else
  let r := s.ref n
  let win := if r.secCnt = 0 then r.win else (r.secSum / r.secCnt :: r.win).take 1000
  let s := s.setRef n { r with win := win, secSum := 0, secCnt := 0, rate := r.freshSec, freshSec := 0 }
  let sl := slopeOf win
  let s := (s.setI (F.RMON_REF_FOFF n) (foffOf win 100)).setI (F.RMON_REF_SLOPE n) sl
  let valid := decide (100 ≤ win.length)
  let s := s.setB (F.RMON_REF_STATE_SLOPEVALID n) valid
  let s := s.setB (F.RMON_REF_STATE_FWOK n) ((foffOf win 1).natAbs ≤ s.get (F.RMON_REF_FWIN n) * 100000)
  if s.qual n = 4 then let d := s.driftTerm n; s.modRef n (fun r => { r with drift := some d }) else s

def State.rmonSecond (s : State) : State := (List.range 12).foldl State.refSecond s

/-! ### The phase part of the witness (R85, R86) -/

def State.setPvalid (s : State) (b : Bool) : State :=
  (List.range 12).foldl (fun s n => s.setB (F.RMON_REF_STATE_PHVALID n) b) (s.setB F.RMON_WITNESS_PVALID b)

/-- The phase part is lost: source 22 follows as a level (R86). -/
def State.pvalidLost (s : State) : State :=
  if s.on F.RMON_WITNESS_PVALID then (s.setPvalid false).fault 2 4 else s

/-! ### Configuration changes -/

/-- The effects of a change of a reference's registers: FNOM, PHASEMODE or DELAY send it to NOSIG (R107), ENABLE opens or closes it. -/
def refPost (n : Nat) (old s : State) : State :=
  if !s.on (F.RMON_REF_CFG_ENABLE n) then s.refTo n 0
  else if s.qual n = 0 then s.refTo n 1
  else if old.get (F.RMON_REF_FNOM n) ≠ s.get (F.RMON_REF_FNOM n) ∨ old.on (F.RMON_REF_CFG_PHASEMODE n) ≠ s.on (F.RMON_REF_CFG_PHASEMODE n)
      ∨ old.get (F.RMON_REF_DELAY n) ≠ s.get (F.RMON_REF_DELAY n) then
    (s.modRef n (fun r => { r with meas := none, last := none, sum := 0, cnt := 0, learned := none })).refTo n 1
  else s

/-! ### The selector (R93 to R100) -/

/-- A reference that may be newly selected (R93). -/
def State.eligibleRef (s : State) (n : Nat) : Bool := n < 12 && s.qual n = 3

/-- ACTIVE changes: its maps, counter, generation, source 24; a drift term kept for the old one ends (R92). -/
def State.setActive (s : State) (n : Nat) : State :=
  let old := s.active
  if old = n then s else
  let s := ((((s.set F.DPLL_SELSTAT_ACTIVE n).inc F.DPLL_SELCNT).bump F.DPLL_SELGEN).raise 24)
  let s := if old < 12 then
      let s := s.setB (F.RMON_REF_STATE_SELECTED old) false
      if s.qual old = 4 then s else s.modRef old (fun r => { r with drift := none })
    else s
  let s := if n < 12 then s.setB (F.RMON_REF_STATE_SELECTED n) true else s
  { s with dpll := { s.dpll with selMs := 0, taken := decide (n < 12) } }

/-- take(r) of R96: `r` becomes ACTIVE; the manual choice taken clears first_qual_pending. -/
def State.take (s : State) (r reason : Nat) : State :=
  let s := (s.setActive r).set F.DPLL_SELSTAT_REASON reason
  if r = s.get F.DPLL_SELMAN_MREF then s.setB F.DPLL_SELSTAT_FIRSTQUAL false else s

/-- A standing conflict ends: source 27, HOSTWAIT clears, the vote stops (R99). -/
def State.clearConflict (s : State) : State :=
  if s.on F.DPLL_SELSTAT_CONFLICT then
    let s := (((s.setB F.DPLL_SELSTAT_CONFLICT false).setB F.DPLL_SELSTAT_HOSTWAIT false).set F.DPLL_SELVREM 0).raise 27
    { s with dpll := { s.dpll with voteMs := 0 } }
  else s

/-- The lowest rank number from 1 to 15 among the eligible references. -/
def State.bestRank (s : State) : Option Nat :=
  ((List.range 15).map (· + 1)).find? (fun k => (List.range 12).any (fun n => s.eligibleRef n && s.get (F.RMON_REF_CFG_RANK n) = k))

/-- The eligible references of a rank. -/
def State.ofRank (s : State) (k : Nat) : List Nat :=
  (List.range 12).filter (fun n => s.eligibleRef n && s.get (F.RMON_REF_CFG_RANK n) = k)

/-- Every pair agrees: |foff_a − foff_b| ≤ SELDIS (R98). -/
def State.allAgree (s : State) (l : List Nat) : Bool :=
  l.all (fun a => l.all (fun b =>
    (s.getI (F.RMON_REF_FOFF a) - s.getI (F.RMON_REF_FOFF b)).natAbs * 10 ≤ s.get F.DPLL_SELDIS))

/-- The member of a list with the least value of `f`; ties go to the lower reference number. -/
def leastBy (f : Nat → Nat) : List Nat → Option Nat
  | [] => none
  | a :: r => match leastBy f r with
    | none => some a
    | some b => if f b < f a then some b else some a

/-- The members of a conflict as a map. -/
def mapOf (l : List Nat) : Nat := l.foldl (fun m n => m + 2 ^ n) 0

/-- The selector stops using every reference. -/
def State.selHoldover (s : State) (reason : Nat) : State :=
  let was := s.active
  let s := (s.setActive 15).set F.DPLL_SELSTAT_REASON reason
  if was < 12 ∧ reason = 4 then s.fault 3 2 else s

/-- The disagreeing references of rank `k`: a conflict begins or continues with the present members; one of another rank ends, and the next tick
decides afresh (R98, R99). -/
def State.conflict (s : State) (l : List Nat) (k : Nat) : State :=
  let stands := s.on F.DPLL_SELSTAT_CONFLICT
  if stands && s.get F.DPLL_SELCONF_RANK ≠ k then s.clearConflict else
  let s := s.selHoldover 2
  let s := (s.set F.DPLL_SELCONF_MAP (mapOf l)).set F.DPLL_SELCONF_RANK k
  if stands then s
  else
    let v := s.get F.DPLL_SELVOTE
    let s := (((s.setB F.DPLL_SELSTAT_CONFLICT true).set F.DPLL_SELVREM v).raise 26).fault 3 1
    { s with dpll := { s.dpll with voteMs := v * 1000 } }

/-- The decision of R96 where `a` counts as ACTIVE.  Source 25 marks a fall from a reference to another of the rank list; a fall to holdover, to a
conflict or to the manual choice raises none (log entry 32). -/
def State.decide96 (s : State) (a : Nat) : State :=
  let m := s.get F.DPLL_SELMAN_MREF
  let working := decide (a < 12) && (s.qual a = 3 || s.qual a = 4)
  if s.eligibleRef m && a ≠ m && (!s.eligibleRef a || s.on F.DPLL_SELMAN_REVERT || s.on F.DPLL_SELSTAT_FIRSTQUAL) then
    (s.take m 0).clearConflict
  else if working then (if a = s.active then s else s.take a 5)
  else match s.bestRank with
    | none => (s.clearConflict).selHoldover 4
    | some k =>
      let l := s.ofRank k
      if s.allAgree l then
        match leastBy (fun n => (s.getI (F.RMON_REF_OFFSET n)).natAbs) l with
        | none => s
        | some r => ((s.take r 1).raiseIf (a < 12) 25).clearConflict
      else s.conflict l k

/-- The selector's tick: one decision, in which a DPLL_RESOLVE of the time since the last tick counts as taken where its reference is still eligible
(R93, R95, R96). -/
def State.select (s : State) : State :=
  let a := (s.dpll.resolve.filter s.eligibleRef).getD s.active
  ({ s with dpll := { s.dpll with resolve := none } }).decide96 a

/-- The vote's end (R100). -/
def State.voteEnd (s : State) : State :=
  if s.on F.DPLL_SELSTAT_CONFLICT && !s.on F.DPLL_SELSTAT_HOSTWAIT then
    if 86400 ≤ s.get F.HOLD_TRAINAGE then
      let l := (List.range 12).filter (fun n => s.bit F.DPLL_SELCONF_MAP n && s.eligibleRef n)
      match leastBy (fun n => (s.getI (F.RMON_REF_FOFF n)).natAbs) l with
      | some r => (s.take r 3).clearConflict
      | none => s
    else
      let s := ((s.setB F.DPLL_SELSTAT_HOSTWAIT true).set F.DPLL_SELVREM 0).raise 28
      { s with dpll := { s.dpll with voteMs := 0 } }
  else s

/-- The vote timer of one tick. -/
def State.voteTick (s : State) : State :=
  if s.dpll.voteMs = 0 then s
  else
    let s := { s with dpll := { s.dpll with voteMs := s.dpll.voteMs - 1 } }
    let s := s.set F.DPLL_SELVREM (ceilDiv s.dpll.voteMs 1000)
    if s.dpll.voteMs = 0 then s.voteEnd else s

/-- A new manual choice sets first_qual_pending, ends any conflict and takes the place of a DPLL_RESOLVE not yet taken (R95, R96, R99). -/
def State.newChoice (s : State) : State :=
  let s := (s.setB F.DPLL_SELSTAT_FIRSTQUAL true).clearConflict
  { s with dpll := { s.dpll with resolve := none } }

end Sys2Proof.Machine
end

