-- ==== Sys2Proof/Machine/HoldOps.lean ====
section
/-! DEFINITION. The shared operations of HOLD: the ensemble, its weights, the holdover model and its term, the steering (spec/05). -/
namespace Sys2Proof.Machine

def State.setHold (s : State) (h : Hold) : State := { s with hold := h }

/-! ### The ensemble (R139 to R141) -/

/-- The weight in force of an entity (12 AOSC_IN, 13 crystal, else the reference). -/
def State.weight (s : State) (i : Nat) : Nat := look 0 s.hold.weights i

/-- h_i and f_i of an entity in a scale. -/
def Scale.hfOf (c : Scale) (i : Nat) : Option (Int × Int) := (c.hf.find? (fun p => p.1 = i)).map Prod.snd

/-- One second of one scale, from the phases `xs` (10^-24 s) and weights; `skip` is the entity left out. -/
def Scale.second (c : Scale) (xs : List (Nat × Int)) (w : Nat → Nat) (skip tau : Nat) : Scale :=
  let m : List (Nat × Int) := xs.filterMap (fun p => match c.hfOf p.1 with
    | some (h, f) => if p.1 ≠ skip ∧ w p.1 ≠ 0 then some (w p.1, p.2 - (h + f)) else none
    | none => none)
  let tot : Nat := m.foldl (fun a p => a + p.1) 0
  let e := if tot = 0 then c.e + c.rate else (m.foldl (fun (a : Int) p => a + (p.1 : Int) * p.2) 0) / (tot : Int)
  let hf := xs.map (fun p => match c.hfOf p.1 with
    | some (h, f) => let h' := p.2 - e; (p.1, h', f + ((h' - h) - f) / tau)
    | none => (p.1, p.2 - e, 0))
  { e := e, rate := e - c.e, hf := hf }

/-- Every scale's second. -/
def State.scalesSecond (s : State) (xs : List (Nat × Int)) : List Scale :=
  (List.range 15).map (fun j => (s.scale j).second xs s.weight j (max 1 (s.get F.HOLD_TAU)))

/-- A step or load of TBASE by `d` (2^-48 ns): every member's time minus TBASE, and E, move by −d (10^-24 s). -/
def State.shiftScales (s : State) (d : Int) : State :=
  let y := d * 1000000000000000 / NS48
  s.setHold { s.hold with scales := s.hold.scales.map (fun c => { c with e := c.e - y }) }

/-! ### Noise and weights (R142, R143) -/

/-- One second of an entity's noise estimate. -/
def Noise.second (z : Noise) (v : Int) (tau : Nat) : Noise :=
  let h := (v :: z.hist).take (2 * tau + 1)
  if h.length = 2 * tau + 1 then
    let d := (v - 2 * h.getD tau 0 + h.getD (2 * tau) 0).natAbs
    let q := d * d
    { hist := h, secs := z.secs + 1, avg := if z.avg = 0 then q else z.avg + q / (30 * tau) - z.avg / (30 * tau) }
  else { z with hist := h, secs := z.secs + 1 }

/-- A crystal trim of `d` (10^-24) leaves the second difference as it was: the history takes the new slope (R201). -/
def Noise.tilt (z : Noise) (d : Int) : Noise := { z with hist := z.hist.mapIdx (fun k v => v - d * (k : Nat)) }

/-- A member is absent this second: its history is broken, its average stays (R142). -/
def Noise.absent (z : Noise) : Noise := { z with hist := [] }

/-- n of R142. -/
def Noise.n (z : Noise) (tau : Nat) : Nat := min 30 (z.secs / tau)

/-- What a checkpoint's n and σ say of the averaged second difference (R142), for a warm start. -/
def Noise.restored (n sigma prior tau : Nat) : Noise :=
  let p := prior * 100000000
  let g := sigma * 100000000
  { secs := n * tau, avg := if n = 0 then 0 else (((4 + n) * g * g - 4 * p * p) / n) * (2 * tau * tau) }

/-- σ_i of R142 in units of 10^-16; the prior until there is a second difference (log entry 35).  The prior keeps its weight of 4 after 30 intervals
as well (DESIGN CHOICE, log entry 35: the sentence begins "Until a member has n complete intervals"). -/
def sigmaOf (z : Noise) (prior tau : Nat) : Nat :=
  let n := z.n tau
  let p := prior * 100000000
  if z.avg = 0 ∧ z.hist.length < 2 * tau + 1 then prior else
  isqrt ((4 * p * p + n * (z.avg / (2 * tau * tau))) / (4 + n)) / 100000000

/-- The entity in a member slot, if any (Table 5-1). -/
def State.slotEntity (s : State) (i : Nat) : Option Nat :=
  if i = 0 then some 12 else if i = 1 then some 13
  else let r := s.get (F.HOLD_MEMBER_CFG_SRC i); if r < 12 then some r else none

/-- A member slot's presence (Table 5-1, R84). -/
def State.slotPresent (s : State) (i : Nat) : Bool :=
  match s.slotEntity i with
  | none => false
  | some e =>
    if e = 12 then s.get F.APLL_AOSCFREQ ≠ 0 && s.apll.aoscAct
    else if e = 13 then s.on F.APLL_BYPSTAT_XTALOK
    else s.qual e = 3 && 1000 ≤ (s.ref e).qualSecs

/-- Shares of 65536 in proportion to `raw`, none above `cap` while another has weight: what a capped member exceeds is
shared among the others in proportion (R143).  One round fixes the members that exceed the cap; eight rounds settle eight members. -/
def shareWeights (cap : Nat) : Nat → List (Nat × Nat × Option Nat) → List (Nat × Nat)
  | 0, l => l.map (fun p => (p.1, p.2.2.getD 0))
  | k + 1, l =>
    let fixed := l.foldl (fun a p => a + p.2.2.getD 0) 0
    let tot := l.foldl (fun a p => if p.2.2.isNone then a + p.2.1 else a) 0
    let part := fun p : Nat × Nat × Option Nat => if tot = 0 then 0 else (65536 - fixed) * p.2.1 / tot
    if l.any (fun p => p.2.2.isNone && cap < part p) then
      shareWeights cap k (l.map (fun p => if p.2.2.isNone && cap < part p then (p.1, p.2.1, some cap) else p))
    else l.map (fun p => (p.1, p.2.2.getD (part p)))

/-- The weights of the next second (R143), as entity and share of 65536. -/
def State.newWeights (s : State) : List (Nat × Nat) :=
  let l := (List.range 8).filterMap (fun i =>
    if s.slotPresent i then (s.slotEntity i).map (fun e =>
      let g := max 1 (s.get (F.HOLD_MEMBER_SIGMA i)); (e, 2 ^ 160 / (g * g), (none : Option Nat)))
    else none)
  if l.length ≤ 1 then l.map (fun p => (p.1, 65536))
  else (shareWeights (s.get F.HOLD_WMAX) 8 l).filter (fun p => p.2 ≠ 0)

/-! ### The holdover oscillator and its model (R144 to R147) -/

/-- The temperature the model uses, in units of 0.125 °C (R145). -/
def State.modelTemp (s : State) : Int :=
  match s.get F.HOLD_CTRL_TSRC with
  | 0 => s.getI F.PSU_TJ
  | 1 => s.getI F.HOLD_TEXT
  | _ => 0

/-- The model registers: D, UD, C, UC, UY, T0. -/
def State.modelRegs (s : State) : List Int :=
  [s.getI F.HOLD_MDL_D, s.get F.HOLD_MDL_UD, s.getI F.HOLD_MDL_C, s.get F.HOLD_MDL_UC, s.get F.HOLD_MDL_UY, s.getI F.HOLD_MDL_T0]

/-- The model in force: frozen during a holdover (R152); with TSRC 2, C is taken as 0. -/
def State.model (s : State) : List Int :=
  let m := s.hold.frozen.getD s.modelRegs
  if s.get F.HOLD_CTRL_TSRC = 2 then m.set 2 0 else m

def mdl (m : List Int) (i : Nat) : Int := m.getD i 0

/-- The slot of the holdover oscillator: 0 AOSC_IN, 1 crystal. -/
def State.hosc (s : State) : Nat := s.get F.HOLD_STAT_HOSCNOW

/-- |T − T0| now, or 0 with TSRC 2 (R154). -/
def State.dTemp (s : State) (t0 : Int) : Nat := if s.get F.HOLD_CTRL_TSRC = 2 then 0 else (s.modelTemp - t0).natAbs

/-- Write the model set to its priors (R147), as one model write. -/
def State.modelPriors (s : State) : State :=
  let s := (s.set F.HOLD_MDL_D 0).set F.HOLD_MDL_UD (s.get F.HOLD_DPRIOR)
  let s := (s.set F.HOLD_MDL_C 0).set F.HOLD_MDL_UC (s.get F.HOLD_CPRIOR)
  let s := (s.set F.HOLD_MDL_UY (s.get (F.HOLD_MEMBER_PRIOR s.hosc))).set F.HOLD_MDL_T0 0
  let s := s.setHold { s.hold with hourSum := 0, hourTemp := 0, hourCnt := 0, hours := [] }
  (((s.setB F.HOLD_STAT_DFIT false).setB F.HOLD_STAT_CFIT false).bump F.HOLD_MDL_GEN).set F.HOLD_TRAINAGE 0

/-! ### The holdover term (R154) -/

/-- k × m × [UY t + ½ UD t² + UC ΔT t + σ_w max(√(t τ), t)] in ps, rounded up, `t` in ms; σ in 10^-16, ΔT in 0.125 °C. -/
def holdTerm (m : List Int) (sigma tau dT cover infl t : Nat) : Nat :=
  let uy := (mdl m 4).toNat * t * 10000000
  let ud := ceilDiv ((mdl m 1).toNat * t * t * 100) 172800
  let uc := (mdl m 3).toNat * dT * t * 12500000
  let sg := sigma * max (isqrt (t * tau * 1000)) t * 10000000
  ceilDiv ((uy + ud + uc + sg) * cover * infl) (65536 * 100000000000000)

/-- |Δy| × 1 s in ps, rounded up, for 1 s after a steering frame (R150). -/
def State.frameTerm (s : State) : Nat := if s.hold.frameMs ≤ 1000 then ceilDiv s.hold.frameDy 1000000 else 0

/-- B_hold at `ms` after t_e in ps: B0 plus the term, plus the last frame's (R150, R154). -/
def State.bholdAt (s : State) (ms : Nat) : Nat :=
  s.get F.HOLD_B0 +
    holdTerm s.model (s.get (F.HOLD_MEMBER_SIGMA s.hold.slot)) (s.get F.HOLD_TAU) s.hold.dtMax (s.get F.HOLD_COVER) (s.get F.HOLD_INFLATE) ms +
    s.frameTerm

/-- HOLD_BHOLD and HOLD_ELAPSED follow t. -/
def State.bholdNow (s : State) : State :=
  (s.setSat F.HOLD_BHOLD (s.bholdAt s.hold.tMs)).setSat F.HOLD_ELAPSED (s.hold.tMs / 1000)

/-- The mean of the F_e history, or DPLL_FREQ where there is none (R153); 32 bits below one bit of DPLL_FREQ. -/
def State.feNow (s : State) : Int :=
  let l := s.hold.feHist
  if l.isEmpty then s.getI F.DPLL_FREQ * 4294967296 else l.foldl (· + ·) 0 / l.length

/-- Holdover begins with the sum `b0` of the terms EBND held (R152); a B_hold still frozen is a lower limit for B0 (R159). -/
def State.holdEnter (s : State) (b0 : Nat) : State :=
  let b := if s.on F.HOLD_STAT_FROZEN then max b0 (s.get F.HOLD_BHOLD) else b0
  let t := s.modelTemp
  let m := s.modelRegs
  let s := s.setHold { s.hold with
    te := s.now, began := s.now, tMs := 0, sumTe := 0, tempTe := t, dtMax := s.dTemp (mdl m 5), frozen := some m, slot := s.hosc,
    fe := s.feNow, settled := false, steerTemp := t }
  let s := (((s.setSat F.HOLD_B0 b).setB F.HOLD_STAT_HOLDOVER true).setB F.HOLD_STAT_FROZEN false).setB F.HOLD_STAT_LONGSLEW false
  let s := { s.setB F.DPLL_STAT_SLEWING false with dpll := { s.dpll with slewRem := 0, slewNow := 0 } }
  (s.bholdNow.raise 32).fault 4 1

/-- Holdover ends with |Δ0| of `ps` (R158, R159): B_hold stands frozen; a larger |Δ0| has understated the bound. -/
def State.holdExit (s : State) (ps : Nat) : State :=
  let b := s.get F.HOLD_BHOLD
  let s := (((s.setB F.HOLD_STAT_HOLDOVER false).setB F.HOLD_STAT_FROZEN true).setB F.HOLD_STAT_MDLPEND false).raise 33
  let s := s.setHold { s.hold with frozen := none }
  if b < ps then
    let i := s.get F.HOLD_INFLATE
    let n := max i (if b = 0 then 4096 else min 4096 (ceilDiv (ps * 256) b))
    let s := (s.setB F.HOLD_STAT_EXCEED true).set F.HOLD_INFLATE n
    let s := if n = i then s else s.bump F.HOLD_GEN
    (s.raise 35).fault 4 2
  else s

/-- B_hold ends (R159). -/
def State.contract (s : State) : State :=
  if s.on F.HOLD_STAT_FROZEN && s.hold.settled && s.active < 12 then
    (s.setB F.HOLD_STAT_FROZEN false).set F.HOLD_BHOLD 0
  else s

/-- The slew of a take has ended: SLEWING and LONGSLEW clear (R115, R157), and a time set since the start needs its own term no more
(Table 13-1, SET). -/
def State.slewEnd (s : State) : State :=
  let s := { s with dpll := { s.dpll with slewRem := 0, slewNow := 0, setDone := true } }
  let s := (s.setB F.DPLL_STAT_SLEWING false).setB F.HOLD_STAT_LONGSLEW false
  s.setHold { s.hold with settled := true }

/-- HOLD's millisecond (R150, R154, R159). -/
def State.holdTick (s : State) : State :=
  let s := s.setHold { s.hold with frameMs := min 1001 (s.hold.frameMs + 1) }
  if s.on F.HOLD_STAT_HOLDOVER then
    (s.setHold { s.hold with tMs := s.hold.tMs + 1, dtMax := max s.hold.dtMax (s.dTemp (mdl s.model 5)) }).bholdNow
  else if s.get F.HOLD_CONTRACT * 1000 ≤ s.dpll.selMs then s.contract
  else s

/-- The frequency word of HOLDOVER (R153): F_e less the predicted change of the oscillator, with 32 bits below one bit. -/
def State.holdFreq (s : State) : Int :=
  let m := s.model
  let ageing := mdl m 0 * s.hold.tMs / 86400000
  let warm := mdl m 2 * (s.modelTemp - s.hold.tempTe) * 125
  s.hold.fe - (ageing + warm + s.hold.sumTe) * 8 * 2 ^ 80 / 5000000000000000000

/-! ### The oscillator in use (R144, R147, R155) -/

/-- HOSCNOW follows HOSC and the presence of AOSC_IN; a change discards the model, one that waits for the exit too, and, in holdover, starts a new term with t_e, F_e and the model of the
new oscillator; F_e is the mean of the F_e history, which a change of TCORE's oscillator has moved with it (R126, R155). -/
def State.hoscEval (s : State) : State :=
  let c := s.get F.HOLD_CTRL_HOSC
  let want := if c = 1 then 0 else if c = 2 then 1 else if s.slotPresent 0 then 0 else 1
  if want = s.hosc then s else
  let b := s.get F.HOLD_BHOLD
  let s := ((s.set F.HOLD_STAT_HOSCNOW want).modelPriors).raise 37
  if s.on F.HOLD_STAT_HOLDOVER then
    let t := s.modelTemp
    let s := ((s.setSat F.HOLD_B0 b).setB F.HOLD_STAT_MDLPEND false).setHold { s.hold with
      te := s.now, tMs := 0, sumTe := 0, tempTe := t, frozen := some s.modelRegs, slot := want,
      dtMax := s.dTemp (s.getI F.HOLD_MDL_T0), fe := s.feNow }
    s.bholdNow.fault 4 5
  else s

/-! ### The second (R139 to R147) -/

/-- The measured phases of a second, in 10^-24 s: oscillators from TIC's taps (10^-15 s), references from RMON (x = −phase). -/
def State.memberPhases (s : State) (aosc xtal : Option Int) : List (Nat × Int) :=
  let refs := (List.range 12).filterMap (fun n =>
    if s.qual n ≤ 1 then none else (s.ref n).meas.map (fun p => (n, -(p * 1000000000000))))
  let a := if s.slotPresent 0 then aosc.map (fun x => (12, x * 1000000000)) else none
  let x := if s.slotPresent 1 then xtal.map (fun x => (13, x * 1000000000)) else none
  refs ++ a.toList ++ x.toList

/-- The member registers show a slot's σ, n, weight, phase and frequency. -/
def State.showSlot (s : State) (i : Nat) : State :=
  let s := s.setB (F.HOLD_MEMBER_CFG_PRESENT i) (s.slotPresent i)
  match s.slotEntity i with
  | none => s.set (F.HOLD_MEMBER_WEIGHT i) 0
  | some e =>
    let s := s.set (F.HOLD_MEMBER_WEIGHT i) (min 65535 (s.weight e))
    match (s.scale 14).hfOf e with
    | none => s
    | some (h, f) => (s.setI (F.HOLD_MEMBER_PHASE i) (h / 1000000000000)).setI (F.HOLD_MEMBER_FREQ i) (f / 10000000000)

/-- A slot's noise estimate of the second. -/
def State.noiseSlot (xs : List (Nat × Int)) (s : State) (i : Nat) : State :=
  let tau := max 1 (s.get F.HOLD_TAU)
  match s.slotEntity i with
  | none => s
  | some e => match xs.find? (fun p => p.1 = e) with
    | none => s.setHold { s.hold with noise := modAt s.hold.noise e Noise.absent }
    | some (_, x) =>
      let pad := s.hold.noise ++ List.replicate (14 - s.hold.noise.length) {}
      let z := (at' ({} : Noise) pad e).second (x - (s.scale e).e) tau
      let s := s.setHold { s.hold with noise := modAt pad e (fun _ => z) }
      (s.set (F.HOLD_MEMBER_NSAMP i) (z.n tau)).setSat (F.HOLD_MEMBER_SIGMA i) (sigmaOf z (s.get (F.HOLD_MEMBER_PRIOR i)) tau)

/-- The training age and source 39 (R147). -/
def State.trainSecond (s : State) : State :=
  if s.slotPresent s.hosc && s.hold.weights.any (fun p => p.1 < 12 && p.2 ≠ 0 && s.qual p.1 = 3) then
    let a := s.get F.HOLD_TRAINAGE
    (s.setSat F.HOLD_TRAINAGE (a + 1)).raiseIf (a + 1 = 86400) 39
  else s

/-- y of the holdover oscillator: its frequency against the ensemble without it (R141, R145), 10^-24. -/
def State.freeFreq (s : State) (i : Nat) : Int := (((s.scale i).hfOf i).map Prod.snd).getD 0

/-- One second of the model's training data: the hour's mean of the oscillator's frequency, with the cumulative steering removed, and of the temperature
(R146). -/
def State.hourSecond (s : State) : State :=
  let y := if s.hosc = 0 then s.freeFreq 12 - s.getI F.HOLD_AOSC_SUM * 1000000 else s.freeFreq 13
  let h := s.hold
  let k := h.hourCnt + 1
  let a := h.hourSum + y
  let t := h.hourTemp + s.modelTemp
  s.setHold (if k < 3600 then { h with hourSum := a, hourTemp := t, hourCnt := k }
    else { h with hourSum := 0, hourTemp := 0, hourCnt := 0, hours := ((a / k, t / k) :: h.hours).take 8760 })

/-- A reference's learned offset may change (R83); its window follows, so that the change is no frequency. -/
def State.learnSecond (s : State) (n : Nat) : State :=
  if s.on (F.RMON_REF_CFG_PHASEMODE n) then
    let d := s.getI (F.RMON_REF_DELAY n)
    s.modRef n (fun r =>
      let l := Config.learnedOffset r.learned n s.fresh
      { r.shiftOff (r.learned.getD d - l.getD d) with learned := l })
  else s

/-- HOLD's second (R139): scales, noise, weights, training age, F_e history and NOENS.  AOSC_IN without a phase shows no activity. -/
def State.holdSecond (s : State) (aosc xtal : Option Int) : State :=
  let s := if aosc.isNone then { s with apll := { s.apll with aoscAct := false } } else s
  let xs := s.memberPhases aosc xtal
  let old := s.scale 14
  let s := s.setHold { s.hold with scales := s.scalesSecond xs }
  let dE := (s.scale 14).e - old.e
  let fe := s.getI F.DPLL_FREQ * 4294967296 + dE * 8 * 2 ^ 80 / 5000000000000000000000000
  let s := s.setHold { s.hold with feHist := (fe :: s.hold.feHist).take (max 1 (s.get F.HOLD_TAU)) }
  let s := (List.range 8).foldl (State.noiseSlot xs) s
  let s := (s.trainSecond.hourSecond)
  let s := (List.range 12).foldl State.learnSecond { s with fresh := s.fresh + 1 }
  let f1 := (((s.scale 14).hfOf 13).map Prod.snd).getD 0
  let s := { s with tic := { s.tic with f1Sum := s.tic.f1Sum + f1, f1Cnt := s.tic.f1Cnt + 1 } }
  let s := (List.range 12).foldl (fun s n => s.modRef n (fun r => if s.qual n = 3 then { r with qualSecs := min 1000 (r.qualSecs + 1) } else r)) s
  let s := s.setHold { s.hold with weights := s.newWeights }
  let s := (List.range 8).foldl State.showSlot s
  let none' := s.hold.weights.isEmpty
  let s := if none' && s.on F.TBASE_STAT_TIMESET then s.pvalidLost else s
  (s.setB F.HOLD_STAT_NOENS none').hoscEval

/-! ### Steering (R148 to R150) -/

/-- Decimal digits of a number, most significant first, as bytes. -/
def decDigits : Nat → Nat → List Nat → List Nat
  | 0, _, acc => acc
  | k + 1, n, acc => if n < 10 then (48 + n) :: acc else decDigits k (n / 10) ((48 + n % 10) :: acc)

/-- A signed decimal ASCII number. -/
def asciiInt (v : Int) : List Nat := (if v < 0 then [45] else []) ++ decDigits 40 v.natAbs []

/-- The template up to its first 0x00, each 0x01 replaced by the value (R148). -/
def fillTemplate (v : List Nat) : List Nat → List Nat
  | [] => []
  | b :: r => if b = 0 then [] else if b = 1 then v ++ fillTemplate v r else b :: fillTemplate v r

/-- The bytes of the template, byte 0 at the lowest address. -/
def State.template (s : State) : List Nat :=
  (s.rdWords F.HOLD_AOSC_TPL.addr 16).flatMap (fun w => [w.toNat % 256, w.toNat / 256])

/-- Send the present code over AOSC_SPI or the absolute value over AOSC_UART (R148). -/
def State.steerSend (s : State) : State :=
  let code := s.get F.HOLD_AOSC_CODE
  match s.get F.HOLD_AOSC_CFG_MODE with
  | 1 =>
    let c := if s.on F.HOLD_AOSC_CFG_TWOS then (code + 0x80000) % 0x100000 else code
    let v := s.get F.HOLD_AOSC_CFG_SPICMD * 0x100000 + c
    s.setHold { s.hold with sent := [v / 65536, v / 256 % 256, v % 256], sentCnt := s.hold.sentCnt + 1 }
  | 2 =>
    let v := s.getI F.HOLD_AOSC_SUM / (s.get F.HOLD_AOSC_UNIT : Int)
    let b := fillTemplate (asciiInt v) s.template
    s.setHold { s.hold with
      sent := b, sentCnt := s.hold.sentCnt + 1,
      ackWait := if s.on F.HOLD_AOSC_CFG_ACKEN then some false else none }
  | _ => s

/-- The correction wanted at a steering instant, in 10^-24, clamped to STEPMAX (R149); none while neither a reference is selected nor
holdover stands. -/
def State.steerWant (s : State) : Option Int :=
  let lim : Int := s.get F.HOLD_AOSC_STEPMAX * 1000000000
  let clamp := fun v : Int => if v > lim then lim else if v < -lim then -lim else v
  if s.on F.HOLD_STAT_HOLDOVER then
    let m := s.model
    some (clamp (-(mdl m 0 * s.get F.HOLD_AOSC_STEERINT * 1000000 / 86400 + mdl m 2 * (s.modelTemp - s.hold.steerTemp) * 125000000)))
  else if s.active < 12 then ((s.scale 12).hfOf 12).map (fun p => clamp (-p.2))
  else none

/-- A correction (10^-24) in 1/4096 code, rounded to nearest; `slope` in 10^-18 per code. -/
def codeParts (dy slope : Int) : Int :=
  let d : Int := slope.natAbs * 1000000
  (2 * (if slope < 0 then -dy else dy) * 4096 + d) / (2 * d)

/-- The once-per-STEERINT correction (R149): the code moves once the fraction amounts to a whole code in either direction (Table 5-4). -/
def State.steer (s : State) : State :=
  if s.get F.HOLD_AOSC_CFG_MODE = 0 then s else
  match s.steerWant with
  | none => s
  | some dy =>
    let slope := s.getI F.HOLD_AOSC_SLOPE
    let tot := s.hold.steerFrac + codeParts dy slope
    let step := tot.tdiv 4096
    let code : Int := s.get F.HOLD_AOSC_CODE
    let next := code + step
    let held := decide (next < 0) || decide (0xFFFFF < next)
    let next := if next < 0 then 0 else if 0xFFFFF < next then 0xFFFFF else next
    let moved := (next - code) * slope
    let s := s.setHold { s.hold with steerFrac := tot - step * 4096, steerTemp := s.modelTemp }
    let s := if held then (s.raise 38).fault 4 3 else s
    if next = code then s
    else
      let s := (s.set F.HOLD_AOSC_CODE next.toNat).setI F.HOLD_AOSC_SUM (s.getI F.HOLD_AOSC_SUM + moved)
      let s := s.setHold { s.hold with steers := s.hold.steers ++ [moved], frameMs := 0, frameDy := moved.natAbs }
      s.steerSend

end Sys2Proof.Machine
end

