-- ==== Sys2Proof/Machine/TicOps.lean ====
section
/-! DEFINITION. The shared operations of TIC (spec/07).  Stamps and intervals are in units of 2^-12 ns (R193). -/
namespace Sys2Proof.Machine

def State.setTic (s : State) (t : Tic) : State := { s with tic := t }

def State.ticCh (s : State) (n : Nat) : TicCh := at' {} s.tic.chans n
def State.setTicCh (s : State) (n : Nat) (c : TicCh) : State := s.setTic { s.tic with chans := modAt s.tic.chans n (fun _ => c) }
def State.meas (s : State) (u : Nat) : Meas := at' {} s.tic.units u
def State.setMeas (s : State) (u : Nat) (m : Meas) : State := s.setTic { s.tic with units := modAt s.tic.units u (fun _ => m) }

/-! ### Stamps (R193, R196, R197) -/

/-- The stamp of an edge sampled with code `c` at a tick whose time after its addition is `t` (R193). -/
def State.stampOf (s : State) (ch t c : Nat) : Nat :=
  s.edgeAt 12 ch t c

/-- A calibration's hits pass (R197): 2^22 of them in one contiguous span of 800 to 1,536 codes, each between 1/8 and 4 times the mean. -/
def calPass (hits : List Nat) : Bool :=
  let h := ((hits.dropWhile (· = 0)).reverse.dropWhile (· = 0)).reverse
  let n := h.length
  let tot := h.foldl (· + ·) 0
  tot = 2 ^ 22 && 800 ≤ n && n ≤ 1536 && h.all (fun x => tot ≤ 8 * n * x && n * x ≤ 4 * tot)

/-! ### Measurements (R202 to R205) -/

/-- A unit without arms, undecided stops, pending period and open gate. -/
def Meas.clear (m : Meas) : Meas := { m with arms := [], stops := [], period := none, gate := none, cnt := 0, due := false }

/-- A stop is an orphan (R202). -/
def State.orphan (s : State) (u : Nat) : State :=
  let s := s.incRaise (F.TIC_MEAS_ORPHCNT u) 69
  s.setMeas u { s.meas u with run := (s.meas u).run.map (fun r => { r with orph := r.orph + 1 }) }

/-- A unit clears (R205): a stop that still waits for its decision has no start to pair with any more and is an orphan. -/
def State.measClear (s : State) (u : Nat) : State :=
  let s := (s.meas u).stops.foldl (fun s _ => s.orphan u) s
  s.setMeas u (s.meas u).clear

/-- Every unit clears at a time load, an authorised step and a TCORE clock switch (R205). -/
def State.ticClear (s : State) : State := (List.range 4).foldl State.measClear s

/-- Division of a signed number by a positive one, rounded to nearest. -/
def roundDiv (a : Int) (b : Nat) : Int := (2 * a + b) / (2 * b)

/-- The sentinel of R207 in four words. -/
def sentinel : List Word := [0, 0, 0, 0x8000]

/-- A signed value of 64 bits as four words. -/
def fourWords (v : Int) : List Word := wordsOf (ofSigned 64 (satSigned 64 v)) 4

/-- The result words of a statistics run; mean and deviation in 2^-16 ns (`k` = 16), or in the unit itself (`k` = 1). -/
def StatRun.words (r : StatRun) (k : Nat) : List Word :=
  let n := r.cnt
  let tail := [w16 (satNat 16 r.orph), w16 (satNat 16 r.dead)]
  if n = 0 then wordsOf 0 3 ++ sentinel ++ sentinel ++ sentinel ++ sentinel ++ tail
  else
    let v := ((n : Int) * r.sxx - r.sx * r.sx).toNat
    let dev := (isqrt (v * (2 * k) * (2 * k) / (n * n)) + 1) / 2
    wordsOf n 3 ++ fourWords (roundDiv (r.sx * k) n) ++ fourWords dev ++ fourWords r.lo ++ fourWords r.hi ++ tail

/-- The scale of a unit's statistics: 1 in frequency mode, 16 in the others. -/
def State.statScale (s : State) (u : Nat) : Nat := if s.get (F.TIC_MEAS_CFG_MODE u) = 3 then 1 else 16

/-- A statistics run ends with what it counted (R207). -/
def State.statEnd (s : State) (u : Nat) (st : ManSt) (status : Status) : State :=
  match (s.meas u).run with
  | none => s
  | some r =>
    let s := s.setMeas u { s.meas u with run := none }
    let p := if st = .done then 0xFFFF else progressOf r.cnt r.n
    ((s.setB (F.TIC_MEAS_STAT_STATRUN u) false).finish r.wb st status p (r.words (s.statScale u))).raise 70

/-- A unit publishes a result; a statistics run counts it. -/
def State.publish (s : State) (u : Nat) (x : Int) : State :=
  let s := ((s.setI (F.TIC_MEAS_LAST u) x).bump (F.TIC_MEAS_RESCNT u)).setB (F.TIC_MEAS_STAT_NEW u) true
  match (s.meas u).run with
  | none => s
  | some r =>
    let r := { r with
      cnt := r.cnt + 1
      sx := r.sx + x
      sxx := r.sxx + x.natAbs * x.natAbs
      lo := if r.cnt = 0 then x else min r.lo x
      hi := if r.cnt = 0 then x else max r.hi x }
    let s := s.setMeas u { s.meas u with run := some r }
    if r.n ≤ r.cnt then s.statEnd u .done .ok else s.advance r.wb .running (progressOf r.cnt r.n) []

/-- A unit works by periods: mode 2, or an interval unit whose START equals STOP (with SPAN 1); its span. -/
def State.periodSpan (s : State) (u : Nat) : Option Nat :=
  match s.get (F.TIC_MEAS_CFG_MODE u) with
  | 2 => some (s.get (F.TIC_MEAS_SPAN u))
  | 1 => if s.get (F.TIC_MEAS_CFG_START u) = s.get (F.TIC_MEAS_CFG_STOP u) then some 1 else none
  | _ => none

/-- A stamped edge of channel `ch` reaches a unit. -/
def State.measEdge (ch t : Nat) (s : State) (u : Nat) : State :=
  let m := s.meas u
  let start := decide (s.get (F.TIC_MEAS_CFG_START u) = ch)
  match s.periodSpan u with
  | some span =>
    if !start || span = 0 then s
    else match m.period with
      | none => s.setMeas u { m with period := some (t, 0) }
      | some (a, k) =>
        if k + 1 < span then s.setMeas u { m with period := some (a, k + 1) }
        else (s.setMeas u { m with period := some (t, 0) }).publish u (roundDiv ((t : Int) - a) span)
  | none =>
    if s.get (F.TIC_MEAS_CFG_MODE u) ≠ 1 then s
    else if start then s.setMeas u { m with arms := t :: m.arms }
    else if s.get (F.TIC_MEAS_CFG_STOP u) = ch then s.setMeas u { m with stops := m.stops ++ [t] }
    else s

/-- The oldest undecided stop of a unit pairs with its start or is an orphan (R202); corrections are applied to the result only (R203). -/
def State.decideStop (s : State) (u : Nat) : State :=
  let m := s.meas u
  match m.stops with
  | [] => s
  | t :: r =>
    let win := s.get (F.TIC_MEAS_ARMWIN u) * 4096
    let ok := m.arms.filter (fun a => a ≤ t + 1 ∧ t ≤ a + max win 1)
    let best := ok.foldl (fun b a => max b a) 0
    let s := s.setMeas u { m with stops := r }
    if ok.isEmpty then s.orphan u
    else
      let arms := if s.on (F.TIC_MEAS_CFG_MULTI u) then m.arms else m.arms.erase best
      let s := s.setMeas u { s.meas u with arms := arms }
      let d := s.getI (F.TIC_CH_DELAY (s.get (F.TIC_MEAS_CFG_STOP u))) - s.getI (F.TIC_CH_DELAY (s.get (F.TIC_MEAS_CFG_START u)))
      s.publish u ((t : Int) - best - d)

/-- A unit counts frequency and produces results (R204, R205). -/
def State.freqUnit (s : State) (u : Nat) : Bool := s.get (F.TIC_MEAS_CFG_MODE u) = 3 && s.get (F.TIC_MEAS_SPAN u) ≠ 0

/-- The time of a stamp `t` in periods of channel 10, its edges taken as exactly 1 ms apart, in 2^-12 ns (R204, REFSEL 1); none before its second
edge. -/
def State.xtalTime (s : State) (t : Nat) : Option Nat :=
  match s.tic.xLast, s.tic.xPrev with
  | some l, some p => some (((s.tic.xCnt * 4096000000 : Nat) : Int) + ((t : Int) - l) * 4096000000 / ((l : Int) - p)).toNat
  | _, _ => none

/-- The time in which unit `u` measures a stamp `t` (R204). -/
def State.gateTime (s : State) (u t : Nat) : Option Nat := if s.on (F.TIC_MEAS_CFG_REFSEL u) then s.xtalTime t else some t

/-- A counted edge is stamped `t` and opens or closes a gate of unit `u`: M ÷ (t_close − t_open) against FNOM (R204).  The closing edge opens the next
gate. -/
def State.gateEdge (s : State) (u t : Nat) : State :=
  let x := s.meas u
  match s.gateTime u t with
  | none => s
  | some t =>
    let s := s.setMeas u { x with gate := some t, cnt := 0, due := false }
    match x.gate with
    | none => s
    | some a =>
      let y := ((x.cnt + 1) * 4096000000000 * 1000000000000000000 : Nat)
      s.publish u (roundDiv y ((t - a) * s.get (F.TIC_MEAS_FNOM u)) - 1000000000000000000)

/-- An edge of channel `ch` that frequency unit `u` counts: the first edge opens the first gate, and the first at or after a gate's end closes it; those
alone are stamped. -/
def State.freqEdge (ch t : Nat) (s : State) (u : Nat) : State :=
  if !(s.freqUnit u && s.get (F.TIC_MEAS_CFG_START u) = ch) then s
  else
    let x := s.meas u
    if x.gate.isNone || x.due then s.gateEdge u t else s.setMeas u { x with cnt := x.cnt + 1 }

/-! ### Channels and FIFOs (R194, R206) -/

/-- 3.2 ns in units of 2^-12 ns, rounded up. -/
def ticDead : Nat := 13108

/-- CFG.EDGE of a channel selects an edge; taps stamp their rising or active edge. -/
def State.ticSelects (s : State) (ch : Nat) (rise : Bool) : Bool :=
  if 8 ≤ ch then rise || ch = 8 else s.bit (F.TIC_CH_CFG_EDGE ch) (if rise then 0 else 1)

/-- A dead-time drop on a channel, counted in the runs that use it. -/
def State.ticDrop (s : State) (ch : Nat) : State :=
  let s := s.inc (F.TIC_CH_DEADCNT ch)
  (List.range 4).foldl (fun s u =>
    if s.get (F.TIC_MEAS_CFG_START u) = ch ∨ s.get (F.TIC_MEAS_CFG_STOP u) = ch then
      s.setMeas u { s.meas u with run := (s.meas u).run.map (fun r => { r with dead := r.dead + 1 }) }
    else s) s

/-- A stamp enters its channel's FIFO, DELAY subtracted, or is dropped on a full one. -/
def State.ticStore (s : State) (ch : Nat) (rise : Bool) (t : Nat) : State :=
  let c := s.ticCh ch
  if !s.on (F.TIC_CH_CFG_FIFOEN ch) then s
  else if 4096 ≤ c.fifo.length then ((s.inc (F.TIC_CH_OVFCNT ch)).setTicCh ch { c with ovf := true }).raise 68
  else
    let v := jump t (-(s.getI (F.TIC_CH_DELAY ch)))
    let st : CapStamp := ⟨v * 2 ^ 20, rise, c.ovf, s.on F.TBASE_STAT_TIMESET, s.get F.TBASE_STEPCNT % 256⟩
    s.setTicCh ch { c with fifo := c.fifo ++ [st], ovf := false }

/-- Some frequency unit counts channel `ch`; it stamps its next edge. -/
def State.counted (s : State) (ch : Nat) : Bool := (List.range 4).any (fun u => s.freqUnit u && s.get (F.TIC_MEAS_CFG_START u) = ch)
def State.gateDue (s : State) (ch : Nat) : Bool :=
  (List.range 4).any (fun u => s.freqUnit u && s.get (F.TIC_MEAS_CFG_START u) = ch && ((s.meas u).gate.isNone || (s.meas u).due))

/-- A stamped edge reaches its channel's FIFO and the units that use the channel (R192). -/
def State.ticStamp (s : State) (ch : Nat) (rise : Bool) (t : Nat) : State :=
  let s := (s.setTicCh ch { s.ticCh ch with last := some t }).ticStore ch rise t
  (List.range 4).foldl (State.measEdge ch t) s

/-- An edge on a channel or tap, sampled with fine code `c` at the tick whose time is `tick`.  On the START channel of a frequency unit every edge counts,
with no dead time, and only those at a gate are stamped (R204). -/
def State.ticEdge (s : State) (ch : Nat) (rise : Bool) (tick c : Nat) : State :=
  if !s.ticSelects ch rise then s else
  let t := s.stampOf ch tick c
  let s := if ch = 10 then s.setTic { s.tic with xCnt := s.tic.xCnt + 1, xPrev := s.tic.xLast, xLast := some t } else s
  let due := s.gateDue ch
  let freq := s.counted ch
  let s := (List.range 4).foldl (State.freqEdge ch t) s
  let x := s.ticCh ch
  if freq then (if due then s.ticStamp ch rise t else s)
  else if ch ≠ 8 ∧ x.last.any (fun l => l ≤ t ∧ t < l + ticDead) then s.ticDrop ch
  else s.ticStamp ch rise t

/-- A jump of TBASE by `d` (2^-48 ns): the last edges of captures and channels keep their distance in elapsed time (R186, R194), and so do those of
channel 10 (R200, R204). -/
def State.stampsMoved (s : State) (d : Int) : State :=
  let lsb := fun t : Nat => jump t (d / 2 ^ 36)
  let s := s.setTb { s.tb with caps := s.tb.caps.map (fun c => { c with last := c.last.map (fun t => jump t (d / 2 ^ 16)) }) }
  s.setTic { s.tic with
    chans := s.tic.chans.map (fun c => { c with last := c.last.map lsb })
    xLast := s.tic.xLast.map lsb
    xPrev := s.tic.xPrev.map lsb
    xSec := s.tic.xSec.map (fun p => (p.1, lsb p.2)) }

/-- A pop of a channel's FIFO, as of a capture (R206). -/
def State.ticPop (s : State) (ch : Nat) : State × Word :=
  let c := s.ticCh ch
  match c.fifo with
  | [] => (s.set (F.TIC_CH_STAMP ch) 0, 0)
  | x :: r => ((s.setTicCh ch { c with fifo := r }).set (F.TIC_CH_STAMP ch) (time128 (x.time * 2 ^ 16)), w16 x.pop)

/-! ### Calibration (R198) -/

/-- A background calibration runs; a request made while one runs joins it. -/
def State.calStart (s : State) : State :=
  if s.on F.TIC_CALSTAT_RUNNING then s else (s.setB F.TIC_CALSTAT_RUNNING true).setTic { s.tic with calMs := 0 }

/-- The progress of a background calibration in 1/65536 of H = 2^22 hits, which come at a mean of 12,500 in a millisecond (R197, R210). -/
def State.calProgress (s : State) : Nat := if s.tic.swap then 0xFFFF else min 0xFFFF (s.tic.calMs * 12500 / 64)

/-- Waiting TIC_CALRUN waybills show the calibration's progress. -/
def State.calShow (s : State) : State := s.tic.waiters.foldl (fun s h => s.advance h .running s.calProgress []) s

/-- A millisecond of a background calibration. -/
def State.calTick (s : State) : State :=
  if s.on F.TIC_CALSTAT_RUNNING then (s.setTic { s.tic with calMs := min 1000 (s.tic.calMs + 1) }).calShow else s

/-- The standby set. -/
def State.standby (s : State) : Nat := 1 - s.get F.TIC_CALSTAT_SET

/-- Put the passing tables of a run into a set. -/
def putHits (old : List (List Nat)) (set : Nat) (runs : List (List Nat)) : List (List Nat) :=
  (List.range 64).map (fun i =>
    let r := at' [] runs (i - set * 32)
    if set * 32 ≤ i ∧ i < set * 32 + 32 ∧ calPass r then r else at' [] old i)

/-- The hits of each interpolator, those of its second calibration where the first failed (R197). -/
def retried (hits again : List (List Nat)) (k : Nat) : List (List Nat) :=
  (List.range k).map (fun i => if calPass (at' [] hits i) then at' [] hits i else at' [] again i)

/-- Waiting TIC_CALRUN waybills complete. -/
def State.calAnswer (s : State) (passed : Nat) (first : Nat) : State :=
  let ws := s.tic.waiters
  let s := s.setTic { s.tic with waiters := [] }
  (ws.foldl (fun s h => s.finish h .done .ok 0xFFFF [w16 passed, w16 (32 - passed), w16 first, s.rd F.TIC_CALTEMP.addr]) s).raise 64

end Sys2Proof.Machine
end

