-- ==== Sys2Proof/Machine/DpllOps.lean ====
section
/-! DEFINITION. The shared operations of the DPLL and of the synthesis PLLs (spec/04).  Frequencies are held with 32 bits below one bit of
DPLL_FREQ, that is in units of 2^-80 ns per tick: a fractional frequency y is y × 1.6 × 2^80. -/
namespace Sys2Proof.Machine

def State.setDpll (s : State) (d : Dpll) : State := { s with dpll := d }

/-- The numerator of 1.6 × 2^80 over 5. -/
def FS : Int := 8 * 2 ^ 80

/-- π in units of 10^-15. -/
def PI15 : Int := 3141592653589793

/-- ζ and k(ζ) in thousandths (Table 4-4). -/
def dampOf (c : Nat) : Int × Int := [(500, 1817), (707, 2058), (1000, 2482), (2000, 4249), (5000, 10100)].getD c (707, 2058)

/-- DPLL_FREQ as it stands. -/
def State.freq (s : State) : Int := s.getI F.DPLL_FREQ

/-- The mode (Table 4-2). -/
def State.mode (s : State) : Nat := s.get F.DPLL_STAT_MODE

/-- A mode change moves DPLL_GEN and raises source 29 (R44, Table 4-10). -/
def State.setMode (s : State) (m : Nat) : State :=
  if s.mode = m then s else ((s.set F.DPLL_STAT_MODE m).bump F.DPLL_GEN).raise 29

/-- TBASE_HELD and HOLDSTEP follow the held offset (R172). -/
def State.setHeld (s : State) (ps : Int) : State :=
  let s := s.setDpll { s.dpll with held := ps }
  (s.setI F.TBASE_HELD (psToHeld ps)).setB F.TBASE_STAT_HOLDSTEP (psToHeld ps ≠ 0)

/-- A value clamped to ± a limit. -/
def clampTo (lim v : Int) : Int := if v > lim then lim else if v < -lim then -lim else v

/-- The pull range and the slew limit as frequencies. -/
def State.pullLim (s : State) : Int := s.get F.DPLL_PULL * FS / 50000000
def State.slewLim (s : State) : Int := s.get F.DPLL_SLEWLIM * FS / 500000000000

/-- The effective bandwidth of R118 in µHz; DPLL_BW itself with no reference selected (DESIGN CHOICE, log entry 33: R118 speaks of the selected one). -/
def State.bwEff (s : State) : Nat :=
  if s.active < 12 then min (s.get F.DPLL_BW) ((s.ref s.active).rate * 50000) else s.get F.DPLL_BW

/-- −Ki × n × e as a change of the integrator, `e` in ps. -/
def State.integStep (s : State) (n : Nat) (e : Int) : Int :=
  let (_, k) := dampOf (s.get F.DPLL_MODE_DAMP)
  let b : Int := s.bwEff
  (-(FS * 4 * PI15 * PI15 * b * b * n * e)) / (5 * k * k * 10 ^ 51)

/-- −Kp × e, clamped to ±SLEWLIM (R116). -/
def State.propTerm (s : State) (e : Int) : Int :=
  let (z, k) := dampOf (s.get F.DPLL_MODE_DAMP)
  clampTo s.slewLim (-(FS * 4 * z * PI15 * s.bwEff * e) / (5 * k * 10 ^ 33))

/-! ### Taking a reference (R115, R157) -/

/-- Clamp the output and note the clamp (R117); the integrator is held at the clamp value in a closed loop. -/
def State.clampFreq (s : State) (out : Int) (closed : Bool) : State × Int :=
  let v := clampTo s.pullLim out
  let hit := decide (v ≠ out)
  let s := if hit && !s.on F.DPLL_STAT_CLAMP then (s.raise 30).fault 3 3 else s
  let s := s.setB F.DPLL_STAT_CLAMP hit
  (if hit && closed then s.setDpll { s.dpll with integ := v } else s, v)

/-- The phase take on Δ0 of `d` ps (Table 5-2). -/
def State.phaseTake (s : State) (d : Int) : State :=
  let jt := s.get F.HOLD_JUMPTHR * 1000
  let st := min (s.get F.HOLD_SLEWTHR * 1000) jt
  let s := s.setHold { s.hold with settled := false }
  if d.natAbs ≤ jt then
    let s := (s.setHeld 0).setMode 1
    let s := (s.setDpll { s.dpll with slewRem := d * 100, slewNow := 0 }).setB F.DPLL_STAT_SLEWING (d ≠ 0)
    let s := if st < d.natAbs then (s.raise 34).setB F.HOLD_STAT_LONGSLEW true else s.setB F.HOLD_STAT_LONGSLEW false
    if d = 0 then s.slewEnd else s
  else
    let s := (s.setDpll { s.dpll with slewRem := 0, slewNow := 0 }).setB F.DPLL_STAT_SLEWING false
    let s := (s.setB F.HOLD_STAT_LONGSLEW false).setMode 2
    ((s.setHeld d).raise 29).fault 3 4

/-- A reference's latest measurement: the mean of the millisecond for REF0 to REF7, the latest offset for the others (R109); none since its source
changed or time was loaded. -/
def State.measured (s : State) (n : Nat) : Option Int := if n < 8 then (s.ref n).meas else (s.ref n).last

/-- The phase error of a reference's latest measurement; DPLL_PHERR as it stands where it has none. -/
def State.phaseOf (s : State) (n : Nat) : Int := (s.measured n).getD (s.getI F.DPLL_PHERR)

/-- The take of ACTIVE at a tick (R115): the integrator takes the reference's frequency unless a closing loop keeps its own. -/
def State.takeNow (s : State) : State :=
  let d := s.phaseOf s.active
  let keep := s.dpll.keep
  let integ := if keep then s.dpll.integ
    else s.freq * 4294967296 - s.getI (F.RMON_REF_FOFF s.active) * FS / 500000000000000
  let s := s.setDpll { s.dpll with integ := integ, prop := 0, since := 0, taken := false, keep := false }
  let s := s.setI F.DPLL_PHERR d
  let s := s.setB F.EBND_STAT_TRACED true
  let s := s.phaseTake d
  if s.on F.HOLD_STAT_HOLDOVER then s.holdExit d.natAbs else s

/-! ### The orders of Table 4-3 -/

/-- The loop opens (R120); one that a request of the same tick has just closed opens again. -/
def State.openLoop (s : State) : State :=
  if s.mode = 4 ∧ !s.dpll.keep then s else
  let f := s.get F.DPLL_FREQ
  let s := s.setDpll { s.dpll with integOpen := s.dpll.integ, lastWord := s.freq, slewRem := 0, slewNow := 0, taken := false, keep := false }
  let s := (((s.set F.DPLL_SWFREQ f).set F.DPLL_COMP 0).setB F.DPLL_STAT_SLEWING false).setB F.HOLD_STAT_LONGSLEW false
  ((s.setHeld 0).setB F.DPLL_MODE_OPEN true).setMode 4

/-- The loop closes with a CLOSEBUMP value; ACTIVE is treated as newly taken (R120). -/
def State.closeLoop (s : State) (bump : Nat) : State :=
  if s.mode ≠ 4 ∨ s.dpll.keep then s else
  let c := s.getI F.DPLL_COMP * 4294967296
  let i := (if bump = 0 then s.dpll.lastWord * 4294967296 else s.dpll.integOpen) + c
  let s := (s.set F.DPLL_COMP 0).setB F.DPLL_MODE_OPEN false
  let s := s.setDpll { s.dpll with integ := i, taken := decide (s.active < 12), keep := true }
  if s.active < 12 then s else (s.setDpll { s.dpll with keep := false }).setMode 3

/-- One request of order 3, with the waybills that complete once the tick has closed the loop. -/
def State.dpllReq (p : State × List WbHead) (r : DpllReq) : State × List WbHead :=
  let (s, l) := p
  match r with
  | .openLoop wb g =>
    if g.any (fun g => s.get F.DPLL_GEN ≠ g) then (wb.elim s (fun h => s.failed h .genConflict), l)
    else
      let s := s.openLoop
      (wb.elim s (fun h => s.doneRd h [F.DPLL_GEN.run, F.DPLL_FREQ.run]), l)
  | .closeLoop b wb g =>
    if g.any (fun g => s.get F.DPLL_GEN ≠ g) then (wb.elim s (fun h => s.failed h .genConflict), l)
    else (s.closeLoop (b.getD (s.get F.DPLL_MODE_CLOSEBUMP)), l ++ wb.toList)
  | .applyWord _ => (s, l)

/-- Order 3. -/
def State.dpllReqs (s : State) : State × List WbHead :=
  let rs := s.dpll.reqs
  let s := s.setDpll { s.dpll with reqs := rs.filter (fun r => match r with | .applyWord _ => true | _ => false) }
  rs.foldl State.dpllReq (s, [])

/-- Order 4: the mode transitions of Table 4-2.  In OPEN a selection changes no mode, and DPLL_PHERR shows the new reference's latest measurement (R115,
R119); a closing loop takes ACTIVE.  A take waits for the first measurement of a source that has none yet, such as a new PTP master (R157, log entry
33). -/
def State.dpllModes (s : State) : State :=
  if s.mode = 4 ∧ !s.dpll.keep then
    (if s.dpll.taken then s.setI F.DPLL_PHERR (s.phaseOf s.active) else s).setDpll { s.dpll with taken := false }
  else if s.dpll.taken ∧ ((s.measured s.active).isSome ∨ s.dpll.keep) then s.takeNow
  else if s.active = 15 ∧ (s.mode = 1 ∨ s.mode = 2) then (s.setHeld 0).setMode 3
  else s

/-- The part of Δ0 not yet removed, ps (R115). -/
def State.remaining (s : State) : Int := s.dpll.slewRem / 100 + s.dpll.held

/-- Errors of fresh ticks: those of the last second and the last one before (Table 4-6, Table 13-1). -/
def ageErrs : List (Nat × Nat × Nat) → List (Nat × Nat × Nat)
  | [] => []
  | (a, x) :: r => if a + 1 < 1000 then (a + 1, x) :: ageErrs r else [(a + 1, x)]

/-- Order 5: the phase error of the selected reference (R109), and the holdover state that follows from it (R152, R158). -/
def State.dpllPhase (s : State) : State :=
  let a := s.active
  let r := s.ref a
  let fresh := decide (a < 12) && r.fresh
  let s := if fresh then s.setI F.DPLL_PHERR (s.phaseOf a) else s
  let s := ((s.setB F.DPLL_STAT_FRESH fresh).setB F.DPLL_STAT_PHVALID (a < 12)).bump F.DPLL_PHSEQ
  let e := s.getI F.DPLL_PHERR
  let errs := ageErrs s.dpll.errs
  let errs := if fresh then (0, (e - s.remaining).natAbs, e.natAbs) :: errs else errs
  let s := s.setDpll { s.dpll with errs := errs, phlog := (e :: s.dpll.phlog).take 1024 }
  let hold := decide (s.mode = 3) || (decide (s.mode = 4) && !s.on F.DPLL_STAT_PHVALID)
  let was := s.on F.HOLD_STAT_HOLDOVER
  if hold && !was then s.holdEnter (s.get (F.EBND_COMP 0) + s.get (F.EBND_COMP 1) + s.get (F.EBND_COMP 2))
  else if was && !hold then
    let s := s.holdExit e.natAbs
    s.setHold { s.hold with settled := true }
  else s

/-- Show an output word: the residual of the rounding goes into the next write (R112). -/
def State.putFreq (s : State) (v : Int) : State :=
  let t := v + s.dpll.resid
  (s.setDpll { s.dpll with resid := t % 4294967296 }).setI F.DPLL_FREQ (t / 4294967296)

/-- What the last millisecond of a slew removed has left Δ0; with nothing left the slew has ended (R115). -/
def State.slewStep (s : State) : State :=
  if s.dpll.slewNow = 0 then s
  else
    let rem := s.dpll.slewRem
    let left := rem.natAbs - s.dpll.slewNow
    let s := s.setDpll { s.dpll with slewRem := if 0 < rem then left else -(left : Int), slewNow := 0 }
    if left = 0 ∧ s.on F.DPLL_STAT_SLEWING then s.slewEnd else s

/-- Order 6, closed loop (R109, R115, R116).  The tick of a take has `since` 0 and its error is Δ0 itself, so the loop takes nothing from it. -/
def State.dpllLoop (s : State) : State :=
  let s := if s.on F.DPLL_STAT_FRESH then
      let e := s.getI F.DPLL_PHERR - s.remaining
      s.setDpll { s.dpll with integ := s.dpll.integ + s.integStep s.dpll.since e, prop := s.propTerm e, since := 0 }
    else s
  let rem := s.dpll.slewRem
  let step := min (s.get F.DPLL_SLEWLIM) rem.natAbs
  let sgn : Int := if 0 < rem then 1 else -1
  let slew := -(sgn * step * FS / 500000000000)
  let (s, v) := s.clampFreq (s.dpll.integ + s.dpll.prop + slew) true
  (s.putFreq v).setDpll { (s.putFreq v).dpll with slewNow := step }

/-- Order 6, OPEN: the software word plus DPLL_COMP once APPLY is set (R119). -/
def State.dpllOpenWord (s : State) : State :=
  if s.on F.DPLL_SWCMD then
    let w := s.getI F.DPLL_SWFREQ
    let s := (s.setDpll { s.dpll with lastWord := w, resid := 0 }).set F.DPLL_SWCMD 0
    let (s, v) := s.clampFreq ((w + s.getI F.DPLL_COMP) * 4294967296) false
    let s := s.setI F.DPLL_FREQ (v / 4294967296)
    let ws := s.dpll.reqs.filterMap (fun r => match r with | .applyWord h => some h | _ => none)
    let s := s.setDpll { s.dpll with reqs := [] }
    ws.foldl (fun s h => s.done h (s.fw F.DPLL_PHSEQ)) s
  else s

/-- Order 6.  FREERUN's word is DPLL_FRQINIT at every tick, so that an adjustment of R126 lasts to the next one (DESIGN CHOICE, log entry 33: Table 4-2
gives the word, R126 the adjustment, and no rule which wins). -/
def State.dpllFreq (s : State) : State :=
  let s := ((s.setSat F.DPLL_BWEFF s.bwEff).setB F.DPLL_STAT_BWLIM (s.bwEff < s.get F.DPLL_BW))
  match s.mode with
  | 0 =>
    let f := s.getI F.DPLL_FRQINIT * 4294967296
    let (s, v) := (s.setDpll { s.dpll with integ := f }).clampFreq f true
    s.putFreq v
  | 3 =>
    let (s, v) := s.clampFreq s.holdFreq false
    s.putFreq v
  | 4 => s.dpllOpenWord
  | _ => s.dpllLoop

/-- The increment that a frequency word and an add-back of `lost` ps over one millisecond give (R111, R126). -/
def incrOf (f : Int) (lost : Nat) : Nat := ((INCR0 : Int) + f + (lost * NS48 / 625000000 : Nat)).toNat

/-- Outside OPEN, APPLY has no effect and reads 0 (R119); a DPLL_SETFREQ that the loop closed under is not permitted. -/
def State.swDrop (s : State) : State :=
  let ws := s.dpll.reqs.filterMap (fun r => match r with | .applyWord h => some h | _ => none)
  let s := (s.set F.DPLL_SWCMD 0).setDpll { s.dpll with reqs := [] }
  ws.foldl (fun s h => s.failed h .notPermitted) s

/-- Order 7: the increment is written (R111) with the lost time of a switch added back over one millisecond, which sets OSCCHG until the next tick
(R126). -/
def State.dpllWrite (s : State) : State :=
  let s := s.setDpll { s.dpll with lost := 0, adding := s.dpll.lost }
  let s := (s.set F.TBASE_INCR (incrOf s.freq s.dpll.adding)).setB F.DPLL_STAT_OSCCHG (s.dpll.adding ≠ 0)
  let s := if s.dpll.adding = 0 then s else s.setTic { s.tic with noTest := true }
  let s := if s.mode ≠ 4 then s.swDrop else s
  let thr := s.get F.DPLL_LOCKTHR * 100
  let e := (s.getI F.DPLL_PHERR).natAbs
  let s := s.setDpll { s.dpll with
    lockMs := if s.on F.DPLL_STAT_PHVALID && decide (e < thr) then min 10000 (s.dpll.lockMs + 1) else 0
    selMs := if s.active < 12 then min 65535000 (s.dpll.selMs + 1) else 0 }
  let s := if s.dpll.lockMs = 10000 then s.setB F.DPLL_STAT_PHLOCK true else s
  let s := if s.on F.DPLL_STAT_PHLOCK && decide (2 * thr < e) then (s.setB F.DPLL_STAT_PHLOCK false).raise 30 else s
  let s := s.raiseIf (s.mode = 4 && s.on F.DPLL_MODE_SAMPIRQ) 31
  { s with apll := { s.apll with backMs := min 1001 (s.apll.backMs + 1) } }

/-- The ordered work of Table 4-3, then HOLD's millisecond.  A vote that expires on a tick is decided before that tick's R96 decision (log entry 32). -/
def State.dpllTick (s : State) : State :=
  let s := (s.slewStep.rmonUpdate.voteTick).select
  let s := s.setDpll { s.dpll with since := min 2000 (s.dpll.since + 1) }
  let (s, closed) := s.dpllReqs
  let s := (s.dpllModes.dpllPhase.dpllFreq).dpllWrite
  let s := closed.foldl (fun s h => s.done h (s.fw F.DPLL_GEN ++ s.fw F.DPLL_STAT)) s
  s.holdTick

/-- DPLL_STAT.PHLOCK sets after 10 s below LOCKTHR (Table 4-7). -/
def State.phLock (s : State) : State :=
  if s.on F.DPLL_STAT_PHVALID && decide (10000 ≤ s.dpll.lockMs ∧ (s.getI F.DPLL_PHERR).natAbs < s.get F.DPLL_LOCKTHR * 100) then
    s.setB F.DPLL_STAT_PHLOCK true
  else s

/-! ### The oscillator behind TCORE (R126) -/

/-- The oscillator behind the TCORE clock: 12 AOSC_IN, 13 the crystal. -/
def State.tcoreOsc (s : State) : Nat := if !s.bit F.APLL_BYPSTAT_MAP 0 && s.apll.refs.getD 0 0 = 1 then 12 else 13

/-- f of an oscillator against the ensemble, 10^-24. -/
def State.oscFreq (s : State) (i : Nat) : Int := (((s.scale 14).hfOf i).map Prod.snd).getD 0

/-- The adjustment of DPLL_FREQ when the oscillator changes from `a` to `b` (R126), as a frequency. -/
def State.oscAdjust (s : State) (a b : Nat) : Int :=
  if s.on F.RMON_WITNESS_FVALID then -((s.oscFreq b - s.oscFreq a) * FS / 5000000000000000000000000) else 0

/-- Move the frequency in force by an amount, clamped under R117: the integrator in closed loop, frozen in HOLDOVER; DPLL_COMP in OPEN, where DPLL_FREQ
reads the last applied word plus DPLL_COMP (R121). -/
def State.moveFreq (s : State) (a : Int) : State :=
  if s.mode = 4 then
    let s := s.setI F.DPLL_COMP (s.getI F.DPLL_COMP + a / 4294967296)
    let (s, v) := s.clampFreq ((s.dpll.lastWord + s.getI F.DPLL_COMP) * 4294967296) false
    s.setI F.DPLL_FREQ (v / 4294967296)
  else
    let s := if s.mode = 3 then s else s.setDpll { s.dpll with integ := s.dpll.integ + a }
    let (s, v) := s.clampFreq (s.freq * 4294967296 + a) (s.mode ≠ 3)
    s.setI F.DPLL_FREQ (v / 4294967296)

/-- A switch of the TCORE clock that lost `lost` ps, from oscillator `a` to the present one (R125, R126). -/
def State.oscChanged (s : State) (a lost : Nat) : State :=
  let adj := s.oscAdjust a s.tcoreOsc
  let s := (s.moveFreq adj).setHold { s.hold with fe := s.hold.fe + adj, feHist := s.hold.feHist.map (· + adj) }
  let s := s.setDpll { s.dpll with lost := s.dpll.lost + lost }
  let s := s.set F.TBASE_INCR (incrOf s.freq s.dpll.adding)
  let s := s.ticClear
  let s := s.setTic { s.tic with noTest := true }
  (s.setB F.DPLL_STAT_OSCCHG true).hoscEval

/-! ### Lock, loss and bypass (R124 to R129) -/

/-- The BYPSTAT bits that a PLL feeds: 0 to 5 APLL_SYS, 6 APLL_LANE. -/
def bypMask (p : Nat) : Nat := if p = 0 then 0x3F else 0x40

/-- The lane reference switches (R250): BYPREF of every lane, interrupt 140 once the lanes are powered, the stamp term's time starts again. -/
def State.laneRef (s : State) (byp : Bool) : State :=
  let s := (List.range 10).foldl (fun s n => s.setB (F.LANE_LANE_STAT_BYPREF n) byp) s
  ({ s with mts := { s.mts with swMs := 0 } }).raiseIf (s.past 6) 140

/-- The consumers of PLL `p` switch to the bypass multiplier, if the crystal runs (R125, R129). -/
def State.toBypass (s : State) (p lost : Nat) : State :=
  if s.on F.APLL_BYPSTAT_XTALOK && !s.on (F.APLL_PLL_LOCK_BYPASS p) then
    let a := s.tcoreOsc
    let s := s.set F.APLL_BYPSTAT_MAP (s.get F.APLL_BYPSTAT_MAP ||| bypMask p)
    let s := (s.setB (F.APLL_PLL_LOCK_BYPASS p) true).raiseIf (s.past 6) 44
    if p = 0 then s.oscChanged a lost else if p = 1 then s.laneRef true else s
  else s

/-- The consumers of PLL `p` switch back (R125). -/
def State.fromBypass (s : State) (p lost : Nat) : State :=
  if s.on (F.APLL_PLL_LOCK_BYPASS p) then
    let a := s.tcoreOsc
    let s := s.set F.APLL_BYPSTAT_MAP (s.get F.APLL_BYPSTAT_MAP &&& (0x7F ^^^ bypMask p))
    let s := s.setB (F.APLL_PLL_LOCK_BYPASS p) false
    let s := s.raiseIf (s.get F.APLL_BYPSTAT_MAP = 0) 45
    if p = 0 then (({ s with apll := { s.apll with backMs := 0 } })).oscChanged a lost else if p = 1 then s.laneRef false else s
  else s

def State.setRuns (s : State) (p n : Nat) : State :=
  { s with apll := { s.apll with runs := modAt s.apll.runs p (fun _ => n) } }

/-- LOCKED changes (Table 4-10). -/
def State.setLocked (s : State) (p : Nat) (b : Bool) : State :=
  if s.on (F.APLL_PLL_LOCK_LOCKED p) = b then s else (s.setB (F.APLL_PLL_LOCK_LOCKED p) b).raise (40 + p)

/-- APLL_OUT stops its output stages (R128). -/
def State.squelch (s : State) : State :=
  if s.on (F.APLL_PLL_LOCK_SQUELCH 2) then s else (s.setB (F.APLL_PLL_LOCK_SQUELCH 2) true).raise 46

/-- What feeds on a PLL leaves it. -/
def State.pllOff (s : State) (p lost : Nat) : State := if p = 2 then s.squelch else s.toBypass p lost

/-- Reference edges present at PLL `p` from its present reference: the crystal, AOSC_IN, or APLL_SYS's 156.25 MHz, whose VCO runs while it is enabled
(log entry 34). -/
def State.refSeen (s : State) (p : Nat) : Bool :=
  match s.apll.refs.getD p 0 with
  | 0 => s.on F.APLL_BYPSTAT_XTALOK
  | 1 => s.apll.aoscAct
  | _ => s.on (F.APLL_PLL_CFG_ENABLE 0)

/-- A PLL declares loss (R124). -/
def State.pllLoss (s : State) (p lost : Nat) : State :=
  let s := s.setRuns p 0
  if s.on (F.APLL_PLL_LOCK_LOCKED p) then
    (((s.setLocked p false).inc (F.APLL_PLL_LOSSCNT p)).fault 5 (p + 1)).pllOff p lost
  else s

/-- A PLL declares lock.  In step 6 the islands leave the bypass multiplier at the first lock (R108), after that only once APLL_RETURN has passed
(R125); SQUELCH waits for APLL_OUT_RETURN (R128).  APLL_OUT's consumers are on no bypass multiplier once it has locked (log entry 34). -/
def State.pllLock (s : State) (p : Nat) : State :=
  let again := s.apll.first.getD p false || s.past 6
  let s := s.setLocked p true
  let s := { s with apll := { s.apll with first := modAt s.apll.first p (fun _ => true) } }
  if p = 2 then s.setB (F.APLL_PLL_LOCK_BYPASS 2) false else if again then s else s.fromBypass p 0

/-- N of a PLL in units of 2^-48 (R124): APLL_SYS on the crystal in place of the AOSC_IN it is set for multiplies by 100 (R127, Table 4-5). -/
def State.multN (s : State) (p : Nat) : Int :=
  if p < 2 ∧ s.apll.refs.getD p 0 = 0 ∧ s.get (F.APLL_PLL_CFG_REFSEL p) = 1 then 100 * 2 ^ 48
  else s.get (F.APLL_PLL_NINT p) * 2 ^ 48 + s.get (F.APLL_PLL_NFRAC p)

/-- A count of VCO cycles over one window against its expectation (R124): the deviation is within `tol` ppm. -/
def State.within (s : State) (p count tol : Nat) : Bool :=
  let n := s.multN p
  let pfd := s.get (F.APLL_PLL_LOCK_PFDNOW p)
  let n2 := if p = 2 then (if pfd = 1 then n else if pfd = 2 then 4 * n else 2 * n) else 2 * n
  let y : Int := if p = 2 then 8 * 2 ^ 48 + 5 * s.freq else 8 * 2 ^ 48
  let e : Int := 65536 * n2 * y
  let c : Int := 2 * count * 2 ^ 48 * 8 * 2 ^ 48
  ((c - e).natAbs * 1000000 : Nat) ≤ tol * e.natAbs

/-- The end of a count window (R124); without reference edges there is none. -/
def State.lockWindow (s : State) (p count lost : Nat) : State :=
  if !s.on (F.APLL_PLL_LOCK_REFACT p) then s
  else if s.on (F.APLL_PLL_LOCK_LOCKED p) then
    if s.within p count (s.get (F.APLL_PLL_LOCKCFG_UNLOCKTOL p)) then s else s.pllLoss p lost
  else if s.within p count (s.get (F.APLL_PLL_LOCKCFG_LOCKTOL p)) then
    let n := s.apll.runs.getD p 0 + 1
    let s := s.setRuns p n
    if s.get (F.APLL_PLL_LOCKCFG_LOCKWIN p) ≤ n then s.pllLock p else s
  else s.setRuns p 0

def State.setPllRef (s : State) (p r : Nat) : State :=
  { s with apll := { s.apll with refs := modAt s.apll.refs p (fun _ => r) } }

/-- PLL `p` changes reference; where TCORE runs from APLL_SYS and not from the bypass multiplier, its oscillator changes with it (R126, R129). -/
def State.changeRef (s : State) (p r : Nat) : State :=
  let a := s.tcoreOsc
  let s := s.setPllRef p r
  if p = 0 ∧ s.tcoreOsc ≠ a then s.oscChanged a 0 else s

def State.setAosc (s : State) (b : Bool) : State := { s with apll := { s.apll with aoscAct := b } }

/-- A PLL's reference shows no edge for 1.0 µs (R124, R127). -/
def State.pllRefLoss (s : State) (p lost : Nat) : State :=
  let s := s.setB (F.APLL_PLL_LOCK_REFACT p) false
  let s := s.raiseIf (p < 2) 43
  let aosc := decide (s.apll.refs.getD p 0 = 1)
  let s := if aosc then (s.setAosc false).fault 5 4 else s
  let s := s.pllLoss p lost
  let s := if aosc && p = 0 && s.on (F.APLL_PLL_CFG_AUTOREF 0) then (s.changeRef 0 0).setB (F.APLL_PLL_LOCK_REFACT 0) ((s.changeRef 0 0).refSeen 0)
    else s
  s.hoscEval

/-- A PLL re-locks: through the bypass multiplier, or through SQUELCH for APLL_OUT (R127, R136).  The time TBASE loses at the switch, up to 1.6 ns, is
as TIC measures it (R125, R126). -/
def State.relock (s : State) (p : Nat) : State :=
  let (n, s) := s.freeNat
  ((s.setRuns p 0).setLocked p false).pllOff p (n % 1601)

/-- AOSC_IN has been active for 1 s (R127). -/
def State.aoscReturn (s : State) : State :=
  let s := (s.setAosc true).hoscEval
  let s := if s.apll.refs.getD 1 0 = 1 then s.setB (F.APLL_PLL_LOCK_REFACT 1) true else s
  if s.get (F.APLL_PLL_CFG_REFSEL 0) = 1 then
    if s.on (F.APLL_PLL_CFG_AUTOREF 0) && s.apll.refs.getD 0 0 = 0 then
      ((s.relock 0).changeRef 0 1).setB (F.APLL_PLL_LOCK_REFACT 0) true
    else s.setB (F.APLL_PLL_LOCK_REFACT 0) true
  else s

/-! ### Spurs (R130) -/

/-- The distance in kHz of a VCO frequency (units of 2^-48 × 156.25 MHz) to the nearest multiple of 2^-k × 312.5 MHz,
rounded to the nearest kHz (DEDUCED from the example of R130, log entry 16); 0xFFFF from 65.535 MHz. -/
def spurKhz (n48 m48 : Nat) : Nat :=
  let r := n48 % m48
  let d := min r (m48 - r)
  let k := (d * 156250 + 2 ^ 47) / 2 ^ 48
  if 65535 * 2 ^ 48 ≤ d * 156250 then 0xFFFF else min k 0xFFFF

/-- The distances for ×1, ×2 and ÷2. -/
def spurs (n48 : Nat) : List Nat := [spurKhz n48 (2 ^ 48), spurKhz n48 (2 ^ 49), spurKhz n48 (2 ^ 47)]

/-- The option AUTO takes: the largest distance, ties to ×1, then ×2.  Distances are compared as exact values. -/
def autoPfd (n48 : Nat) : Nat :=
  let d := fun m : Nat => let r := n48 % m; min r (m - r)
  let a := d (2 ^ 48)
  let b := d (2 ^ 49)
  let c := d (2 ^ 47)
  if b ≤ a ∧ c ≤ a then 0 else if c ≤ b then 1 else 2

/-- APLL_OUT is configured or re-locked: its spurs and its detector option follow (R130). -/
def State.pfdChoose (s : State) : State :=
  let n := s.synthN
  let c := s.get (F.APLL_PLL_CFG_PFDMUL 2)
  let sp := spurs n
  let s := s.set (F.APLL_PLL_SPUR 2) (sp.getD 0 0 + sp.getD 1 0 * 65536 + sp.getD 2 0 * 2 ^ 32)
  s.set (F.APLL_PLL_LOCK_PFDNOW 2) (if c = 3 then autoPfd n else c)

/-- Configure or re-lock a PLL (R136).  APLL_OUT sees edges again with APLL_SYS back. -/
def State.pllRestart (s : State) (p : Nat) : State :=
  let s := s.relock p
  let s := s.changeRef p (s.get (F.APLL_PLL_CFG_REFSEL p))
  let s := s.setB (F.APLL_PLL_LOCK_REFACT p) (s.refSeen p)
  let s := if p = 0 ∧ s.apll.refs.getD 2 0 = 2 ∧ s.refSeen 2 then s.setB (F.APLL_PLL_LOCK_REFACT 2) true else s
  if p = 2 then s.pfdChoose else s

end Sys2Proof.Machine
end

