-- ==== Sys2Proof/Machine/Apll.lean ====
section
/-! DEFINITION. The commands of APLL (spec/04). -/
namespace Sys2Proof.Machine

/-- R124: a count window of PLL `p` ends with `count` VCO cycles; a switch that follows loses `lost` ps. -/
def execApllLockWindow (p count lost : Nat) (s : State) : Res :=
  if p < 3 ∧ s.on (F.APLL_PLL_CFG_ENABLE p) then hwAfter 5 s fun s => s.lockWindow p count lost else .next s

/-- R124: the reference of PLL `p` shows no edge for 1.0 µs. -/
def execApllRefLoss (p lost : Nat) (s : State) : Res :=
  if p < 3 then hwAfter 5 s fun s => s.pllRefLoss p lost else .next s

/-- R125: PLL `p` has held lock for its RETURN time and its consumers switch back. -/
def execApllReturnExpiry (p lost : Nat) (s : State) : Res :=
  if p < 2 ∧ s.on (F.APLL_PLL_LOCK_LOCKED p) then hwAfter 5 s fun s => s.fromBypass p lost else .next s

/-- R128: APLL_OUT has held lock for its RETURN time: SQUELCH clears and the CLKOUTs realign. -/
def execApllOutSquelchClear (s : State) : Res :=
  if s.on (F.APLL_PLL_LOCK_LOCKED 2) then
    hwAfter 5 s fun s => (s.setB (F.APLL_PLL_LOCK_SQUELCH 2) false).realignAll
  else .next s

/-- R127: AOSC_IN has been active for 1 s. -/
def execAoscReturn (s : State) : Res := hwAfter 5 s State.aoscReturn

/-- R129: the crystal stops. -/
def execCrystalStop (s : State) : Res :=
  if s.on F.APLL_BYPSTAT_XTALOK then
    hwAfter 5 s fun s => ((s.setB F.APLL_BYPSTAT_XTALOK false).fault 5 5).hoscEval
  else .next s

/-- R136: APLL_CFG. -/
def execApllCfg (h : WbHead) (ps : List Word) (s : State) : Res :=
  runOp 0x2800 false h ps s fun s =>
    let p := param s ps 0
    if 3 ≤ p then s.waybillErr 5 h else
    let l := cfgValues s ps 2 ([(F.APLL_PLL_CFG p).addr, (F.APLL_PLL_NINT p).addr, (F.APLL_PLL_NFRAC p).addr] ++
      (if p = 2 then [(F.APLL_PLL_POSTDIV p).addr] else []))
    let l2 := cfgValues s ps 8 [(F.APLL_PLL_LOCKCFG p).addr, (F.APLL_PLL_RETURN p).addr]
    let fixed := if p = 2 then l else l.map (fun x => if x.1 = (F.APLL_PLL_CFG p).addr then (x.1, putBits x.2 2 2 0) else x)
    let lc := param s ps 8
    if lc / 16 % 64 ≤ lc % 16 ∨ (p < 2 ∧ (paramN s ps 4 3 ≠ 0 ∨ param s ps 2 % 4 = 2)) then
      genCheck (F.APLL_PLL_GEN p) (param s ps 1) h s fun s => s.waybillErr 5 h
    else cfgOp (F.APLL_PLL_GEN p) (param s ps 1 1) (fixed ++ l2) (fun _ s => s.pllRestart p) h s

/-- R136: APLL_RELOCK. -/
def execApllRelock (h : WbHead) (ps : List Word) (s : State) : Res :=
  runOp 0x2840 false h ps s fun s =>
    let p := param s ps 0
    if 3 ≤ p then s.waybillErr 5 h
    else genCheck (F.APLL_PLL_GEN p) (param s ps 1) h s fun s =>
      let s := (s.bump (F.APLL_PLL_GEN p)).pllRestart p
      s.done h (s.fw (F.APLL_PLL_GEN p))

/-- R130: APLL_SPURSCAN for a VCO frequency in kHz. -/
def execApllSpurscan (h : WbHead) (ps : List Word) (s : State) : Res :=
  runOp 0x2880 false h ps s fun s =>
    let f := paramN s ps 0 2
    if f < 5600000 ∨ 6400000 < f then s.waybillErr 5 h
    else
      let d := fun m : Nat => min (f * 2 % m) (m - f * 2 % m)
      let k := fun m : Nat => if 131070 ≤ d m then 0xFFFF else d m / 2
      let a := d 312500
      let b := d 625000
      let c := d 156250
      let best := if b ≤ a ∧ c ≤ a then 0 else if c ≤ b then 1 else 2
      (s.done h [w16 (k 312500), w16 (k 625000), w16 (k 156250), w16 best])

/-- R136: APLL_REPORT.  Its read leaves the loss counts as they are (DESIGN CHOICE, log entry 34: other reports of the manual say "read as RC", this
one does not). -/
def execApllReport (h : WbHead) (ps : List Word) (s : State) : Res :=
  runOp 0x28C0 false h ps s fun s =>
    (s.done h ([F.APLL_PLL_LOCK 0, F.APLL_PLL_LOCK 1, F.APLL_PLL_LOCK 2, F.APLL_PLL_LOSSCNT 0, F.APLL_PLL_LOSSCNT 1,
      F.APLL_PLL_LOSSCNT 2, F.APLL_BYPSTAT].map (fun f => s.rd f.addr)))

end Sys2Proof.Machine
end

