-- ==== Sys2Proof/Machine/MtsOps.lean ====
section
/-! DEFINITION. The shared operations of MTS: stamps and the stamp term (spec/09 R245 to R252), and what lanes make of ports. -/
namespace Sys2Proof.Machine

def State.setMts (s : State) (m : Mts) : State := { s with mts := m }

/-! ### Ports and lanes (R234, R242) -/

/-- The port mode, and the number of ports it gives (Table 9-1). -/
def State.portMode (s : State) : Nat := s.get F.LANE_MODE_PORTMODE
def State.nPorts (s : State) : Nat := if s.portMode = 1 then 2 else 8

/-- The lanes of a port; the lane whose transmit stamp is the port's (R245). -/
def State.portLanes (s : State) (p : Nat) : List Nat := if s.portMode = 1 then [4 * p, 4 * p + 1, 4 * p + 2, 4 * p + 3] else [p]
def State.txLane (s : State) (p : Nat) : Nat := if s.portMode = 1 then 4 * p else p

/-- The port of a service lane, and the port group of a port. -/
def State.lanePort (s : State) (n : Nat) : Nat := if s.portMode = 1 then n / 4 else n
def State.portGroup (s : State) (p : Nat) : Nat := if s.portMode = 1 then p else p / 4

/-- The ports of a group. -/
def State.groupPorts (s : State) (g : Nat) : List Nat := (List.range s.nPorts).filter (fun p => s.portGroup p = g)

/-- A lane is UP; a port is UP while all its lanes are (R242). -/
def State.laneUp (s : State) (n : Nat) : Bool := s.get (F.LANE_LANE_STAT_STATE n) = 4
def State.portUp (s : State) (p : Nat) : Bool := p < s.nPorts && (s.portLanes p).all s.laneUp

/-- A port UP that receives no local fault sends frames (R243). -/
def State.portSends (s : State) (p : Nat) : Bool := s.portUp p && !(s.portLanes p).any (fun n => s.mts.lfault.contains n)

/-! ### Stamps (R247) -/

/-- A time in 2^-48 ns rounded to 2^-12 ns. -/
def round12 (t : Int) : Nat := ((t + 2 ^ 35) / 2 ^ 36).toNat * 2 ^ 36

/-- A meter's TBASE time of word edge `k`. -/
def Meter.edge (m : Meter) (k : Nat) : Int := m.time + ((k : Int) - m.word) * m.period

/-- A receive stamp: t_rx(k) − L_rx + b × UI − RXDLY, `lat` in 2^-48 ns and `dly` in 2^-12 ns. -/
def rxStamp (m : Meter) (lat : Nat) (dly : Int) (p : MeterPoint) : Nat := round12 (m.edge p.word - lat + p.bit * m.period / 32 - dly * 2 ^ 36)

/-- A transmit stamp: t_tx(k) + L_tx + b × UI + TXDLY. -/
def txStamp (m : Meter) (lat : Nat) (dly : Int) (p : MeterPoint) : Nat := round12 (m.edge p.word + lat + p.bit * m.period / 32 + dly * 2 ^ 36)

def State.txM (s : State) (n : Nat) : Meter := at' {} s.mts.tx n
def State.rxM (s : State) (n : Nat) : Meter := at' {} s.mts.rx n

/-- The receive stamp of a reference point on lane `n`. -/
def State.rxStampOf (s : State) (n : Nat) (p : MeterPoint) : Nat :=
  rxStamp (s.rxM n) (Config.latRx n (s.get F.LANE_MODE)) (s.getI (F.MTS_LANE_RXDLY n)) p

/-- The crossing time on lane `n` of a delimiter in unit interval `pos`, measured or predicted. -/
def State.txStampOf (s : State) (n pos : Nat) : Nat :=
  txStamp (s.txM n) (Config.latTx n (s.get F.LANE_MODE)) (s.getI (F.MTS_LANE_TXDLY n)) ⟨pos / 32, pos % 32⟩

/-- A receive stamp of lane `n` is made: stamping enabled and the receive meter locked. -/
def State.rxMeter (s : State) (n : Nat) : Bool := s.on (F.MTS_LANE_CFG n) && s.bit F.MTS_RXLOCKMAP n
def State.txMeter (s : State) (n : Nat) : Bool := s.on (F.MTS_LANE_CFG n) && s.bit F.MTS_LOCKMAP n

/-- The measured transmit stamp of a frame on lane `n`, shown in MTS_LANEn_TXSTAMP; none without the meter. -/
def State.txMeasure (s : State) (n pos : Nat) : State × Option Nat :=
  if s.txMeter n then
    let t := s.txStampOf n pos
    (s.set (F.MTS_LANE_TXSTAMP n) (time128 t), some t)
  else (s, none)

/-- The receive stamp of a frame on lane `n`, shown in MTS_LANEn_RXSTAMP; none without the meter. -/
def State.rxMeasure (s : State) (n : Nat) (m : MeterPoint) : State × Option Nat :=
  if s.rxMeter n then
    let t := s.rxStampOf n m
    (s.set (F.MTS_LANE_RXSTAMP n) (time128 t), some t)
  else (s, none)

/-- The prediction check of a confirmed speculative frame (R251). -/
def State.predCheck (s : State) (n pred meas : Nat) : State :=
  let e := ((pred : Int) - meas).natAbs / 2 ^ 36
  let s := if s.get (F.MTS_LANE_PREDERR n) < e then s.setSat (F.MTS_LANE_PREDERR n) e else s
  if s.get F.MTS_PREDTOL < e then ((s.inc (F.MTS_LANE_PREDCNT n)).raise 139).fault 0x0A 3 (satNat 32 e) else s

/-! ### The stamp term (R250) -/

/-- Units of 2^-12 ns in ps, rounded up. -/
def lsbToPs (x : Nat) : Nat := ceilDiv (x * 1000) 4096

/-- The stamp term of lane `n` in ps (Table 9-6 plus DLYUNC). -/
def State.stampTerm (s : State) (n : Nat) : Nat :=
  (if s.mts.swMs < 2 then 6400 else if s.on (F.LANE_LANE_STAT_BYPREF n) || s.mts.swMs < 1001 then 500 else 40) + lsbToPs (s.get (F.MTS_LANE_DLYUNC n))

/-- MTS_LANEn_BND follows the terms. -/
def State.showTerms (s : State) : State := (List.range 10).foldl (fun s n => s.setSat (F.MTS_LANE_BND n) (s.stampTerm n)) s

/-! ### The meters (R246) -/

/-- The nominal word period of a lane, 2^-48 ns: 32 bits at 25.78125 or 10.3125 Gbaud. -/
def State.nominal (s : State) (n : Nat) : Nat := 1024 * NS48 / (if 8 ≤ n || s.portMode = 2 then 330 else 825)

/-- A word period lies within ±250 ppm of nominal. -/
def State.inRange (s : State) (n period : Nat) : Bool := decide (((period : Int) - s.nominal n).natAbs * 1000000 ≤ 250 * s.nominal n)

/-- A word period as the clock's frequency against TBASE, 10^-13. -/
def State.meterFreq (s : State) (n period : Nat) : Int := ((s.nominal n : Int) - period) * 10000000000000 / max 1 period

/-- A meter's model, and the registers that show it. -/
def State.setMeter (s : State) (n : Nat) (rx : Bool) (m : Meter) (resid : Nat) : State :=
  if rx then ((s.setMts { s.mts with rx := modAt s.mts.rx n (fun _ => m) }).setI (F.MTS_LANE_RXFREQ n) (s.meterFreq n m.period)).setSat (F.MTS_LANE_RESID_RX n) resid
  else ((s.setMts { s.mts with tx := modAt s.mts.tx n (fun _ => m) }).setI (F.MTS_LANE_TXFREQ n) (s.meterFreq n m.period)).setSat (F.MTS_LANE_RESID_TX n) resid

/-- A millisecond of a locked meter's loop: its model moves to a word edge of the present, and follows its clock within ±250 ppm with a residual that
keeps it locked; one entry of its linearity table is refreshed.  How far each moves is its detector's, an open value (log entry 73). -/
def State.meterTick (rx : Bool) (s : State) (n : Nat) : State :=
  if s.bit (if rx then F.MTS_RXLOCKMAP else F.MTS_LOCKMAP) n then
    let m := if rx then s.rxM n else s.txM n
    let (e, s) := s.freeNat
    let (p, s) := s.freeNat
    let (i, s) := s.freeNat
    let (r, s) := s.freeNat
    let lim := 4 * s.get F.MTS_METERTOL
    let w := s.nominal n * 250 / 1000000
    let k := (s.now - m.time) / max 1 m.period
    let t : Int := m.edge (m.word + k) + (e % (2 * lim * 2 ^ 36 + 1) : Nat) - lim * 2 ^ 36
    s.setMeter n rx ⟨m.word + k, t.toNat, s.nominal n - w + p % (2 * w + 1), Machine.store 0 m.table (i % 1024) ((i / 1024 % 2048 : Nat) - 1024)⟩ (r % (lim + 1))
  else s

/-- TBASE has moved by `d` (2^-48 ns): MTS rebases its models on the new time (R272). -/
def State.rebase (s : State) (d : Int) : State :=
  let f := fun m : Meter => { m with time := ((m.time : Int) + d).toNat }
  s.setMts { s.mts with tx := s.mts.tx.map f, rx := s.mts.rx.map f }

/-- Invalid sync headers are counted. -/
def State.badHeaders (s : State) (n k : Nat) : State := s.setSat (F.LANE_LANE_BERCNT n) (s.get (F.LANE_LANE_BERCNT n) + k)

/-- The invalid sync headers of a millisecond on a lane that has block lock: how many the medium brings is an open value (log entry 73). -/
def State.headerTick (s : State) (n : Nat) : State :=
  if s.on (F.LANE_LANE_STAT_BLKLOCK n) then
    let (k, s) := s.freeNat
    s.badHeaders n (k % 65536)
  else s

/-- MTS's and LANE's millisecond. -/
def State.mtsTick (s : State) : State :=
  let s := (List.range 10).foldl State.headerTick s
  let s := s.setMts { s.mts with swMs := min 1001 (s.mts.swMs + 1) }
  let s := (List.range 10).foldl (State.meterTick false) s
  ((List.range 10).foldl (State.meterTick true) s).showTerms

/-! ### Rate matching (R237) -/

/-- What MTS predicts for lane `n`'s transmit buffer. -/
def State.ratePlan (s : State) (n : Nat) : RatePlan := at' ⟨[], none⟩ s.mts.plan n

/-- What of a plan lies ahead of unit interval `pos`: two events, and the marker. -/
def ahead (pos : Nat) (p : RatePlan) : RatePlan := ⟨(p.events.filter (fun e => pos < e.1)).take 2, p.marker.filter (fun m => decide (pos < m))⟩

/-- MTS's predictions for lane `n`: what lies ahead of unit interval `pos`. -/
def State.setPlan (s : State) (n pos : Nat) (p : RatePlan) : State := s.setMts { s.mts with plan := modAt s.mts.plan n (fun _ => ahead pos p) }

/-- The frequency of lane `n`'s transmit clock against NET's, 10^-13: NET runs with TCORE, whose rate TBASE corrects by DPLL_FREQ (R113). -/
def State.netDiff (s : State) (n : Nat) : Int := s.getI (F.MTS_LANE_TXFREQ n) + s.freq * 100000000000000 / 2 ^ 52

/-- The next two events after unit interval `pos` with a fill of `fill` (R236): a lane faster than NET by `diff` drains the buffer to 14, a slower one fills
it to 18, by one block in as many blocks as the difference gives; an event lies on a block boundary (log entry 45). -/
def planEvents (diff : Int) (pos fill : Nat) : List (Nat × Bool) :=
  if diff = 0 then []
  else
    let ins := decide (0 < diff)
    let need := max 1 (if ins then fill - 14 else 18 - fill)
    [need, need + 1].map (fun k => (pos + 66 * ceilDiv (k * 10000000000000) diff.natAbs, ins))

/-- The model of lane `n`'s buffer from `pos` on, with a fill of `fill`; a known marker stays known (R237). -/
def State.planAfter (s : State) (n pos fill : Nat) (marker : Option Nat) : RatePlan :=
  ahead pos ⟨if s.bit F.MTS_LOCKMAP n then planEvents (s.netDiff n) pos fill else [], marker.orElse (fun _ => (s.ratePlan n).marker)⟩

/-- MTS rebuilds its model of lane `n`'s buffer (R237, R238). -/
def State.rebuild (s : State) (n pos fill : Nat) (marker : Option Nat) : State := s.setPlan n pos (s.planAfter n pos fill marker)

/-- An alignment marker has passed; the next one is at `marker`. -/
def State.setMarker (s : State) (n pos : Nat) (marker : Option Nat) : State := s.setPlan n pos { s.ratePlan n with marker := marker }

/-- MTS_LANEn_RMNEXT: lane words from the present one to the next predicted event, saturating (Table 9-10); 0 without a model. -/
def State.rmNext (s : State) (n : Nat) : Nat :=
  if !s.bit F.MTS_LOCKMAP n then 0
  else
    let m := s.txM n
    let w : Int := m.word + ((s.now : Int) - m.time) / (max 1 m.period : Nat)
    ((s.ratePlan n).events.head?.map (fun e => min 65535 (((e.1 / 32 : Nat) : Int) - w).toNat)).getD 65535

end Sys2Proof.Machine
end

