-- ==== Sys2Proof/Machine/MemOps.lean ====
section
/-! DEFINITION. The in-package memory (spec/12 R320 to R323): byte access, the memory map, entries and their CRC. -/
namespace Sys2Proof.Machine

/-! ### Bytes -/

/-- The byte at an address; a byte that nothing has written reads 0 (log entry 10). -/
def State.byte (s : State) (a : Nat) : Nat := (look (0 : Byte) s.mem a).toNat

/-- The number in `n` bytes from an address, least significant byte first. -/
def State.memN (s : State) (a : Nat) : Nat → Nat
  | 0 => 0
  | n + 1 => s.byte a + 256 * s.memN (a + 1) n

/-- Cells with the bytes of a number put in, least significant first. -/
def putCells (m : List Host.Cell) (a v : Nat) : Nat → List Host.Cell
  | 0 => m
  | n + 1 => putCells (store (0 : Byte) m a (BitVec.ofNat 8 v)) (a + 1) (v / 256) n

/-- Cells with `n` bytes from an address at 0. -/
def clearCells (m : List Host.Cell) (a n : Nat) : List Host.Cell := m.filter (fun c => c.1 < a || a + n ≤ c.1)

/-- Put a number into `n` bytes. -/
def State.memPut (s : State) (a n v : Nat) : State :=
  { s with mem := if v = 0 then clearCells s.mem a n else putCells s.mem a v n }

/-- The words of `n` bytes pairs from an address. -/
def State.memWords (s : State) (a : Nat) : Nat → List Word
  | 0 => []
  | n + 1 => w16 (s.memN a 2) :: s.memWords (a + 2) n

/-! ### The memory map (Table 12-1) -/

/-- The first addresses of the regions, and the end. -/
def idxBase : Nat := 0x100000000
def histBase : Nat := 0x110000000
def loadBase : Nat := 0x190000000
def readBase : Nat := 0x1CC000000
def acqBase : Nat := 0x1EC000000
def ldgBase : Nat := 0x1FC000000
def memEnd : Nat := 0x200000000

/-! ### CRC-32 of IEEE 802.3, reflected -/

/-- Eight steps of the register. -/
def crcBits : Nat → Nat → Nat
  | 0, c => c
  | k + 1, c => crcBits k (if c % 2 = 1 then (c / 2) ^^^ 0xEDB88320 else c / 2)

/-- The register after bytes. -/
def crcRun (c : Nat) : List Nat → Nat
  | [] => c
  | b :: r => crcRun (crcBits 8 (c ^^^ b)) r

/-- The CRC-32 of bytes. -/
def crc32 (bs : List Nat) : Nat := crcRun 0xFFFFFFFF bs ^^^ 0xFFFFFFFF

/-- The bytes of `n` addresses. -/
def State.memBytes (s : State) (a : Nat) : Nat → List Nat
  | 0 => []
  | n + 1 => s.byte a :: s.memBytes (a + 1) n

/-! ### Entries (Table 12-3) -/

def entAddr (n : Nat) : Nat := n * 0x400
def histAddr (n : Nat) : Nat := histBase + n * 0x200

/-- A field of an entry: byte offset and length. -/
def State.eGet (s : State) (n off len : Nat) : Nat := s.memN (entAddr n + off) len
def State.ePut (s : State) (n off len v : Nat) : State := s.memPut (entAddr n + off) len v

/-- Bit `i` of ENTCTL: 0 VALID, 1 SUSPECT, 2 BAD. -/
def State.eBit (s : State) (n i : Nat) : Bool := s.eGet n 0 2 / 2 ^ i % 2 = 1
def State.eSetBit (s : State) (n i : Nat) (b : Bool) : State := s.ePut n 0 2 (putBits (s.eGet n 0 2) i 1 (if b then 1 else 0))
def State.eValid (s : State) (n : Nat) : Bool := s.eBit n 0
def State.eBad (s : State) (n : Nat) : Bool := s.eBit n 2
def State.eGen (s : State) (n : Nat) : Nat := s.eGet n 0x16 2
def State.ePermit (s : State) (n : Nat) : Nat := s.eGet n 0x14 2

/-- Count one up in a 32-bit saturating counter of an entry. -/
def State.eInc (s : State) (n off : Nat) : State := s.ePut n off 4 (satNat 32 (s.eGet n off 4 + 1))

/-- The key an entry holds (R325). -/
def State.eKey (s : State) (n : Nat) : Key :=
  ⟨s.eGet n 0 2 / 32 % 2, s.eGet n 2 2 % 4096, s.eGet n 0 2 / 8 % 4, s.eGet n 4 16⟩

/-- SECONDS bits 31 to 0, then NS, of a time (Table 12-3). -/
def stamp64 (t : Nat) : Nat := t / SEC48 % 2 ^ 32 + t % SEC48 / NS48 * 2 ^ 32

/-- Such a stamp in ns. -/
def stampNs (v : Nat) : Nat := v % 2 ^ 32 * 1000000000 + v / 2 ^ 32

/-! ### Grants (Table 12-4, R284) -/

/-- Grant record `i` of an entry. -/
def State.eGrant (s : State) (n i : Nat) : Nat := s.eGet n (0x70 + 16 * i) 16

/-- A grant record is VALID and of its group's present epoch. -/
def State.grantLive (s : State) (n rec : Nat) : Bool :=
  rec % 2 = 1 && rec / 65536 % 65536 = s.pkt.epoch.getD (s.eGet n 0 2 / 32 % 2) 0

/-- CTAB clears void grant records as it writes the entry (R323). -/
def State.clearVoid (s : State) (n : Nat) : State :=
  (List.range 3).foldl (fun s i =>
    let r := s.eGrant n i
    if r % 2 = 1 && !s.grantLive n r then s.ePut n (0x70 + 16 * i) 16 0 else s) s

/-- ENTCRC is recomputed with every write of bytes 0x000 to 0x0FB (R323). -/
def State.seal (s : State) (n : Nat) : State :=
  let s := s.clearVoid n
  s.ePut n 0xFC 4 (crc32 (s.memBytes (entAddr n) 0xFC))

/-- The entries that memory holds anything of, rising. -/
def entryNums : List Host.Cell → List Nat
  | [] => []
  | c :: r =>
    let l := entryNums r
    if c.1 < idxBase then insertNat l (c.1 / 0x400) else l

end Sys2Proof.Machine
end

