-- ==== Sys2Proof/Machine/CtabOps.lean ====
section
/-! DEFINITION. The shared operations of CTAB (spec/12): index, bucket decision, commits, load records, bulk operations, memory errors. -/
namespace Sys2Proof.Machine

def State.setCtab (s : State) (c : Ctab) : State := { s with ctab := c }
def State.setPkt (s : State) (p : Pkt) : State := { s with pkt := p }

/-- CTAB's memory is trained and the table in service (R339). -/
def State.ctabUp (s : State) : Bool := s.on F.CTAB_STAT_READY

/-! ### The grants PKT schedules (R283, R284) -/

/-- The load of a grant in 1/128 message per second. -/
def UGrant.load (g : UGrant) : Nat := 2 ^ (7 - g.log).toNat

/-- PKT's grants change; PKT_GRANTLOAD and PKT_GRANTCNT follow. -/
def State.setGrants (s : State) (l : List UGrant) : State :=
  let n := l.foldl (fun a g => a + g.load) 0
  ((s.setPkt { s.pkt with grants := l, load := n }).setSat F.PKT_GRANTLOAD (n / 128)).setSat F.PKT_GRANTCNT l.length

/-- The grants of an entry end at once. -/
def State.dropGrants (s : State) (n : Nat) : State :=
  if s.pkt.grants.any (fun g => g.entry = n) then s.setGrants (s.pkt.grants.filter (fun g => g.entry ≠ n)) else s

/-! ### The index (R325, R326) -/

/-- A client key as a number. -/
def keyNum (k : Key) : Nat := k.addr % 2 ^ 128 + 2 ^ 128 * (k.atype % 4 + 4 * (k.group % 2 + 2 * (k.vid % 4096)))

/-- The two buckets of a key and its signature. -/
def State.bucketA (s : State) (k : Key) : Nat := Config.ctabBucketA s.ctab.hashKey (keyNum k) % 4194304
def State.bucketB (s : State) (k : Key) : Nat := Config.ctabBucketB s.ctab.hashKey (keyNum k) % 4194304
def State.sigOf (s : State) (k : Key) : Nat := Config.ctabSignature s.ctab.hashKey (keyNum k) % 2 ^ 40

/-- The address and the contents of a way. -/
def wayAddr (b i : Nat) : Nat := idxBase + b * 64 + i * 8
def State.way (s : State) (b i : Nat) : Nat := s.memN (wayAddr b i) 8
def State.setWay (s : State) (b i v : Nat) : State := s.memPut (wayAddr b i) 8 v

/-- The entry that a way of a bucket names for a key: VALID, signature, and the entry's whole key. -/
def State.findIn (s : State) (b : Nat) (k : Key) : Option Nat :=
  ((List.range 8).find? (fun i =>
    let w := s.way b i
    decide (w / 2 ^ 63 = 1) && decide (w / 2 ^ 22 % 2 ^ 40 = s.sigOf k) && s.eValid (w % 2 ^ 22) && decide (s.eKey (w % 2 ^ 22) = k))).map
      (fun i => s.way b i % 2 ^ 22)

/-- The VALID entry that holds a key. -/
def State.findKey (s : State) (k : Key) : Option Nat := (s.findIn (s.bucketA k) k).orElse fun _ => s.findIn (s.bucketB k) k

/-- A lookup reads a bucket that is being rebuilt. -/
def State.rebuilding (s : State) (k : Key) : Bool := s.ctab.rebuild.contains (s.bucketA k) || s.ctab.rebuild.contains (s.bucketB k)

/-- The first free way of a bucket. -/
def State.freeWay (s : State) (b : Nat) : Option Nat := (List.range 8).find? (fun i => s.way b i / 2 ^ 63 = 0)

/-- The contents of a way for an entry. -/
def State.wayOf (s : State) (k : Key) (n : Nat) : Nat := 2 ^ 63 + s.sigOf k * 2 ^ 22 + n % 2 ^ 22

/-- Put an entry's way into a full bucket by moving one of its ways to that key's other bucket, at most `fuel` moves; which way moves is open. -/
def State.cuckoo (s : State) (b v : Nat) : Nat → Option State
  | 0 => none
  | fuel + 1 =>
    let (r, s) := s.freeNat
    let i := r % 8
    let old := s.way b i
    let s := s.setWay b i v
    let k := s.eKey (old % 2 ^ 22)
    let b2 := if s.bucketA k = b then s.bucketB k else s.bucketA k
    match s.freeWay b2 with
    | some j => some (s.setWay b2 j old)
    | none => s.cuckoo b2 old fuel

/-- Insert a key for an entry; none where no place is found. -/
def State.idxInsert (s : State) (k : Key) (n : Nat) : Option State :=
  let v := s.wayOf k n
  match s.freeWay (s.bucketA k) with
  | some i => some (s.setWay (s.bucketA k) i v)
  | none => match s.freeWay (s.bucketB k) with
    | some i => some (s.setWay (s.bucketB k) i v)
    | none => s.cuckoo (s.bucketA k) v 32

/-- No place was found (R326). -/
def State.idxFull (s : State) : State := (s.inc F.CTAB_IDXFULL).raise 184

/-- Take an entry's ways for a key out of its two buckets. -/
def State.removeIn (s : State) (b n : Nat) : State :=
  (List.range 8).foldl (fun s i =>
    let w := s.way b i
    if w / 2 ^ 63 = 1 && w % 2 ^ 22 = n then s.setWay b i 0 else s) s

def State.removeKey (s : State) (k : Key) (n : Nat) : State := (s.removeIn (s.bucketA k) n).removeIn (s.bucketB k) n

/-! ### Leases (R328, R329) -/

/-- An entry is under a lease that its holder has not released. -/
def State.leased (s : State) (n : Nat) : Bool := s.ctab.leases.any (fun l => l.entry = n)

/-- Take a lease whose holder keeps its write set open. -/
def State.holdLease (s : State) (n : Nat) (op : LeaseOp) : State := s.setCtab { s.ctab with leases := s.ctab.leases ++ [⟨n, op⟩] }

def State.dropLease (s : State) (n : Nat) : State := s.setCtab { s.ctab with leases := s.ctab.leases.filter (fun l => l.entry ≠ n) }

def State.req? (s : State) (id : Nat) : Option Req := s.pkt.reqs.find? (fun r => r.id = id)

/-- The head of a bulk operation that is taken. -/
def Bulk.wb : Bulk → WbHead
  | .load h .. => h
  | .sweep h .. => h
  | .dump h .. => h

/-- The running load, sweep and dump. -/
def State.loadRun (s : State) : Option Bulk := s.ctab.bulks.find? (fun b => match b with | .load .. => true | _ => false)
def State.sweepRun (s : State) : Option Bulk := s.ctab.bulks.find? (fun b => match b with | .sweep .. => true | _ => false)
def State.dumpRun (s : State) : Option Bulk := s.ctab.bulks.find? (fun b => match b with | .dump .. => true | _ => false)

/-- The bulk operation runs: it is not held back, and its engine is not fenced. -/
def State.bulkRuns (s : State) (b : Option Bulk) : Bool := b.any (fun b => s.running b.wb) && !s.bit F.FCOL_FENCEMAP 6

/-- The entry that the next load record names, and the one that the sweep visits next. -/
def State.loadEntry (s : State) : Nat :=
  match s.loadRun with
  | some (.load _ next _ _ _) => s.memN (loadBase + next * 320) 4 % 2 ^ 29
  | _ => 0
def State.sweepEntry (s : State) : Nat :=
  match s.sweepRun with
  | some (.sweep _ next ..) => next
  | _ => 0

/-- A holder that asked for a lease still wants it. -/
def State.wants (s : State) (l : Lease) : Bool :=
  match l.op with
  | .decide id => (s.req? id).any (fun r => r.dec.isNone)
  | .commit c => s.ctab.commits.head? = some c
  | .load => s.bulkRuns s.loadRun && s.loadEntry = l.entry
  | .sweep => s.bulkRuns s.sweepRun && s.sweepEntry = l.entry

/-- The lease of an entry is free for a holder: no other holds it, and none that still wants it asked before (R328). -/
def State.mayLease (s : State) (n : Nat) (op : LeaseOp) : Bool :=
  !s.leased n && (match s.ctab.queue.find? (fun l => l.entry = n && s.wants l) with
    | some l => l.op = op
    | none => true)

/-- A holder asks for the lease of an entry, behind those that asked before. -/
def State.askLease (s : State) (n : Nat) (op : LeaseOp) : State :=
  let q := s.ctab.queue.filter s.wants
  s.setCtab { s.ctab with queue := if q.contains ⟨n, op⟩ then q else q ++ [⟨n, op⟩] }

/-- A holder's turn at an entry: it writes under the lease, or waits for it in order of request (R328). -/
def State.underLease (s : State) (n : Nat) (op : LeaseOp) (f : State → State) : State :=
  if s.mayLease n op then f (s.setCtab { s.ctab with queue := s.ctab.queue.filter (fun l => l ≠ ⟨n, op⟩) }) else s.askLease n op

/-! ### Lookup and bucket decision (R264, R321, R331) -/

def State.modReq (s : State) (id : Nat) (f : Req → Req) : State :=
  s.setPkt { s.pkt with reqs := s.pkt.reqs.map (fun r => if r.id = id then f r else r) }

/-- CTAB's answer to a request's lookup. -/
def State.decide' (s : State) (id : Nat) (d : Decision) : State := s.modReq id (fun r => { r with dec := some d })

/-- The PERMIT bit of a class, in the order of Table 10-1 from 0. -/
def classPermit (c : Nat) : Nat := [0, 2, 1, 4, 4, 5].getD c 5

/-- The tokens of a bucket after its refill, in 1/256 request: RATE × elapsed, capped at the depth. -/
def refill (rate depth tokens elapsedNs : Nat) : Nat := min (depth * 256) (tokens + rate * elapsedNs / 1000000000)

/-- What a grant carries to PKT. -/
def State.grantd (s : State) (n prev : Nat) : Grantd :=
  let i := s.eGet n 0x68 2
  { entry := n, gen := s.eGen n, permit := s.ePermit n, trim := toSigned 32 (s.eGet n 0x34 4), bnd := s.eGet n 0x38 4,
    irx := ofTime128 (s.eGet n 0x48 16), itx := ofTime128 (s.eGet n 0x58 16), irxv := i % 2 = 1, itxv := i / 2 % 2 = 1, prevNs := stampNs prev }

/-- The bucket decision of a request on a VALID entry, under its lease (R331). -/
def State.decideEntry (s : State) (r : Req) (n : Nat) : State :=
  let prev := s.eGet n 0x40 8
  let rx := stamp64 r.rx
  let s := s.ePut n 0x40 8 rx
  let s := if s.eGet n 0xC4 4 = 0 then s.ePut n 0xC4 4 (rx % 2 ^ 32) else s
  let s := s.eInc n 0xB0
  if s.ePermit n / 2 ^ classPermit r.cls % 2 = 0 then ((s.eInc n 0xB8).seal n).decide' r.id .denied
  else
    let t := refill (s.eGet n 0x20 4) (s.eGet n 0x24 2) (s.eGet n 0x28 4) (stampNs rx - stampNs (s.eGet n 0x2C 8))
    let s := s.ePut n 0x2C 8 rx
    if t < 256 then (((s.ePut n 0x28 4 t).eInc n 0xB8).seal n).decide' r.id .denied
    else
      let s := (s.ePut n 0x28 4 (t - 256)).seal n
      s.decide' r.id (.grant (s.grantd n prev))

/-- A request needs CTAB's lookup: Pdelay_Req and slave input are no client's matter (Table 10-1). -/
def Req.looksUp (r : Req) : Bool := r.cls ≠ 4 && r.cls ≠ 6

/-- The requests of a key are decided in their order (R264, R328): no earlier one of request `r`'s key still waits for its decision. -/
def State.turn (s : State) (r : Req) : Bool :=
  (s.pkt.reqs.takeWhile (fun q => q.id ≠ r.id)).all (fun q => q.dec.isSome || !q.looksUp || q.key ≠ r.key)

/-- A lookup (R325, R326, R321); an entry that is under lease, or SUSPECT until its re-read, makes it wait.  `held` leaves the decision's lease open. -/
def State.lookup (s : State) (r : Req) (held : Bool) : State :=
  match s.findKey r.key with
  | none =>
    let s := s.bump F.CTAB_LOOKUPS
    if s.rebuilding r.key then (s.inc F.CTAB_REBDROP).decide' r.id .unknown else s.decide' r.id .anon
  | some n =>
    if s.eBit n 1 && !s.eBad n then s.askLease n (.decide r.id)
    else s.underLease n (.decide r.id) fun s =>
      let s := (s.bump F.CTAB_LOOKUPS).bump F.CTAB_HITS
      if s.eBad n then (s.incRaise F.CTAB_BADHIT 182).decide' r.id .bad
      else if held then s.holdLease n (.decide r.id)
      else s.decideEntry r n

/-! ### Histograms and commits (R330 to R333) -/

/-- Bin of a value among bins 1 to 30 of powers of two: 0 below 1, 31 at 2^30 and above. -/
def log2Bin (v : Nat) : Nat := if v = 0 then 0 else min 31 (Nat.log2 v + 1)

/-- Count one up in a bin of a histogram of an entry. -/
def State.histInc (s : State) (n off : Nat) : State :=
  let a := histAddr n + off
  s.memPut a 4 (satNat 32 (s.memN a 4 + 1))

/-- An NTP timestamp of a time (R176). -/
def State.ntpTime (s : State) (t : Nat) : Nat :=
  let f := (t % SEC48 * 2 ^ 32 * 2 + SEC48) / (2 * SEC48)
  let sec : Int := (t / SEC48 : Nat) - s.getI F.TBASE_UTCOFF + 2208988800 + (f / 2 ^ 32 : Nat)
  (sec % 4294967296).toNat * 2 ^ 32 + f % 2 ^ 32

/-- The bin of H1: receive stamp minus the request's transmit timestamp, ns, around HCENTRE. -/
def State.h1Bin (s : State) (n rx xmt : Nat) : Nat :=
  let d := toSigned 64 ((s.ntpTime rx + (2 ^ 64 - xmt)) % 2 ^ 64) * 1000000000 / 2 ^ 32
  let i := 32 + (d - toSigned 32 (s.eGet n 0x3C 4)) / (max 1 (s.get F.CTAB_HISTW) : Nat)
  if i < 0 then 0 else min 63 i.toNat

/-- The histogram updates of a confirmed response (R333). -/
def State.histCommit (s : State) (n rx cls xmt bound prevNs : Nat) : State :=
  let s := s.histInc n (4 * log2Bin ((stampNs (stamp64 rx) - prevNs) / 1000000))
  let s := if cls < 3 then s.histInc n (0x80 + 4 * s.h1Bin n rx xmt) else s
  s.histInc n (0x180 + 4 * log2Bin (bound / 1000))

/-- An exchange record (R332) as a number of 32 bytes. -/
def exchange (rx tx cls xmt bound : Nat) (inter again : Bool) : Nat :=
  cls % 8 + (if inter then 8 else 0) + (if again then 16 else 0) + (if cls < 3 then xmt % 2 ^ 64 else 0) * 2 ^ 32 + stamp64 rx * 2 ^ 96 +
    stamp64 tx * 2 ^ 160 + satNat 32 (ceilDiv bound 100) * 2 ^ 224

/-- Apply a commit to an entry that stands as it was seen, in one write set (R331, R332).  A response of which no measured stamp could be made has no
transmit stamp to store: 0 stands for none. -/
def State.applyCommit (s : State) (c : Commit) : State :=
  match c with
  | .lost n _ => ((s.eInc n 0xC0).ePut n 0x68 2 (putBits (s.eGet n 0x68 2) 1 1 0)).seal n
  | .failed n _ => (s.eInc n 0xBC).seal n
  | .grant n _ ty r p => ((s.ePut n (0x70 + 16 * ty) 16 r).ePut n 0xA0 10 p).seal n
  | .party n _ p => (s.ePut n 0xA0 10 p).seal n
  | .resp n _ rx tx kind cls inter again xmt bound prevNs =>
    let s := s.eInc n 0xB4
    let old := decide (s.eGet n 0x68 2 % 2 = 1) && decide (time128 rx < s.eGet n 0x48 16)
    let s := if old then s.inc F.CTAB_STALECMT
      else ((s.ePut n 0x48 16 (time128 rx)).ePut n 0x58 16 (time128 tx)).ePut n 0x68 2 (if tx = 0 then 1 else 3 + 4 * kind)
    let s := if s.ePermit n / 64 % 2 = 1 then s.histCommit n rx cls xmt bound prevNs else s
    let s := if s.ePermit n / 128 % 2 = 1 then
        let p := s.eGet n 0 2 / 64 % 16
        (s.memPut (entAddr n + 0x200 + p * 32) 32 (exchange rx tx cls xmt bound inter again)).ePut n 0 2
          (putBits (s.eGet n 0 2) 6 4 (p + 1))
      else s
    s.seal n

/-- A commit whose entry is no longer VALID, or whose ENTGEN differs, is discarded and counted (R330). -/
def State.commit (s : State) (c : Commit) : State :=
  if s.eValid c.entry && s.eGen c.entry = c.gen then s.applyCommit c else s.inc F.CTAB_STALECMT

/-- PKT releases a commit to CTAB. -/
def State.pushCommit (s : State) (c : Commit) : State := s.setCtab { s.ctab with commits := s.ctab.commits ++ [c] }

/-! ### Bulk operations (R334 to R338) -/

/-- CTAB_ENTRIES and CTAB_BADCNT move with an entry. -/
def State.countEntry (s : State) (wasV wasB isV isB : Bool) : State :=
  let mv := fun (s : State) (f : Field) (a b : Bool) => if a == b then s else s.set f (if b then s.get f + 1 else s.get f - 1)
  mv (mv s F.CTAB_ENTRIES wasV isV) F.CTAB_BADCNT wasB isB

/-- The key of a load record, or of CTAB_LOOKUP. -/
def keyOf (w vid addr : Nat) : Key := ⟨w / 4 % 2, vid % 4096, w % 4, addr⟩

/-- APPDATA of a load record, written when APP is 1. -/
def State.loadApp (s : State) (a n : Nat) (app : Bool) : State := if app then s.memPut (entAddr n + 0x100) 0x100 (s.memN (a + 64) 256) else s

/-- The fields that operations 0 and 2 write. -/
def State.loadFields (s : State) (a n : Nat) : State :=
  let s := (s.ePut n 0x14 2 (s.memN (a + 24) 2)).ePut n 0x24 2 (s.memN (a + 26) 2)
  let s := (s.ePut n 0x20 4 (s.memN (a + 28) 4)).ePut n 0x34 4 (s.memN (a + 32) 4)
  let s := (s.ePut n 0x38 4 (s.memN (a + 36) 4)).ePut n 0x3C 4 (s.memN (a + 40) 4)
  s.ePut n 0x18 8 (s.memN (a + 44) 8)

/-- Clear an entry and its histograms, take it out of the index and end its grants; ENTGEN counts on, and BAD stays (R321). -/
def State.deleteEntry (s : State) (n : Nat) : State :=
  let g := s.eGen n
  let bad := s.eBad n
  let s := (s.removeKey (s.eKey n) n).countEntry (s.eValid n) false false false
  let s := (s.memPut (entAddr n) 0x400 0).memPut (histAddr n) 0x200 0
  let s := (s.ePut n 0x16 2 (g + 1)).eSetBit n 2 bad
  (s.seal n).dropGrants n

/-- Operation 0 (R335): the entry is replaced as a whole; none where the index has no place. -/
def State.writeEntry (s : State) (a n : Nat) (app : Bool) (k : Key) : Option State :=
  let g := s.eGen n
  let v := s.eValid n
  let b := s.eBad n
  let t := if v then s.removeKey (s.eKey n) n else s
  let t := (t.memPut (entAddr n) 0x400 0).memPut (histAddr n) 0x200 0
  let t := ((t.ePut n 0 2 (1 + k.atype * 8 + k.group * 32)).ePut n 2 2 k.vid).ePut n 4 16 k.addr
  let t := (t.loadFields a n).loadApp a n app
  let t := (t.ePut n 0x16 2 (g + 1)).ePut n 0x28 4 (t.eGet n 0x24 2 * 256)
  match t.idxInsert k n with
  | none => none
  | some t => some (((t.countEntry v b true false).seal n).dropGrants n)

/-- A VALID entry that holds a key, whether or not a bucket names it. -/
def State.keyLost (s : State) (k : Key) : Option Nat := (entryNums s.mem).find? (fun m => s.eValid m && decide (s.eKey m = k))

/-- The outcome of a load record: applied, or rejected with a reason of Table 12-8, whose state holds no change but IDXFULL.  An operation or an ATYPE
that is not used is a host error (Table 14-9). -/
def State.loadRecord (s : State) (a : Nat) : State × Nat :=
  let w := s.memN a 4
  let n := w % 2 ^ 29
  let app := decide (w / 2 ^ 29 % 2 = 1)
  if w / 2 ^ 30 = 3 || (w / 2 ^ 30 = 0 && s.memN (a + 4) 2 % 4 = 3) then (s.blockErr 0x0D, 0)
  else if 4194303 < n then (s, 5)
  else if w / 2 ^ 30 = 0 then
    let k := keyOf (s.memN (a + 4) 2) (s.memN (a + 6) 2) (s.memN (a + 8) 16)
    if (s.findKey k).any (fun m => m ≠ n) || (s.rebuilding k && (s.keyLost k).any (fun m => m ≠ n)) then (s, 1)
    else match s.writeEntry a n app k with
      | some t => (t, 0)
      | none => (s.idxFull, 4)
  else if !s.eValid n then (s, 2)
  else if s.eGen n ≠ s.memN (a + 52) 2 then (s, 3)
  else if w / 2 ^ 30 = 1 then (s.deleteEntry n, 0)
  else (((((s.loadFields a n).loadApp a n app).ePut n 0x16 2 (s.eGen n + 1))).seal n, 0)

/-- A bulk operation ends: it leaves the engine, and BULKBUSY follows. -/
def State.bulkEnd (h : WbHead) (s : State) : State :=
  let l := s.ctab.bulks.filter (fun b => match b with
    | .load w _ _ _ _ => w ≠ h
    | .sweep w _ _ _ _ _ _ _ _ _ => w ≠ h
    | .dump w _ _ _ _ => w ≠ h)
  (s.setCtab { s.ctab with bulks := l }).setB F.CTAB_STAT_BULKBUSY (!l.isEmpty)

/-- Replace the bulk operation of a kind. -/
def State.putBulk (s : State) (b : Bulk) : State :=
  let same : Bulk → Bool := fun x => match x, b with
    | .load .., .load .. => true
    | .sweep .., .sweep .. => true
    | .dump .., .dump .. => true
    | _, _ => false
  s.setCtab { s.ctab with bulks := s.ctab.bulks.map (fun x => if same x then b else x) }

/-- Apply the next record of the load, count it, and move the operation on (R336). -/
def State.loadNext (s : State) : State :=
  match s.loadRun with
  | some (.load h next left total rs) =>
    let (s, why) := s.loadRecord (loadBase + next * 320)
    let s := if why = 0 then s.bump F.CTAB_LOADAPP else s.bump F.CTAB_LOADREJ
    let rs := if why ≠ 0 && rs.length < 12288 then rs ++ wordsOf next 2 ++ [w16 why] else rs
    let s := s.putBulk (.load h (next + 1) (left - 1) total rs)
    s.longStep h (total - (left - 1)) total rs (State.bulkEnd h)
  | _ => s

/-- An entry that was last seen more than `idle` seconds ago, or never (R337). -/
def State.idleFor (s : State) (n idle : Nat) : Bool :=
  let seen := if s.eGet n 0x40 8 ≠ 0 then s.eGet n 0x40 8 else s.eGet n 0xC4 4
  seen = 0 || decide (stampNs seen + idle * 1000000000 < stampNs (stamp64 s.now))

/-- An entry meets every condition of a sweep's filter (R337). -/
def State.sweepMatch (s : State) (n filter idle deny : Nat) : Bool :=
  (filter % 2 = 0 || s.eBad n) && (filter / 2 % 2 = 0 || s.eBit n 1)
    && (filter / 4 % 2 = 0 || (List.range 3).any (fun i => s.grantLive n (s.eGrant n i)))
    && (filter / 8 % 2 = 0 || s.idleFor n idle) && (filter / 16 % 2 = 0 || decide (deny ≤ s.eGet n 0xB8 4))

/-- Clear an entry's counters, histograms and RING. -/
def State.clearEntry (s : State) (n : Nat) : State :=
  (((s.ePut n 0xB0 20 0).memPut (histAddr n) 0x200 0).memPut (entAddr n + 0x200) 0x200 0).seal n

/-- The sweep visits its next entry, under its lease where it acts on it; action 2 is operation 1, which deletes VALID entries. -/
def State.sweepNext (s : State) : State :=
  match s.sweepRun with
  | some (.sweep h next left total filter idle deny action maxn rs) =>
    let hit := s.sweepMatch next filter idle deny
    let go := fun s : State =>
      let s := if !hit then s else if action = 1 then s.clearEntry next else if action = 2 && s.eValid next then s.deleteEntry next else s
      let rs := if hit && rs.length < 2 * maxn then rs ++ wordsOf next 2 else rs
      let s := s.putBulk (.sweep h (next + 1) (left - 1) total filter idle deny action maxn rs)
      s.longStep h (total - (left - 1)) total rs (State.bulkEnd h)
    if hit && action ≠ 0 then s.underLease next .sweep go else go s
  | _ => s

/-- The dump copies its next item to read-back staging (R338). -/
def State.dumpNext (s : State) : State :=
  match s.dumpRun with
  | some (.dump h hist next left total) =>
    let k := total - left
    let s := if hist then s.memPut (readBase + k * 0x200) 0x200 (s.memN (histAddr next) 0x200)
      else s.memPut (readBase + k * 0x400) 0x400 (s.memN (entAddr next) 0x400)
    let s := s.putBulk (.dump h hist (next + 1) (left - 1) total)
    let last := left ≤ 1 || (s.takenAt h.ring h.slot).any (fun t => t.stopReq)
    s.longStep h (k + 1) total (if last then wordsOf (k + 1) 2 else []) (State.bulkEnd h)
  | _ => s

/-- A bulk operation ends before its last item, with the results it has counted. -/
def State.bulkFail (s : State) (b : Bulk) (st : ManSt) (status : Status) : State :=
  match b with
  | .load h _ left total rs => State.bulkEnd h (s.finish h st status (progressOf (total - left) total) rs)
  | .sweep h _ left total _ _ _ _ _ rs => State.bulkEnd h (s.finish h st status (progressOf (total - left) total) rs)
  | .dump h _ _ left total => State.bulkEnd h (s.finish h st status (progressOf (total - left) total) (wordsOf (total - left) 2))

/-- The CTAB bulk engine is fenced: its operations end ABORTED with INTERRUPTED (R431). -/
def State.bulkFenced (s : State) : State := s.ctab.bulks.foldl (fun s b => s.bulkFail b .aborted .interrupted) s

/-! ### Memory errors (R321, Table 12-2) -/

/-- A single-bit error is corrected and counted; source 178 as the present hour's count reaches CTAB_CELIM. -/
def State.eccCorr (s : State) (n : Nat) : State :=
  let hr := s.secNow / 3600
  let c := if s.ctab.hour = hr then s.ctab.ceHour else 0
  let s := s.setSat F.CTAB_ECCCORR (s.get F.CTAB_ECCCORR + n)
  let lim := s.get F.CTAB_CELIM
  (s.raiseIf (c < lim && lim ≤ c + n) 178).setCtab { s.ctab with ceHour := c + n, hour := hr }

/-- BAD sets. -/
def State.setBad (s : State) (n : Nat) : State :=
  let was := s.eBad n
  (((s.countEntry false was false true).eSetBit n 2 true).seal n).fault 0x0D 1 n

/-- A bucket is cleared and its rebuild begins (R326). -/
def State.bucketLost (s : State) (b : Nat) : State :=
  let s := (s.memPut (wayAddr b 0) 64 0).setCtab { s.ctab with rebuild := insertNat s.ctab.rebuild b }
  ((s.setB F.CTAB_STAT_REBUILD true).raise 180).fault 0x0D 2 b

/-- The operations that use a staging word end FAILED with DATAERROR. -/
def State.stagingLost (s : State) (a : Nat) : State :=
  let uses : Bulk → Bool := fun b => match b with
    | .load _ next left _ _ => decide (loadBase + next * 320 ≤ a ∧ a < loadBase + (next + left) * 320)
    | .dump _ hist _ left total =>
      let z := if hist then 0x200 else 0x400
      decide (readBase ≤ a ∧ a < readBase + (total - left) * z)
    | .sweep .. => false
  (s.ctab.bulks.filter uses).foldl (fun s b => s.bulkFail b .failed .dataError) s

/-- Memory address and length of a channel's transfer, as it started (R398). -/
def State.dmaRange (s : State) (c : Nat) : Nat × Nat := at' (0, 0) s.hif.dma c

/-- A DMA channel ends its transfer (R398, R400): DONE, or ERR with its number and its fault message, and source 217 or 218.  A transfer cut
short has moved an open number of bytes; those of channel 0 are the host's. -/
def State.dmaEnd (s : State) (c err : Nat) : State :=
  let len := (s.dmaRange c).2
  let s := s.setB (F.HIF_DMA_STAT_BUSY c) false
  let s := if err = 0 then (s.setB (F.HIF_DMA_STAT_DONE c) true).set (F.HIF_DMA_MOVED c) len
    else
      let n := Config.freeNat s.fresh % (len + 1)
      let v := Config.freeNat (s.fresh + 1)
      let s := { s with fresh := s.fresh + 2 }
      let s := if c = 0 then s.memPut (s.dmaRange 0).1 n (v % 256 ^ n) else s
      (s.set (F.HIF_DMA_STAT_ERR c) err).set (F.HIF_DMA_MOVED c) n
  let s := if err = 4 then s.fault 0x10 3 else s
  s.raise (217 + c)

/-- Channel 1 reads an address in a transfer that runs. -/
def State.dmaReads (s : State) (a : Nat) : Bool :=
  s.on (F.HIF_DMA_STAT_BUSY 1) && decide ((s.dmaRange 1).1 ≤ a ∧ a < (s.dmaRange 1).1 + (s.dmaRange 1).2)

/-- A bucket's lost entries are inserted again: those VALID entries whose key names it and that no bucket holds. -/
def State.rebuildBucket (s : State) (b : Nat) : State :=
  (entryNums s.mem).foldl (fun s n =>
    let k := s.eKey n
    if s.eValid n && (s.bucketA k = b || s.bucketB k = b) && (s.findKey k).isNone then
      match s.idxInsert k n with
      | some t => t
      | none => s.idxFull
    else s) s

end Sys2Proof.Machine
end

