-- ==== Sys2Proof/Machine/Crypto.lean ====
section
/-! DEFINITION. The mechanisms of spec/11 Table 11-1 over bytes: AES (FIPS 197), AES-CMAC (RFC 4493), AES-SIV (RFC 5297), AES Key Wrap (RFC 3394),
SHA-256 and HMAC (FIPS 180, RFC 2104).  PRESUMED: the spec names these standards and does not print them (log entry 11). -/
namespace Sys2Proof.Machine

/-! ### AES -/

/-- Multiplication by x in GF(2^8). -/
def xtime (a : Nat) : Nat := if a < 128 then 2 * a else (2 * a - 256) ^^^ 0x1B

/-- Multiplication in GF(2^8). -/
def gmulGo : Nat → Nat → Nat → Nat
  | 0, _, _ => 0
  | k + 1, a, b => (if b % 2 = 1 then a else 0) ^^^ gmulGo k (xtime a) (b / 2)

def gmul (a b : Nat) : Nat := gmulGo 8 a b

/-- The inverse in GF(2^8), a^254; 0 for 0. -/
def ginv (a : Nat) : Nat :=
  let a2 := gmul a a
  let a3 := gmul a2 a
  let a6 := gmul a3 a3
  let a7 := gmul a6 a
  let a14 := gmul a7 a7
  let a15 := gmul a14 a
  let a30 := gmul a15 a15
  let a31 := gmul a30 a
  let a62 := gmul a31 a31
  let a63 := gmul a62 a
  let a126 := gmul a63 a63
  let a127 := gmul a126 a
  gmul a127 a127

/-- A byte rotated left. -/
def rotl8 (a k : Nat) : Nat := a * 2 ^ k % 256 + a * 2 ^ k / 256

def sbox (a : Nat) : Nat :=
  let b := ginv a
  b ^^^ rotl8 b 1 ^^^ rotl8 b 2 ^^^ rotl8 b 3 ^^^ rotl8 b 4 ^^^ 0x63

def invSbox (a : Nat) : Nat := ginv (rotl8 a 1 ^^^ rotl8 a 3 ^^^ rotl8 a 6 ^^^ 0x05)

/-- Bytes added in GF(2^8), as long as the shorter list. -/
def xorBytes (a b : List Nat) : List Nat := List.zipWith (· ^^^ ·) a b

/-- The key schedule: words of four bytes, newest first, `k` more to make, `i` the number of the next, `nk` the key's length in words. -/
def keyWords (nk : Nat) : Nat → Nat → Nat → List (List Nat) → List (List Nat)
  | 0, _, _, ws => ws
  | k + 1, i, rc, ws =>
    let prev := ws.headD []
    let t := if i % nk = 0 then xorBytes ((prev.drop 1 ++ prev.take 1).map sbox) [rc, 0, 0, 0]
      else if 6 < nk ∧ i % nk = 4 then prev.map sbox else prev
    keyWords nk k (i + 1) (if i % nk = 0 then xtime rc else rc) (xorBytes (ws.getD (nk - 1) []) t :: ws)

/-- Cut bytes into pieces of `n`. -/
def chunks (n : Nat) : Nat → List Nat → List (List Nat)
  | 0, _ => []
  | k + 1, l => if l.isEmpty then [] else l.take n :: chunks n k (l.drop n)

/-- The round keys of a key of 16 or 32 bytes. -/
def roundKeys (key : List Nat) : List (List Nat) :=
  let nk := key.length / 4
  let ws := (keyWords nk (4 * (nk + 7) - nk) nk 1 (chunks 4 nk key).reverse).reverse
  chunks 16 (nk + 7) ws.flatten

/-- ShiftRows and its inverse; byte 4 c + r is row r of column c. -/
def shiftRows (b : List Nat) : List Nat := (List.range 16).map (fun i => b.getD ((i + 4 * (i % 4)) % 16) 0)
def invShiftRows (b : List Nat) : List Nat := (List.range 16).map (fun i => b.getD ((i + 12 * (i % 4)) % 16) 0)

/-- MixColumns with the first row of its matrix. -/
def mixCols (m b : List Nat) : List Nat :=
  (List.range 16).map (fun i => (List.range 4).foldl (fun a j => a ^^^ gmul (m.getD ((j + 4 - i % 4) % 4) 0) (b.getD (i / 4 * 4 + j) 0)) 0)

def aesRounds : List (List Nat) → List Nat → List Nat
  | [], b => b
  | [k], b => xorBytes (shiftRows (b.map sbox)) k
  | k :: r, b => aesRounds r (xorBytes (mixCols [2, 3, 1, 1] (shiftRows (b.map sbox))) k)

/-- AES of one block. -/
def aes (key b : List Nat) : List Nat :=
  match roundKeys key with
  | [] => b
  | k :: r => aesRounds r (xorBytes b k)

def aesInvRounds : List (List Nat) → List Nat → List Nat
  | [], b => b
  | [k], b => xorBytes ((invShiftRows b).map invSbox) k
  | k :: r, b => aesInvRounds r (mixCols [14, 11, 13, 9] (xorBytes ((invShiftRows b).map invSbox) k))

/-- The inverse of AES of one block. -/
def aesInv (key b : List Nat) : List Nat :=
  match (roundKeys key).reverse with
  | [] => b
  | k :: r => aesInvRounds r (xorBytes b k)

/-! ### Numbers and bytes, most significant byte first -/

def beNum (l : List Nat) : Nat := l.foldl (fun a b => a * 256 + b) 0

def beBytes : Nat → Nat → List Nat
  | 0, _ => []
  | n + 1, v => v / 256 ^ n % 256 :: beBytes n v

/-- Doubling in GF(2^128) (RFC 4493). -/
def dbl (b : List Nat) : List Nat :=
  let v := beNum b
  beBytes 16 ((v * 2 % 2 ^ 128) ^^^ (if 2 ^ 127 ≤ v then 0x87 else 0))

/-- The block with 0x80 and zeros appended. -/
def pad16 (b : List Nat) : List Nat := (b ++ 0x80 :: List.replicate 16 0).take 16

def zero16 : List Nat := List.replicate 16 0

def cbcMac (key : List Nat) : List (List Nat) → List Nat → List Nat
  | [], c => c
  | b :: r, c => cbcMac key r (aes key (xorBytes c b))

/-- AES-CMAC. -/
def cmac (key msg : List Nat) : List Nat :=
  let k1 := dbl (aes key zero16)
  let n := max 1 ((msg.length + 15) / 16)
  let last := msg.drop (16 * (n - 1))
  let fin' := if last.length = 16 then xorBytes last k1 else xorBytes (pad16 last) (dbl k1)
  cbcMac key (chunks 16 (n - 1) (msg.take (16 * (n - 1))) ++ [fin']) zero16

/-! ### AES-SIV -/

/-- The chain of S2V over the associated data. -/
def s2vGo (key : List Nat) : List (List Nat) → List Nat → List Nat
  | [], d => d
  | a :: r, d => s2vGo key r (xorBytes (dbl d) (cmac key a))

/-- S2V of associated data and plaintext. -/
def s2v (key : List Nat) (ad : List (List Nat)) (p : List Nat) : List Nat :=
  let d := s2vGo key ad (cmac key zero16)
  if 16 ≤ p.length then cmac key (p.take (p.length - 16) ++ xorBytes (p.drop (p.length - 16)) d)
  else cmac key (xorBytes (dbl d) (pad16 p))

/-- AES in counter mode from a counter. -/
def ctr (key : List Nat) : Nat → Nat → List Nat → List Nat
  | 0, _, _ => []
  | k + 1, q, l => if l.isEmpty then [] else xorBytes (l.take 16) (aes key (beBytes 16 q)) ++ ctr key k (q + 1) (l.drop 16)

/-- Counter-mode under a synthetic IV. -/
def sivCtr (key v p : List Nat) : List Nat :=
  let q := beNum v
  ctr key (p.length / 16 + 1) (q - q / 2 ^ 31 % 2 * 2 ^ 31 - q / 2 ^ 63 % 2 * 2 ^ 63) p

/-- SIV encryption: the synthetic IV, then the ciphertext. -/
def sivSeal (key : List Nat) (ad : List (List Nat)) (p : List Nat) : List Nat :=
  let h := key.length / 2
  let v := s2v (key.take h) ad p
  v ++ sivCtr (key.drop h) v p

/-- SIV decryption of synthetic IV and ciphertext; none where the check fails. -/
def sivOpen (key : List Nat) (ad : List (List Nat)) (c : List Nat) : Option (List Nat) :=
  let h := key.length / 2
  let v := c.take 16
  let p := sivCtr (key.drop h) v (c.drop 16)
  if s2v (key.take h) ad p = v then some p else none

/-! ### AES Key Wrap -/

/-- One step of unwrapping, register `i` of `n`, step number `t`. -/
def unwrapStep (key : List Nat) (t i : Nat) (s : List Nat × List (List Nat)) : List Nat × List (List Nat) :=
  let b := aesInv key (xorBytes s.1 (beBytes 8 t) ++ s.2.getD i [])
  (b.take 8, modAt s.2 i (fun _ => b.drop 8))

/-- Unwrapping (RFC 3394); none where the integrity check fails. -/
def keyUnwrap (key c : List Nat) : Option (List Nat) :=
  let n := c.length / 8 - 1
  let (a, r) := (List.range (6 * n)).foldl (fun s k => unwrapStep key (6 * n - k) ((6 * n - k - 1) % n) s) (c.take 8, chunks 8 n (c.drop 8))
  if a = List.replicate 8 0xA6 then some r.flatten else none

/-! ### SHA-256 and HMAC -/

def rotr32 (x k : Nat) : Nat := x / 2 ^ k + x * 2 ^ (32 - k) % 2 ^ 32

/-- The largest root not above a number, for the round constants: bit by bit, `p`-th power. -/
def rootGo (p v : Nat) : Nat → Nat → Nat
  | 0, r => r
  | k + 1, r => rootGo p v k (if (r + 2 ^ k) ^ p ≤ v then r + 2 ^ k else r)

/-- The first `n` primes. -/
def primes (n : Nat) : List Nat := ((List.range 312).filter (fun m => 2 ≤ m && (List.range m).all (fun d => d < 2 || m % d ≠ 0))).take n

/-- The first 32 bits of the fraction of the cube roots, and of the square roots, of primes. -/
def shaK : List Nat := (primes 64).map (fun p => rootGo 3 (p * 2 ^ 96) 40 0 % 2 ^ 32)
def shaH : List Nat := (primes 8).map (fun p => rootGo 2 (p * 2 ^ 64) 40 0 % 2 ^ 32)

/-- The message schedule, newest first. -/
def shaSched : Nat → List Nat → List Nat
  | 0, w => w
  | k + 1, w =>
    let x := w.getD 14 0
    let y := w.getD 1 0
    let s0 := rotr32 x 7 ^^^ rotr32 x 18 ^^^ x / 8
    let s1 := rotr32 y 17 ^^^ rotr32 y 19 ^^^ y / 1024
    shaSched k ((w.getD 15 0 + s0 + w.getD 6 0 + s1) % 2 ^ 32 :: w)

/-- One round on the eight working variables. -/
def shaRound (v : List Nat) (kw : Nat) : List Nat :=
  let g := fun i => v.getD i 0
  let e := g 4
  let a := g 0
  let t1 := g 7 + (rotr32 e 6 ^^^ rotr32 e 11 ^^^ rotr32 e 25) + ((e &&& g 5) ^^^ ((2 ^ 32 - 1 - e) &&& g 6)) + kw
  let t2 := (rotr32 a 2 ^^^ rotr32 a 13 ^^^ rotr32 a 22) + ((a &&& g 1) ^^^ (a &&& g 2) ^^^ (g 1 &&& g 2))
  [(t1 + t2) % 2 ^ 32, a, g 1, g 2, (g 3 + t1) % 2 ^ 32, e, g 5, g 6]

/-- One block. -/
def shaBlock (h : List Nat) (b : List Nat) : List Nat :=
  let w := (shaSched 48 ((chunks 4 16 b).map beNum).reverse).reverse
  let v := (List.zipWith (· + ·) shaK w).foldl shaRound h
  List.zipWith (fun x y => (x + y) % 2 ^ 32) h v

/-- SHA-256. -/
def sha256 (m : List Nat) : List Nat :=
  let n := (m.length + 72) / 64
  let p := m ++ 0x80 :: List.replicate (64 * n - m.length - 9) 0 ++ beBytes 8 (8 * m.length)
  ((chunks 64 n p).foldl shaBlock shaH).flatMap (beBytes 4)

/-- HMAC-SHA-256 with a key of at most 64 bytes. -/
def hmac (key m : List Nat) : List Nat :=
  let k := (key ++ List.replicate 64 0).take 64
  sha256 (k.map (· ^^^ 0x5C) ++ sha256 (k.map (· ^^^ 0x36) ++ m))

/-- The bytes of words, least significant byte first (R8), and the words of bytes. -/
def wordBytes (ws : List Word) : List Nat := ws.flatMap (fun w => [w.toNat % 256, w.toNat / 256])

def bytesWords : List Nat → List Word
  | a :: b :: r => w16 (a + 256 * b) :: bytesWords r
  | [a] => [w16 a]
  | [] => []

end Sys2Proof.Machine
end

