-- ==== Sys2Proof/Machine/Frames.lean ====
section
/-! DEFINITION. The bytes of the frames that PKT sends: what AUTH seals, and how long a frame is.  Field values follow spec/10 Table 10-3, R279 to R283
and spec/13 Tables 13-3, 13-4; the message formats are those of the standards that the spec names, RFC 5905, 7822, 8573, 8915 and IEEE 1588-2019
(PRESUMED, log entry 74). -/
namespace Sys2Proof.Machine

/-- The bytes of a number, least significant first. -/
def leBytes : Nat → Nat → List Nat
  | 0, _ => []
  | n + 1, v => v % 256 :: leBytes n (v / 256)

/-- The bytes of a signed number in network byte order, saturating. -/
def beSigned (n : Nat) (v : Int) : List Nat := beBytes n (ofSigned (8 * n) (satSigned (8 * n) v))

/-! ### NTP -/

/-- The 48 bytes of an NTP header; a reference ID has byte 0 at the lowest address. -/
def NtpOut.header (o : NtpOut) : List Nat :=
  [o.li * 64 + o.vn * 8 + o.mode, o.stratum % 256, o.poll % 256, o.prec % 256] ++ beBytes 4 o.rootDelay ++ beBytes 4 o.disp ++ leBytes 4 o.refid
    ++ beBytes 8 o.reft ++ beBytes 8 o.org ++ beBytes 8 o.rcv ++ beBytes 8 o.xmt

/-- An NTP extension field: type, length, body. -/
def extField (type : Nat) (body : List Nat) : List Nat := beBytes 2 type ++ beBytes 2 (body.length + 4) ++ body

/-- Bytes 4 to 67 of Table 13-3. -/
def BoundEf.bytes (e : BoundEf) : List Nat :=
  [1, e.flags % 256, e.sel % 256, 12] ++ beBytes 8 e.own ++ beSigned 4 e.trim ++ e.comps.flatMap (fun c => beBytes 4 (satNat 32 c))

/-- An NTP response up to its Authenticator, in the order of R279: what the Authenticator covers. -/
def NtpOut.covered (o : NtpOut) : List Nat :=
  o.header ++ (if o.uid.isEmpty then [] else extField 0x0104 o.uid) ++ o.ef.elim [] (fun e => extField e.id e.bytes)

/-- Bytes of a fresh cookie (R300). -/
def cookieLen (alg : Nat) : Nat := if alg = 17 then 168 else 104

/-- The UDP payload of an NTP response, in bytes: Authenticator with a 16-byte nonce and a 16-byte tag; MAC with its key ID. -/
def NtpOut.len (o : NtpOut) : Nat :=
  o.covered.length + (if o.alg = 0 then 0 else 40 + o.cookies * (4 + cookieLen o.alg)) + (if o.keyId.isSome then 20 else 0)

/-! ### PTP -/

/-- A PTP timestamp; its part below 1 ns stands in correctionField (R280). -/
def ptpTime (t : Nat) : List Nat := beBytes 6 (t / SEC48) ++ beBytes 4 (t % SEC48 / NS48)

/-- The part of a time below 1 ns, 2^-16 ns. -/
def subNs (t : Nat) : Int := t % NS48 / 2 ^ 32

/-- A portIdentity. -/
def portId (p : Nat × Nat) : List Nat := beBytes 8 p.1 ++ beBytes 2 p.2

/-- A TLV of unicast negotiation (clause 16.1). -/
def SigTlv.bytes : SigTlv → List Nat
  | .request type log dur => [0, 4, 0, 6, type * 16] ++ beSigned 1 log ++ beBytes 4 dur
  | .grant type log dur => [0, 5, 0, 8, type * 16] ++ beSigned 1 log ++ beBytes 4 dur ++ [0, 1]
  | .cancel type => [0, 6, 0, 2, type * 16, 0]
  | .ackCancel type => [0, 7, 0, 2, type * 16, 0]

/-- The Thrumver TLV (Table 13-4). -/
def boundTlv (e : BoundEf) : List Nat := [0x80, 0, 0, 70] ++ beBytes 3 e.id ++ [0, 0, 1] ++ e.bytes

/-- What follows the common header of a message, before its TLVs. -/
def PtpOut.body (o : PtpOut) : List Nat :=
  let q := fun i => o.quality.getD i 0
  match o.type with
  | 11 => ptpTime 0 ++ beBytes 2 (q 7) ++ [0, q 1 % 256, q 2 % 256, q 3 % 256] ++ beBytes 2 (q 4) ++ [q 5 % 256] ++ beBytes 8 (q 0) ++ [0, 0, q 6 % 256]
  | 9 | 3 | 10 => ptpTime o.time ++ portId o.peer
  | 12 => portId o.peer
  | _ => ptpTime o.time

/-- The flag field: twoStepFlag and unicastFlag; in an Announce the leap flags, currentUtcOffsetValid, ptpTimescale and the traceable flags. -/
def PtpOut.flags (o : PtpOut) : List Nat :=
  [(if o.twoStep then 2 else 0) + (if o.unicast then 4 else 0),
    if o.type = 11 then o.quality.getD 8 0 % 4 + 4 + 8 + (if o.quality.getD 9 0 = 1 then 48 else 0) else 0]

/-- A message with the AUTHENTICATION TLV of an SPP and key ID, where it carries one, up to the ICV: what the ICV covers. -/
def PtpOut.covered (o : PtpOut) (auth : Option (Nat × Nat)) : List Nat :=
  let rest := o.body ++ o.tlv.elim [] boundTlv ++ o.tlvs.flatMap SigTlv.bytes
    ++ auth.elim [] (fun a => [0x80, 9, 0, 22, a.1 % 256, 0] ++ beBytes 4 a.2)
  [o.type, 0x12] ++ beBytes 2 (34 + rest.length + (if auth.isSome then 16 else 0)) ++ [o.domain % 256, 0] ++ o.flags ++ beSigned 8 o.corr ++ [0, 0, 0, 0]
    ++ portId (o.src, 1) ++ beBytes 2 o.seq ++ [0] ++ beSigned 1 o.logInt ++ rest

/-- A message in bytes, with its AUTHENTICATION TLV. -/
def PtpOut.len (o : PtpOut) : Nat := (o.covered (if o.auth then some (0, 0) else none)).length + (if o.auth then 16 else 0)

/-! ### Frames -/

/-- Bytes of the IP and UDP headers of a transport: 0 UDP/IPv4, 1 UDP/IPv6, 2 IEEE 802.3. -/
def netLen (tr : Nat) : Nat := if tr = 0 then 28 else if tr = 1 then 48 else 0

/-- A frame in bytes from the first octet after its start-of-frame delimiter to the end of its frame check sequence; `tr` is the transport of an NTP
response; a frame with a VID carries its 802.1Q tag.  A host frame brings its own header (R397). -/
def frameLen (c : Content) (tr : Nat) (tagged : Bool) : Nat :=
  let head := 18 + (if tagged then 4 else 0)
  max 64 (match c with
    | .ntp o => head + netLen tr + o.len
    | .ptp o => head + netLen o.tr + o.len
    | .arp v6 _ => head + (if v6 then 72 else 28)
    | .host n => n + 4)

end Sys2Proof.Machine
end

