-- ==== Sys2Proof/Machine/AuthOps.lean ====
section
/-! DEFINITION. The shared operations of AUTH (spec/11): key slots, verdicts, cookies, rotation, zeroisation. -/
namespace Sys2Proof.Machine

def State.setAuth (s : State) (a : Auth) : State := { s with auth := a }

/-- An event bit sets: its source is raised as the bit leaves 0 (R291, R318). -/
def State.evtSet (s : State) (f : Field) (src : Nat) : State := if s.on f then s else (s.setB f true).raise src

/-! ### Key slots (R310 to R314) -/

/-- The type and the state of a slot. -/
def State.keyType (s : State) (n : Nat) : Nat := s.get (F.AUTH_SLOT_CFG_TYPE n)
def State.keyState (s : State) (n : Nat) : Nat := s.get (F.AUTH_SLOT_CFG_STATE n)
/-- The key bytes of a slot; no register, manifest or reply reads them (R310). -/
def State.keyBytes (s : State) (n : Nat) : List Nat := look [] s.auth.keys n

/-- A zeroisation has begun on a slot: no new job can take it (R313). -/
def State.zeroising (s : State) (n : Nat) : Bool := s.auth.zero.any (fun z => z.slots.contains n)

/-- A job may use a slot that is CURRENT or ACCEPT. -/
def State.usable (s : State) (n : Nat) : Bool := (s.keyState n = 2 || s.keyState n = 3) && !s.zeroising n

/-- A slot of the NTS master kind. -/
def State.isNts (s : State) (n : Nat) : Bool := s.keyType n = 1 || s.keyType n = 2

/-- Two slots are of the same kind: NTS master keys, or Annex P keys of one SPP (R312). -/
def State.sameKind (s : State) (a b : Nat) : Bool :=
  (s.isNts a && s.isNts b) || (s.keyType a = 4 && s.keyType b = 4 && s.get (F.AUTH_SLOT_SPP a) = s.get (F.AUTH_SLOT_SPP b))

/-- The slots that are not EMPTY. -/
def State.slotsUsed (s : State) : List Nat := s.auth.keys.map Prod.fst

/-- CURVALID and CURNTS follow the slots. -/
def State.curNts (s : State) : State :=
  match s.slotsUsed.find? (fun n => s.isNts n && s.keyState n = 2) with
  | some n => (s.setB F.AUTH_STAT_CURVALID true).set F.AUTH_CURNTS n
  | none => s.setB F.AUTH_STAT_CURVALID false

/-- A persistent slot's record is written (R314); one that failed in both copies stays failed until the slot is zeroised. -/
def State.keySave (s : State) (n : Nat) : State :=
  if s.on (F.AUTH_SLOT_CFG_PERSIST n) && s.store.keys.all (fun k => k.slot ≠ n || k.ok) then
    let r : KeyRec := { slot := n, type := s.keyType n, state := s.keyState n, wrapped := s.on (F.AUTH_SLOT_CFG_WRAPPED n), keyId := s.get (F.AUTH_SLOT_KEYID n), spp := s.get (F.AUTH_SLOT_SPP n), kcv := s.get (F.AUTH_SLOT_KCV n), key := s.keyBytes n }
    { s with store := { s.store with keys := r :: s.store.keys.filter (fun k => k.slot ≠ n) } }
  else s

/-- A slot's state is written, in its register and in its record. -/
def State.keySet (s : State) (n st : Nat) : State := (s.set (F.AUTH_SLOT_CFG_STATE n) st).keySave n

/-- A slot enters a state; as it becomes CURRENT the one that was CURRENT of its kind becomes ACCEPT in the same step (R312).  A slot that has
become FAULTED meanwhile leaves that state by zeroisation alone (Table 11-7). -/
def State.keyTo (s : State) (n st : Nat) : State :=
  if s.keyState n = 4 then s
  else
    let s := if st = 2 then
        s.slotsUsed.foldl (fun s m => if m ≠ n && s.sameKind m n && s.keyState m = 2 then s.keySet m 3 else s) s
      else s
    (s.keySet n st).curNts

/-- AUTH_USED follows. -/
def State.countUsed (s : State) : State := s.set F.AUTH_USED (s.slotsUsed.filter (fun n => s.keyState n ≠ 0)).length

/-- A slot and its persistent copy are overwritten, and it reads EMPTY (R313), which moves the generation (R44). -/
def State.keyErase (s : State) (n : Nat) : State :=
  let s := (List.range 8).foldl (fun s i => s.wr ((F.AUTH_SLOT_CFG n).addr + 2 * i) 0) s
  let s := s.setAuth { s.auth with keys := eraseKey s.auth.keys n, changes := s.auth.changes.filter (fun c => c.slot ≠ n) }
  let s := { s with store := { s.store with keys := s.store.keys.filter (fun k => k.slot ≠ n) } }
  s.countUsed.curNts.bump F.AUTH_GEN

/-- A slot takes a key with its metadata. -/
def State.keyPut (s : State) (r : KeyRec) (persist : Bool) : State :=
  let n := r.slot
  let s := s.setAuth { s.auth with keys := Machine.insertKey s.auth.keys n r.key }
  let s := s.set (F.AUTH_SLOT_CFG n) (r.type + 16 * r.state + (if persist then 128 else 0) + (if r.wrapped then 256 else 0))
  let s := ((s.set (F.AUTH_SLOT_KEYID n) r.keyId).set (F.AUTH_SLOT_SPP n) r.spp).set (F.AUTH_SLOT_KCV n) r.kcv
  (s.set (F.AUTH_SLOT_USES n) 0).countUsed

/-- Restore one record at step 3 (R314): a record that fails in both copies is FAULTED, and what it said of its key is open. -/
def State.keyRestore (s : State) (r : KeyRec) : State :=
  if r.ok then s.keyPut r true
  else
    let (v, s) := s.freeNat
    let s := s.keyPut { r with type := v % 6, state := 4, wrapped := decide (v / 6 % 2 = 1), keyId := v / 12 % 2 ^ 32, spp := v / 12 / 2 ^ 32 % 256,
                                kcv := v / 12 / 2 ^ 40 % 2 ^ 24, key := [] } true
    ((s.setB F.AUTH_STAT_STOREOK false).evtSet F.AUTH_EVT_RESTORE 166).fault 0x0C 3 r.slot

/-- Step 3's restore of the key store; `bad` are the slots whose records have come to fail in both copies. -/
def State.authRestore (s : State) (bad : List Nat) : State :=
  let s := { s with store := { s.store with keys := s.store.keys.map (fun (k : KeyRec) => { k with ok := k.ok && !bad.contains k.slot }) } }
  let a := F.AUTH_SERIAL.addr
  let s := (s.wr a (look 0 s.store.saved a)).wr (a + 2) (look 0 s.store.saved (a + 2))
  (s.store.keys.foldl State.keyRestore s).curNts

/-- The next install serial, kept in the configuration store (R301). -/
def State.serialNext (s : State) : State :=
  let s := s.set F.AUTH_SERIAL (s.get F.AUTH_SERIAL + 1)
  let a := F.AUTH_SERIAL.addr
  let sv := Machine.store 0 (Machine.store 0 s.store.saved a (s.rd a)) (a + 2) (s.rd (a + 2))
  { s with store := { s.store with saved := sv } }

/-- Key bytes of a type (Table 11-6). -/
def keyLen (t : Nat) : Nat := [0, 32, 64, 16, 32, 32].getD t 0

/-- The key check value (R311), first byte lowest. -/
def kcvOf (t : Nat) (key : List Nat) : Nat :=
  let m := if t = 4 then hmac key [] else cmac (key.take (if t = 1 then 16 else if t = 2 then 32 else keyLen t)) []
  m.getD 0 0 + 256 * m.getD 1 0 + 65536 * m.getD 2 0

/-! ### Verdicts (R302, R306, R307) -/

/-- A failure is counted in AUTH, in the second's sum and in PKT_AUTHFAIL (R308, R309). -/
def State.authFail (s : State) (i : Nat) : State :=
  let s := (s.bump (F.AUTH_CNT i)).bump (F.PKT_CNT 15)
  s.setAuth { s.auth with failSec := s.auth.failSec + 1 }

/-- A passed verification of a granted request counts its slots' uses (R308). -/
def State.authUses (s : State) (l : List Nat) : State := l.foldl (fun s n => s.inc (F.AUTH_SLOT_USES n)) s

/-- The plaintext of a cookie: algorithm ID, two zero bytes, C2S and S2C keys (Table 11-4). -/
def cookiePlain (alg : Nat) (c2s s2c : List Nat) : List Nat := beBytes 2 alg ++ [0, 0] ++ c2s ++ s2c

/-- A cookie sealed under a master key (R300). -/
def cookieSeal (master : List Nat) (keyId nonce : Nat) (plain : List Nat) : List Nat :=
  let id := beBytes 4 keyId
  let nb := beBytes 16 nonce
  id ++ nb ++ sivSeal master [id, nb] plain

/-- The form of an NTS request (check 1 of Table 11-5). -/
def ntsForm (f : NtsFields) : Bool :=
  match f.uids, f.cookies, f.auths with
  | [u], [c], [(n, ct)] =>
    decide (f.payload ≤ 1024) && decide (32 ≤ u.length) && (c.length = 104 || c.length = 168) && f.places.all (fun p => p = c.length)
      && decide (n.length = 16) && decide (16 ≤ ct.length)
  | _, _, _ => false

/-- Checks 3 to 7 of Table 11-5 on a cookie that names slot `n`. -/
def State.ntsOpen (s : State) (f : NtsFields) (n : Nat) (cookie nonce ct : List Nat) : Verdict :=
  match sivOpen (s.keyBytes n) [cookie.take 4, (cookie.drop 4).take 16] (cookie.drop 20) with
  | none => .fail 2
  | some p =>
    let alg := beNum (p.take 2)
    let keys := p.drop 4
    let half := keys.length / 2
    if !((alg = 15 && s.on F.AUTH_CTRL_EN256 && half = 32) || (alg = 17 && s.on F.AUTH_CTRL_EN512 && half = 64)) || beNum ((p.drop 2).take 2) ≠ 0 then
      .fail 3
    else if (sivOpen (keys.take half) [f.data, nonce] ct).isNone then .fail 4
    else if !s.on F.AUTH_STAT_CURVALID || s.zeroising (s.get F.AUTH_CURNTS) then .fail 5
    else if !s.on F.AUTH_STAT_DRBGOK then .fail 6
    else .pass [n] (some (s.get F.AUTH_CURNTS)) alg keys (min (s.get F.AUTH_CTRL_MAXCK) (1 + f.places.length))

/-- The verdict on an NTS request. -/
def State.ntsVerdict (s : State) (f : NtsFields) : Verdict :=
  if ntsForm f then
    match f.cookies, f.auths with
    | [c], [(nonce, ct)] =>
      let id := beNum (c.take 4)
      let n := id % 1024
      if s.isNts n && s.usable n && s.get (F.AUTH_SLOT_KEYID n) = id then s.ntsOpen f n c nonce ct else .fail 1
    | _, _ => .fail 0
  else .fail 0

/-- The verdict on an NTP-MAC request (R306). -/
def State.macVerdict (s : State) (keyId : Nat) (data mac : List Nat) : Verdict :=
  match s.slotsUsed.find? (fun n => s.keyType n = 3 && s.usable n && s.get (F.AUTH_SLOT_KEYID n) = keyId) with
  | none => .fail 7
  | some n => if cmac (s.keyBytes n) data = mac then .pass [n] (some n) 0 [] 0 else .fail 8

/-- The verdict on a received PTP message of group `g` (R307). -/
def State.ptpVerdict (s : State) (g : Nat) (a : PtpAuth) : Verdict :=
  match a with
  | .absent => if s.on (F.PKT_PTP_CFG_AUTHREQ g) then .fail 9 else .pass [] none 0 [] 0
  | .malformed => .fail 9
  | .tlv spp id data icv =>
    match s.slotsUsed.find? (fun n => s.keyType n = 4 && s.usable n && s.get (F.AUTH_SLOT_SPP n) = spp && s.get (F.AUTH_SLOT_KEYID n) = id) with
    | none => .fail 10
    | some n => if (hmac (s.keyBytes n) data).take 16 = icv then .pass [n] none 0 [] 0 else .fail 11

/-- The verdict on a request. -/
def State.verdict (s : State) (r : Req) : Verdict :=
  match r.body with
  | .ntp q => match q.ext with
    | .nts f => s.ntsVerdict f
    | .mac id data m => s.macVerdict id data m
    | _ => .pass [] none 0 [] 0
  | .ptp m => s.ptpVerdict r.key.group m.auth
  | .raw => .pass [] none 0 [] 0

/-- The slot that tags sent PTP messages of a group (R307). -/
def State.ptpKey (s : State) (g : Nat) : Option Nat :=
  s.slotsUsed.find? (fun n => s.keyType n = 4 && s.keyState n = 2 && !s.zeroising n && s.get (F.AUTH_SLOT_SPP n) = s.get (F.PKT_PTP_SPP g))

/-! ### Seals (R303, R306, R307) -/

/-- Fresh cookies under a master key: each draws its own nonce from the DRBG, a fresh free value. -/
def State.cookies (s : State) (master : List Nat) (id : Nat) (plain : List Nat) : Nat → State × List (List Nat)
  | 0 => (s, [])
  | k + 1 =>
    let (v, s) := s.freeNat
    let x := s.cookies master id plain k
    (x.1, cookieSeal master id (v % 2 ^ 128) plain :: x.2)

/-- The protection of an NTP response under the verdict on its request: the MAC of the slot that verified it, or fresh cookies sealed under the reserved
slot and an Authenticator under the S2C key with a fresh nonce. -/
def State.ntpSeal (s : State) (o : NtpOut) (v : Option Verdict) : State × Tag :=
  match v with
  | some (.pass _ (some n) alg keys k) =>
    if alg = 0 then (s, .mac (s.get (F.AUTH_SLOT_KEYID n)) (cmac (s.keyBytes n) o.header))
    else
      let half := keys.length / 2
      let x := s.cookies (s.keyBytes n) (s.get (F.AUTH_SLOT_KEYID n)) (cookiePlain alg (keys.take half) (keys.drop half)) k
      let (v, s) := x.1.freeNat
      let nonce := beBytes 16 (v % 2 ^ 128)
      (s, .nts nonce (sivSeal (keys.drop half) [o.covered, nonce] (x.2.flatMap (extField 0x0204))))
  | _ => (s, .none)

/-- The ICV of a PTP message under slot `n`. -/
def State.ptpSeal (s : State) (o : PtpOut) (n : Nat) : Tag :=
  let a := (s.get (F.AUTH_SLOT_SPP n), s.get (F.AUTH_SLOT_KEYID n))
  .icv a.1 a.2 ((hmac (s.keyBytes n) (o.covered (some a))).take 16)

/-! ### Holds (R296, R313) -/

/-- A verdict holds a slot for the response's tag job. -/
def Req.holds (r : Req) (n : Nat) : Bool :=
  match r.ver with
  | some (.pass uses ck _ _ _) => uses.contains n || ck = some n
  | _ => false

/-- A slot's response has a tag to come, now or after a miss. -/
def Slot.toTag (x : Slot) : Bool := x.needTag && (x.wantLock || ((x.ph = .placed || x.ph = .locked) && (!x.tagged || x.spec)))

/-- A request whose response is still to be tagged, or may have to be tagged again, holds a slot (R296). -/
def State.keyHeld (s : State) (n : Nat) : Bool :=
  let src : Source → Bool := fun x => match x with
    | .req r => r.holds n
    | _ => false
  s.pkt.reqs.any (fun r => r.holds n) || s.pkt.ready.any (fun i => src i.src) || s.pkt.slots.any (fun x => x.toTag && src x.item.src)

/-! ### Rotation (R316) -/

/-- ROTNTS and ROTPTP follow the rotations that run. -/
def State.rotShow (s : State) : State :=
  (s.setB F.AUTH_STAT_ROTNTS (s.auth.rots.any (fun r => !r.ptp))).setB F.AUTH_STAT_ROTPTP (s.auth.rots.any (fun r => r.ptp))

/-- Seconds of a rotation's progress in 1/65536ths. -/
def State.rotProgress (s : State) (r : Rotation) : Nat := progressOf (s.secNow - r.start) (r.act + r.delay - r.start)

def State.rotDrop (s : State) (r : Rotation) : State := (s.setAuth { s.auth with rots := s.auth.rots.filter (fun x => x.wb ≠ r.wb) }).rotShow

/-- A rotation ends ABORTED with the records it has counted. -/
def State.rotAbort (s : State) (r : Rotation) : State := (s.finish r.wb .aborted .stopped (s.rotProgress r) r.results).rotDrop r

/-- The slot of a rotation's kind that is CURRENT beside its new one. -/
def State.rotCurrent (s : State) (r : Rotation) : Option Nat := s.slotsUsed.find? (fun m => m ≠ r.new && s.sameKind m r.new && s.keyState m = 2)

/-- The slot that a rotation retires: before its activation, the one that is CURRENT. -/
def State.rotOld (s : State) (r : Rotation) : Option Nat := if r.activated then r.old else s.rotCurrent r

/-- The rotations that name a slot. -/
def State.rotsOf (s : State) (n : Nat) : List Rotation := s.auth.rots.filter (fun r => r.new = n || s.rotOld r = some n)

/-- A millisecond of the rotations: their progress follows the time (R316, R365). -/
def State.rotTick (s : State) : State := s.auth.rots.foldl (fun s r => s.advance r.wb .running (s.rotProgress r) r.results) s

/-- A record of Table 11-8. -/
def State.rotRecord (s : State) (event slot : Nat) : List Word := [w16 event, w16 slot] ++ wordsOf s.secNow 4

/-- The old slot has been overwritten and the rotation completes. -/
def State.rotEnd (s : State) (r : Rotation) (o : Nat) : State :=
  let s := s.raise 163
  (s.finish r.wb .done .ok 0xFFFF (r.results ++ s.rotRecord 2 o)).rotDrop r

def State.setRot (s : State) (r : Rotation) : State := s.setAuth { s.auth with rots := s.auth.rots.map (fun x => if x.wb = r.wb then r else x) }

/-- The old slot is retired and the rotation completes; while jobs hold the slot, its zeroisation waits for them (R313). -/
def State.rotRetire (s : State) (r : Rotation) : State :=
  match r.old with
  | none => (s.finish r.wb .done .ok 0xFFFF r.results).rotDrop r
  | some o =>
    if s.keyHeld o then
      let s := s.setRot { r with retiring := true }
      s.setAuth { s.auth with zero := s.auth.zero ++ [⟨none, 1, [o]⟩] }
    else (s.keyErase o).rotEnd r o

/-- The activation of a rotation, where its generation is checked (R46, R374); one whose new slot has become FAULTED ends FAILED and changes no slot. -/
def State.rotActivate (s : State) (r : Rotation) : State :=
  if s.get F.AUTH_GEN ≠ r.gen then (s.finish r.wb .failed .genConflict (s.rotProgress r) r.results).rotDrop r
  else if s.keyState r.new = 4 then (s.finish r.wb .failed .dataError (s.rotProgress r) r.results).rotDrop r
  else
  let old := s.rotCurrent r
  let s := ((s.keyTo r.new 2).bump F.AUTH_GEN).raise 162
  let r := { r with activated := true, old := old, act := s.secNow, results := r.results ++ s.rotRecord 1 r.new }
  let s := s.setRot r
  if old.isNone || r.delay = 0 then s.rotRetire r else s.advance r.wb .running (s.rotProgress r) r.results

/-! ### Zeroisation (R313) -/

/-- A slot of a zeroisation has been overwritten; the rotation that retired it ends, and the waybill completes after its last slot. -/
def State.zeroDone (s : State) (n : Nat) : State :=
  let s := s.keyErase n
  let s := (s.auth.rots.filter (fun r => r.retiring && r.old = some n)).foldl (fun s r => s.rotEnd r n) s
  let zs := s.auth.zero.map (fun z => { z with slots := z.slots.filter (fun m => m ≠ n) })
  let s := s.setAuth { s.auth with zero := zs.filter (fun z => !z.slots.isEmpty) }
  (zs.filter (fun z => z.slots.isEmpty)).foldl (fun s z => z.wb.elim s (fun h => s.done h [w16 (s.get F.AUTH_GEN), w16 z.total])) s

end Sys2Proof.Machine
end

