-- ==== Sys2Proof/Machine/Auth.lean ====
section
/-! DEFINITION. The commands of AUTH (spec/11), except those that reach PKT's slots. -/
namespace Sys2Proof.Machine

/-- An event of AUTH's: the CRYPT island runs from step 3 on, outside safe configuration (R71, R314; log entry 7). -/
def authEvent (c : Bool) (s : State) (f : State → State) : Res := if s.past 3 && s.seq.st ≠ .safe && c then fin (f s) else .next s

/-- A job is a verify job whose grant is known to be `g`. -/
def isVerify (g : Bool) : AuthJob → Bool
  | .verify _ b => b = g
  | _ => false

/-- The words of a mint's cookies, bytes in cookie order. -/
def State.mint (s : State) (master : List Nat) (id : Nat) (plain : List Nat) (k : Nat) : State × List Word :=
  let x := s.cookies master id plain k
  (x.1, x.2.flatMap bytesWords)

/-- A mint job (R304, R305): it reads the CURRENT slot as it starts, and erases its stage whatever its outcome. -/
def mintJob (h : WbHead) (ps : List Word) (s : State) : State :=
  let alg := param s ps 0
  let st := look ({} : Stage) s.auth.stages (param s ps 2 1)
  let bytes := wordBytes ((ps.drop 2).take 32)
  let keys := if alg = 15 then some (bytes.take 32, bytes.drop 32) else match st.c2s, st.s2c with
    | some a, some b => some (a, b)
    | _, _ => none
  let s := if alg = 17 then s.setAuth { s.auth with stages := eraseKey s.auth.stages (param s ps 2 2) } else s
  let cur := s.get F.AUTH_CURNTS
  let ok := s.on F.AUTH_STAT_CURVALID && !s.zeroising cur && s.on F.AUTH_STAT_DRBGOK
    && (if alg = 15 then s.on F.AUTH_CTRL_EN256 else s.on F.AUTH_CTRL_EN512)
  match keys with
  | some (a, b) =>
    if ok then
      let (s, ws) := s.mint (s.keyBytes cur) (s.get (F.AUTH_SLOT_KEYID cur)) (cookiePlain alg a b) (param s ps 1)
      s.done h ws
    else s.failed h .notPermitted
  | none => s.failed h .notPermitted

/-- The mints run once no job of R295's levels waits (R304). -/
def State.mintsDue (s : State) : State :=
  if s.auth.jobs.isEmpty then s.auth.mints.foldl (fun s m => mintJob m.1 m.2 s) (s.setAuth { s.auth with mints := [] }) else s

/-- R302: AUTH runs the first verify job: granted ones first, then in order of arrival, and none while a tag job waits (R295). -/
def execAuthVerifyJob (s : State) : Res :=
  match (s.auth.jobs.find? (isVerify true)).orElse (fun _ => s.auth.jobs.find? (isVerify false)) with
  | some (.verify id g) =>
    authEvent (s.auth.jobs.all (fun j => isVerify true j || isVerify false j)) s fun s =>
      let s := s.setAuth { s.auth with jobs := s.auth.jobs.erase (.verify id g) }
      match s.req? id with
      | some r => (s.modReq id (fun r' => { r' with ver := some (s.verdict r) })).mintsDue
      | none => s.mintsDue
  | _ => .next s

/-- R298: AUTH discards the job of a denied request, its keys and its verdict. -/
def execAuthCancel (id : Nat) (s : State) : Res :=
  let ours : AuthJob → Bool := fun j => match j with
    | .verify r _ => r = id
    | _ => false
  authEvent (s.auth.jobs.any ours || (s.req? id).any (fun r => r.got = some .denied)) s fun s =>
    (s.setAuth { s.auth with jobs := s.auth.jobs.filter (fun j => !ours j) }).modReq id (fun r => { r with ver := none }) |>.mintsDue

/-- R309: the failures of a TAI second against AUTH_FAILLIM. -/
def execAuthFailSecond (s : State) : Res :=
  authEvent true s fun s =>
    let high := decide (s.get F.AUTH_FAILLIM < s.auth.failSec)
    let s := s.setAuth { s.auth with failSec := 0 }
    if high then (s.evtSet F.AUTH_EVT_FAILRATE 160).fault 0x0C 1 else s

/-- R315: the second's reseed or reinstantiation of the DRBG; `ok` is the entropy source's health test. -/
def execDrbgReseed (ok : Bool) (s : State) : Res :=
  authEvent true s fun s =>
    if ok then s.setB F.AUTH_STAT_DRBGOK true
    else if s.on F.AUTH_STAT_DRBGOK then
      ((s.setB F.AUTH_STAT_DRBGOK false).evtSet F.AUTH_EVT_DRBGFAIL 165).fault 0x0C 2
    else s

/-- R313: the slot state changes applied since the last millisecond boundary take effect. -/
def execKeyStateEffect (s : State) : Res :=
  authEvent (!s.auth.changes.isEmpty) s fun s =>
    (s.auth.changes.foldl (fun s c => (s.keyTo c.slot c.state).bump F.AUTH_GEN) (s.setAuth { s.auth with changes := [] })).countUsed

/-- R313: no job holds slot `n`, and it is overwritten. -/
def execZeroiseComplete (n : Nat) (s : State) : Res := authEvent (s.zeroising n && !s.keyHeld n) s fun s => s.zeroDone n

/-- R313: an ECC error in slot `n` of the key store, of one bit or of two. -/
def execKeystoreEccError (n : Nat) (double : Bool) (s : State) : Res :=
  authEvent (n < 1024 && s.keyState n ≠ 0) s fun s =>
    if double then
      ((((s.keySet n 4).curNts).bump F.AUTH_GEN).evtSet F.AUTH_EVT_KEYECC 166).fault 0x0C 4 n
    else s.inc F.AUTH_ECCCORR

/-- R316: the activation time of the rotation to slot `n` has come. -/
def execRotationActivate (n : Nat) (s : State) : Res :=
  match s.auth.rots.find? (fun r => r.new = n && !r.activated) with
  | some r => authEvent (r.act ≤ s.secNow) s fun s => s.rotActivate r
  | none => .next s

/-- R316: the retire delay of the rotation to slot `n` has passed. -/
def execRotationRetire (n : Nat) (s : State) : Res :=
  match s.auth.rots.find? (fun r => r.new = n && r.activated && !r.retiring) with
  | some r => authEvent (r.act + r.delay ≤ s.secNow) s fun s => s.rotRetire r
  | none => .next s

/-- R305: 1 s after its first half, a mint stage is erased. -/
def execMintStageExpiry (n : Nat) (s : State) : Res :=
  authEvent (s.auth.stages.any (fun p => p.1 = n)) s fun s => s.setAuth { s.auth with stages := eraseKey s.auth.stages n }

/-- R319: AUTH_CFG. -/
def execAuthCfg (h : WbHead) (ps : List Word) (s : State) : Res :=
  runOp 0x6000 false h ps s fun s =>
    cfgOp F.AUTH_GEN (param s ps 0) (cfgValues s ps 1 [F.AUTH_CTRL.addr, F.AUTH_FAILLIM.addr]) noPost h s

/-- The key of AUTH_KEYLOAD, unwrapped if it came wrapped; none where that is not permitted (R311). -/
def State.loadKey (s : State) (wrapped : Bool) (kek : Nat) (bytes : List Nat) : Option (List Nat) :=
  if !wrapped then some bytes
  else if kek < 1024 ∧ s.keyType kek = 5 ∧ s.keyState kek ≠ 0 ∧ s.keyState kek ≠ 4 ∧ !s.zeroising kek then keyUnwrap (s.keyBytes kek) bytes
  else none

/-- R311, R313: AUTH_KEYLOAD; the slot is LOADED from the next millisecond boundary, its record at once. -/
def execAuthKeyload (h : WbHead) (ps : List Word) (s : State) : Res :=
  runOp 0x6040 false h ps s fun s =>
    let n := param s ps 0
    let w := param s ps 2
    let t := w % 16
    let wrapped := decide (w / 32 % 2 = 1)
    let len := keyLen t + (if wrapped then 8 else 0)
    genCheck F.AUTH_GEN (param s ps 1) h s fun s =>
      if 1024 ≤ n ∨ t = 0 ∨ 6 ≤ t ∨ 64 ≤ w ∨ (ps.length - 7) * 2 < len ∨ (t = 4 ∧ 256 ≤ param s ps 6) then s.waybillErr 0xc h
      else if s.slotsUsed.contains n then (s.failed h .notPermitted)
      else
        let given := paramN s ps 4 2
        if t = 3 && s.slotsUsed.any (fun m => s.keyType m = 3 && s.get (F.AUTH_SLOT_KEYID m) = given) then (s.failed h .notPermitted)
        else match s.loadKey wrapped (param s ps 3) ((wordBytes (ps.drop 7)).take len) with
          | none => s.failed h .notPermitted
          | some key =>
            let id := if t ≤ 2 then s.get F.AUTH_SERIAL * 1024 + n else if t = 5 then 0 else given
            let s := if t ≤ 2 then s.serialNext else s
            let kcv := kcvOf t key
            let r : KeyRec := { slot := n, type := t, state := 1, wrapped := wrapped, keyId := id, spp := if t = 4 then param s ps 6 1 else 0, kcv := kcv, key := key }
            let s := ((s.keyPut r (w / 16 % 2 = 1)).keySave n).set (F.AUTH_SLOT_CFG_STATE n) 0
            let s := (s.setAuth { s.auth with changes := s.auth.changes ++ [⟨n, 1⟩] }).countUsed.bump F.AUTH_GEN
            s.done h ([w16 (s.get F.AUTH_GEN)] ++ wordsOf kcv 2 ++ wordsOf id 2)

/-- R312: AUTH_KEYSTATE; the change takes effect at the next millisecond boundary. -/
def execAuthKeystate (h : WbHead) (ps : List Word) (s : State) : Res :=
  runOp 0x6080 false h ps s fun s =>
    let n := param s ps 0
    let st := param s ps 2
    genCheck F.AUTH_GEN (param s ps 1) h s fun s =>
      if 1024 ≤ n ∨ st = 0 ∨ 4 ≤ st then s.waybillErr 0xc h
      else if s.keyState n = 0 || s.keyState n = 4 || (s.keyType n = 5 && 2 ≤ st) || !(s.rotsOf n).isEmpty || s.zeroising n then
        s.failed h .notPermitted
      else
        let s := (s.setAuth { s.auth with changes := s.auth.changes ++ [⟨n, st⟩] }).bump F.AUTH_GEN
        s.done h [w16 (s.get F.AUTH_GEN)]

/-- R313: AUTH_ZEROISE. -/
def execAuthZeroise (h : WbHead) (ps : List Word) (s : State) : Res :=
  runOp 0x60C0 false h ps s fun s =>
    let n := param s ps 1
    genCheck F.AUTH_GEN (param s ps 0) h s fun s =>
      if 1024 ≤ n ∧ n ≠ 0xFFFF then s.waybillErr 0xc h
      else
        let l := if n = 0xFFFF then s.slotsUsed else s.slotsUsed.filter (fun m => m = n)
        let s := if n = 0xFFFF then s.setAuth { s.auth with stages := [] } else s
        let s := (s.auth.rots.filter (fun r => l.contains r.new || (s.rotOld r).any (fun o => l.contains o))).foldl State.rotAbort s
        if l.isEmpty then (s.done h [w16 (s.get F.AUTH_GEN), 0])
        else (s.setAuth { s.auth with zero := s.auth.zero ++ [⟨some h, l.length, l⟩] })

/-- R316: AUTH_ROTATE. -/
def execAuthRotate (h : WbHead) (ps : List Word) (s : State) : Res :=
  runOp 0x6100 true h ps s fun s =>
    let n := param s ps 1
    genCheck F.AUTH_GEN (param s ps 0) h s fun s =>
      if 1024 ≤ n then s.waybillErr 0xc h
      else if !(s.isNts n || s.keyType n = 4) || s.keyState n ≠ 1 || s.zeroising n || !s.on F.TBASE_STAT_TIMESET then (s.failed h .notPermitted)
      else
        let ptp := decide (s.keyType n = 4)
        let spp := if ptp then s.get (F.AUTH_SLOT_SPP n) else 0
        if s.auth.rots.any (fun r => r.ptp = ptp && r.spp = spp) then (s.failed h .busy)
        else
          let act := paramN s ps 2 4
          let r : Rotation := { wb := h, gen := param s ps 0 1, ptp := ptp, spp := spp, new := n, start := s.secNow, act := if act = 0 then s.secNow else act, delay := paramN s ps 6 2 }
          let s := s.acceptLong h 0x6100 .running
          (s.setAuth { s.auth with rots := s.auth.rots ++ [r] }).rotShow

/-- R316: AUTH_ROTSTOP. -/
def execAuthRotstop (h : WbHead) (ps : List Word) (s : State) : Res :=
  runOp 0x6140 false h ps s fun s =>
    if 2 ≤ param s ps 0 ∨ 256 ≤ param s ps 1 then s.waybillErr 0xc h
    else
      let ptp := decide (param s ps 0 1 = 1)
      let s := match s.auth.rots.find? (fun r => r.ptp = ptp && (!ptp || r.spp = param s ps 1 1)) with
        | some r => s.rotAbort r
        | none => s
      s.done h

/-- R304, R305: AUTH_COOKIEMINT, of the lowest priority; a count of 0 completes DONE with no results (Table 11-14). -/
def execAuthCookiemint (h : WbHead) (ps : List Word) (s : State) : Res :=
  runOp 0x6180 false h ps s fun s =>
    let alg := param s ps 0
    let n := param s ps 1
    if (alg ≠ 15 ∧ alg ≠ 17) ∨ 8 < n ∨ (alg = 17 ∧ 4 ≤ param s ps 2) ∨ (alg = 15 ∧ ps.length < 34) then s.waybillErr 0xc h
    else if n = 0 then (if alg = 17 then s.setAuth { s.auth with stages := eraseKey s.auth.stages (param s ps 2 1) } else s).done h
    else if s.auth.jobs.isEmpty then mintJob h ps s
    else s.setAuth { s.auth with mints := s.auth.mints ++ [(h, ps)] }

/-- R319: AUTH_KEYREPORT. -/
def execAuthKeyreport (h : WbHead) (ps : List Word) (s : State) : Res :=
  runOp 0x61C0 false h ps s fun s =>
    let n := param s ps 1
    if 1024 ≤ param s ps 0 ∨ 16 < n ∨ 1024 < param s ps 0 1 + n then s.waybillErr 0xc h
    else s.doneRd h ((List.range n).map (fun i => ((F.AUTH_SLOT_CFG (param s ps 0 2 + i)).addr, 8)))

/-- R319: AUTH_COUNTREPORT. -/
def execAuthCountreport (h : WbHead) (ps : List Word) (s : State) : Res :=
  runOp 0x6200 false h ps s fun s =>
    let n := param s ps 1
    if 14 ≤ param s ps 0 ∨ 14 < param s ps 0 1 + n then s.waybillErr 0xc h
    else s.doneRd h [((F.AUTH_CNT (param s ps 0 2)).addr, 2 * n)]

/-- R319: AUTH_SELFTEST: every known-answer test passes in a part that is not defective (log entry 12). -/
def execAuthSelftest (h : WbHead) (ps : List Word) (s : State) : Res := runOp 0x6240 false h ps s fun s => s.done h [0x1F]

/-- R305: AUTH_MINTSTAGE. -/
def execAuthMintstage (h : WbHead) (ps : List Word) (s : State) : Res :=
  runOp 0x6280 false h ps s fun s =>
    let n := param s ps 0
    if 4 ≤ n ∨ 2 ≤ param s ps 1 ∨ ps.length < 34 then s.waybillErr 0xc h
    else
      let k := wordBytes ((ps.drop 2).take 32)
      let st := look ({} : Stage) s.auth.stages n
      let st := if param s ps 1 1 = 0 then { st with c2s := some k } else { st with s2c := some k }
      (s.setAuth { s.auth with stages := insertKey s.auth.stages n st }).done h

end Sys2Proof.Machine
end

