-- ==== Sys2Proof/Machine/Dpll.lean ====
section
/-! DEFINITION. The commands of the DPLL loop (spec/04), except the tick itself. -/
namespace Sys2Proof.Machine

/-- R115: the slew that removes Δ0 ends, in the millisecond that removes what is left of it. -/
def execSlewComplete (s : State) : Res :=
  if s.on F.DPLL_STAT_SLEWING ∧ s.dpll.slewRem.natAbs ≤ s.dpll.slewNow then hwAfter 6 s State.slewEnd else .next s

/-- R132: the phase error has stayed below LOCKTHR for 10 s. -/
def execPhlockTimer (s : State) : Res := hwAfter 6 s State.phLock

/-- R136: DPLL_LOOPCFG; the OPEN bit of P1 is ignored. -/
def execDpllLoopcfg (h : WbHead) (ps : List Word) (s : State) : Res :=
  runOp 0x1800 false h ps s fun s =>
    let l := cfgValues s ps 1 [F.DPLL_MODE.addr, F.DPLL_BW.addr, F.DPLL_SLEWLIM.addr, F.DPLL_PULL.addr, F.DPLL_LOCKTHR.addr]
    let l := l.map (fun p => if p.1 = F.DPLL_MODE.addr then (p.1, putBits p.2 0 1 (s.get F.DPLL_MODE_OPEN)) else p)
    cfgOp F.DPLL_GEN (param s ps 0) l noPost h s

/-- R120: DPLL_OPEN; applied at order 3 of the next tick. -/
def execDpllOpen (h : WbHead) (ps : List Word) (s : State) : Res :=
  runOp 0x1840 false h ps s fun s =>
    s.setDpll { s.dpll with reqs := s.dpll.reqs ++ [.openLoop (some h) (some (param s ps 0))] }

/-- R120: DPLL_CLOSE with its own CLOSEBUMP; applied at order 3 of the next tick. -/
def execDpllClose (h : WbHead) (ps : List Word) (s : State) : Res :=
  runOp 0x1880 false h ps s fun s =>
    if 2 ≤ param s ps 1 then s.waybillErr 3 h
    else s.setDpll { s.dpll with reqs := s.dpll.reqs ++ [.closeLoop (some (param s ps 1 1)) (some h) (some (param s ps 0))] }

/-- R119: DPLL_SETFREQ; the tick that applies the word completes it. -/
def execDpllSetfreq (h : WbHead) (ps : List Word) (s : State) : Res :=
  runOp 0x18C0 false h ps s fun s =>
    genCheck F.DPLL_GEN (param s ps 0) h s fun s =>
      if s.mode ≠ 4 then (s.failed h .notPermitted)
      else
        let s := (s.set F.DPLL_SWFREQ (paramN s ps 1 3)).set F.DPLL_SWCMD 1
        s.setDpll { s.dpll with reqs := s.dpll.reqs ++ [.applyWord h] }

/-- R136: DPLL_LOOPREPORT. -/
def execDpllLoopreport (h : WbHead) (ps : List Word) (s : State) : Res :=
  runOp 0x1900 false h ps s fun s =>
    s.doneRd h [F.DPLL_STAT.run, F.DPLL_FREQ.run, F.DPLL_PHERR.run, F.DPLL_PHSEQ.run, F.DPLL_BWEFF.run, F.DPLL_GEN.run]

/-- R136: DPLL_PHLOG, in units of 0.1 ns.  Each phase error is rounded down, and fewer words are given where the log holds fewer ticks (DESIGN CHOICE,
log entry 33). -/
def execDpllPhlog (h : WbHead) (ps : List Word) (s : State) : Res :=
  runOp 0x1940 false h ps s fun s =>
    if 1023 < param s ps 0 ∨ 64 < param s ps 1 then s.waybillErr 3 h
    else s.done h (((s.dpll.phlog.drop (param s ps 0 1)).take (param s ps 1 1)).map (fun p => wI (p / 100)))

/-- R119: APPLY written in OPEN; outside OPEN it has no effect. -/
def State.swcmdWrite (s : State) : State := if s.mode = 4 then s.set F.DPLL_SWCMD 1 else s
def execDpllSwcmdApply (s : State) : Res := directWrite 3 s State.swcmdWrite

/-- The other fields of a write to DPLL_MODE take effect with it. -/
def State.modeWrite (s : State) (v : Nat) : State := (s.putReg F.DPLL_MODE.addr v).bump F.DPLL_GEN

/-- A write of `v`, with OPEN as `o`, to DPLL_MODE: the request `r` waits for order 3 of the next tick. -/
def State.modeReq (r : DpllReq) (o v : Nat) (s : State) : State :=
  if v % 2 ≠ o ∨ !regOk F.DPLL_MODE.addr v then s.blockErr 3
  else
    let s := s.modeWrite v
    s.setDpll { s.dpll with reqs := s.dpll.reqs ++ [r] }

/-- R120: DPLL_MODE written with OPEN 1: the loop opens at order 3 of the next tick. -/
def execDpllModeOpenWrite (v : Nat) (s : State) : Res := directWrite 3 s (State.modeReq (.openLoop none none) 1 v)

/-- R120: DPLL_MODE written with OPEN 0: the loop closes at order 3 of the next tick with DPLL_MODE.CLOSEBUMP. -/
def execDpllModeCloseWrite (v : Nat) (s : State) : Res := directWrite 3 s (State.modeReq (.closeLoop none none none) 0 v)

end Sys2Proof.Machine
end

