-- ==== Sys2Proof/Machine/GnssOps.lean ====
section
/-! DEFINITION. The shared operations of GNSS (spec/08): the island and its start, channels, searches, interference, solutions. -/
namespace Sys2Proof.Machine

def State.setGnss (s : State) (g : Gnss) : State := { s with gnss := g }
def State.gch (s : State) (c : Nat) : GnssCh := look {} s.gnss.chans c
def State.setGch (s : State) (c : Nat) (x : GnssCh) : State := s.setGnss { s.gnss with chans := Machine.store {} s.gnss.chans c x }
/-- The state of a channel (Table 8-4). -/
def State.chState (s : State) (c : Nat) : Nat := s.get (F.GNSS_CH_STAT_STATE c)

/-- The GNSS island runs: enabled, with its port A clock present (R213, R214). -/
def State.gnssRuns (s : State) : Bool := s.past 7 && s.seq.st ≠ .safe && s.on F.GNSS_CTRL_EN && s.on F.GNSS_STAT_ACTA

/-- A port A period in units of 2^-48 ns (R212). -/
def State.portPeriod (s : State) : Nat := NS48 * 1000000 / (1023 * max 1 (s.get F.GNSS_FSK))

/-! ### Channels (R221, R222) -/

/-- NTRK follows the channels in TRACK and NAVSYNC; source 81 at a change. -/
def State.countTrk (s : State) : State :=
  let n := ((List.range 64).filter (fun c => s.chState c = 2 ∨ s.chState c = 3)).length
  if s.get F.GNSS_STAT_NTRK = n then s else (s.set F.GNSS_STAT_NTRK n).raise 81

/-- A channel enters a state; outside NAVSYNC it has no signal B. -/
def State.chTo (s : State) (c st : Nat) : State :=
  let s := if s.chState c = st then s else (s.set (F.GNSS_CH_STAT_STATE c) st).bump F.GNSS_GEN
  let s := if st = 3 then s else s.setB (F.GNSS_CH_STAT_BTRK c) false
  let s := if st = 2 then (s.setGch c { s.gch c with locked := 0 }).set (F.GNSS_CH_LOCKT c) 0 else s
  (s.raiseIf (st = 4) 82).countTrk

/-- A channel goes to IDLE and drives nothing. -/
def State.chIdle (s : State) (c : Nat) : State :=
  if s.chState c = 0 then s
  else
    let s := (((s.set (F.GNSS_CH_STAT c) 0).set (F.GNSS_CH_CN0A c) 0).set (F.GNSS_CH_CN0B c) 0).set (F.GNSS_CH_DOP c) 0
    (((s.set (F.GNSS_CH_LOCKT c) 0).setGch c {}).bump F.GNSS_GEN).countTrk

def State.chIdleAll (s : State) : State := (List.range 64).foldl State.chIdle s

/-- Every port B signal is dropped. -/
def State.dropB (s : State) : State := (List.range 64).foldl (fun s c => s.setB (F.GNSS_CH_STAT_BTRK c) false) s

/-- A PRN is assigned to a channel, which enters PULLIN. -/
def State.chAssign (s : State) (c : Nat) (gal : Bool) (prn : Nat) : State :=
  ((((s.set (F.GNSS_CH_STAT c) 1).setB (F.GNSS_CH_STAT_SYS c) gal).set (F.GNSS_CH_STAT_PRN c) prn).bump F.GNSS_GEN).setGch c {}

/-- A channel tracks this PRN already. -/
def State.chTracks (s : State) (gal : Bool) (prn : Nat) : Bool :=
  (List.range 64).any (fun c => s.chState c ≠ 0 && s.on (F.GNSS_CH_STAT_SYS c) == gal && s.get (F.GNSS_CH_STAT_PRN c) = prn)

/-! ### Searches (R218 to R220) -/

/-- The PRNs of a mask in ascending order. -/
def maskPrns (m n : Nat) : List Nat := ((List.range n).filter (fun i => m / 2 ^ i % 2 = 1)).map (· + 1)

/-- The transforms of a search (R218): T_c in ms, K blocks, half-range and centre in Hz, threshold. -/
def mkJob (wb : Option WbHead) (gal : Bool) (prns : List Nat) (tc k half : Nat) (centre : Int) (thr : Nat) (handoff : Bool) : AcqJob :=
  { wb := wb, gal := gal, prns := prns, total := prns.length, perPrn := (2 * ceilDiv (half * 2 * tc) 1000 + 1) * k, forward := 2 * k,
    thr := thr, handoff := handoff, centre := centre, blocks := k }

/-- PROGRESS of a search whose transforms so far are those of the PRNs done and `part` more (R219). -/
def AcqJob.progress (j : AcqJob) (part : Nat := 0) : Nat :=
  progressOf ((if j.done = 0 then 0 else j.forward + j.done * j.perPrn) + part) (j.forward + j.total * j.perPrn)

/-- The transforms of the PRN in hand, with those of the blocks before the first: an abort may fall after any number of them. -/
def AcqJob.inHand (j : AcqJob) : Nat := j.perPrn + (if j.done = 0 then j.forward else 0)

/-- The engine, unless it is fenced (R429), takes its next search: a queued host search before a firmware search. -/
def State.acqNext (s : State) : State :=
  if s.gnss.job.isSome || !s.gnssRuns || s.bit F.FCOL_FENCEMAP 7 then s
  else match s.gnss.host with
    | some j =>
      let s := (s.setGnss { s.gnss with job := some j, host := none }).setB F.GNSS_STAT_ACQBUSY true
      match j.wb with
      | some h => s.advance h .running 0 []
      | none => s
    | none => match s.gnss.firm with
      | j :: r => (s.setGnss { s.gnss with job := some j, firm := r }).setB F.GNSS_STAT_ACQBUSY true
      | [] => s

/-- The running search ends; the next one starts. -/
def State.acqEnd (s : State) (st : ManSt) (status : Status) : State :=
  match s.gnss.job with
  | none => s
  | some j =>
    let s := (s.setGnss { s.gnss with job := none }).setB F.GNSS_STAT_ACQBUSY false
    let (n, s) := s.freeNat
    let s := match j.wb with
      | some h => s.finish h st status (if st = ManSt.done then 0xFFFF else j.progress (n % max 1 j.inHand)) j.results
      | none => s
    ((s.inc F.GNSS_ACQCNT).raise 80).acqNext

/-- The record of a PRN (Table 8-2); `centre` is the search centre in Hz. -/
def acqRecord (gal : Bool) (centre : Int) (prn : Nat) (found handed : Bool) (x : AcqCell) : List Word :=
  [w16 (prn + (if gal then 256 else 0) + (if found then 512 else 0) + (if handed then 1024 else 0)), w16 (satNat 16 x.peak)]
    ++ wordsOf (ofSigned 32 (satSigned 32 (centre * 10 + x.doppler))) 2 ++ wordsOf (satNat 32 x.code) 2 ++ [w16 (satNat 16 x.cn0)]

/-- The last transform of the next PRN completes: it is counted, perhaps handed off, and the search may end. -/
def State.acqStep (s : State) (x : AcqCell) : State :=
  match s.gnss.job with
  | none => s
  | some j => match j.prns with
    | [] => s
    | p :: r =>
      let found := decide (j.thr < x.peak)
      let idle := (List.range 64).find? (fun c => s.chState c = 0)
      let take := if found && j.handoff && !s.chTracks j.gal p then idle else none
      let s := match take with
        | some c => s.chAssign c j.gal p
        | none => s
      let j := { j with prns := r, done := j.done + 1, results := j.results ++ acqRecord j.gal j.centre p found take.isSome x }
      let s := s.setGnss { s.gnss with job := some j }
      if r.isEmpty then s.acqEnd .done .ok
      else match j.wb with
        | some h => (s.advance h .running j.progress j.results)
        | none => s

/-! ### GNSS starts (R214, R230) -/

/-- The kind of a GNSS start (Table 8-6).  How many predicted-visible satellites have a fresh ephemeris is firmware's sky prediction, a free value. -/
def State.gnssKind (s : State) (visible : Nat) : Nat :=
  let warm := decide (s.seq.kind = some .warm) && s.get F.GNSS_POS ≠ 0
  if warm && s.get F.GNSS_EPHAGE ≤ 240 && 4 ≤ visible && s.gnss.aonBound ≤ 100000000 then 3
  else if warm && s.get F.GNSS_ALMAGE ≤ 90 && s.gnss.aonBound ≤ 1000000000000 then 2 else 1

/-- Firmware's searches of a start (Table 8-6): every PRN and ±5 kHz in a cold one; in the others the visible PRNs, about firmware's prediction, ±500 Hz
warm and ±250 Hz hot.  The prediction and the thresholds are free. -/
def State.firmJobs (s : State) (kind : Nat) : State :=
  if s.on F.GNSS_CTRL_AUTOACQ then
    let (a, s) := s.freeNat
    let (b, s) := s.freeNat
    let (t, s) := s.freeNat
    let m := fun n v => if kind = 1 then 2 ^ n - 1 else v
    let half := if kind = 3 then 250 else if kind = 2 then 500 else 5000
    let gps := mkJob none false (maskPrns (m 32 a) 32) 1 1 half 0 t true
    let gal := mkJob none true (maskPrns (m 36 b) 36) 4 1 half 0 t true
    let jobs := if s.on F.GNSS_CTRL_DUAL && s.on F.GNSS_CTRL_GALEN then [gps, gal] else [gps]
    s.setGnss { s.gnss with firm := jobs.filter (fun j => !j.prns.isEmpty) }
  else s.setGnss { s.gnss with firm := [] }

/-- A notch's ACTIVE changes with source 85. -/
def State.notchActive (s : State) (k : Nat) (b : Bool) : State :=
  if s.on (F.GNSS_NOTCH_STAT_ACTIVE k) = b then s else (s.setB (F.GNSS_NOTCH_STAT_ACTIVE k) b).raise 85

/-- What the island's own registers show after its reset: no channel, no power, no line, no slip (R214; log entry 42). -/
def State.gnssReset (s : State) : State :=
  let s := s.chIdleAll
  let s := (List.range 64).foldl (fun s c => (s.set (F.GNSS_CH_NAVOK c) 0).set (F.GNSS_CH_NAVBAD c) 0) s
  let s := (List.range 8).foldl (fun s k => (s.notchActive k false).set (F.GNSS_NOTCH_STAT_LINE k) 0) s
  let s := [F.GNSS_JNA, F.GNSS_JNB, F.GNSS_JNPEAK, F.GNSS_SLIPCNT].foldl (fun s f => s.wr f.addr 0) s
  s.setGnss { s.gnss with notches := [], runs := [] }

/-- The ages of the start data that a GNSS start finds (Table 8-9). -/
def State.gnssAges (s : State) (eph alm : Nat) : State := (s.setSat F.GNSS_EPHAGE eph).setSat F.GNSS_ALMAGE alm

/-- A GNSS start: step 8, the return of port A, or a change of the sample format.  Its fixed notches are active from the start (R223). -/
def State.gnssStart (s : State) : State :=
  if s.on F.GNSS_CTRL_EN then
    let s := (List.range 8).foldl (fun s k => if s.get (F.GNSS_NOTCH_CFG_MODE k) = 2 then s.notchActive k true else s) s
    let (v, s) := s.freeNat
    let k := s.gnssKind v
    let s := (s.set F.GNSS_STAT_START k).setB F.GNSS_SOLSTAT_SURVEYING (s.get F.GNSS_POSMODE_MODE = 0)
    let s := s.set F.GNSS_ELAST (if s.on F.GNSS_CTRL_DUAL then 32 else 0)
    ((s.setGnss { s.gnss with first := true }).firmJobs k).acqNext
  else s.set F.GNSS_STAT_START 0

/-- The island stops: every channel idle, the search ABORTED. -/
def State.gnssStop (s : State) : State :=
  let s := s.chIdleAll
  let s := s.setGnss { s.gnss with firm := [] }
  s.acqEnd .aborted .interrupted

/-- The effects of a change of the common registers (R219, R233). -/
def gnssPost (old s : State) : State :=
  let ch := fun f : Field => old.get f != s.get f
  let a := ch F.GNSS_FSK || ch F.GNSS_CTRL_DUAL || ch F.GNSS_IFA || ch F.GNSS_PORTA_CFG
  if a || ch F.GNSS_IFB || ch F.GNSS_PORTB_CFG || ch F.GNSS_CTRL_EN then
    let s := s.gnssReset
    let s := if s.on F.GNSS_CTRL_DUAL then s else s.setB F.GNSS_STAT_SINGLEFB false
    let s := s.setGnss { s.gnss with firm := [] }
    let s := if a || ch F.GNSS_CTRL_EN then s.acqEnd .aborted .interrupted else s
    let (e, s) := s.freeNat
    let (m, s) := s.freeNat
    (s.gnssAges e m).gnssStart
  else if ch F.GNSS_CTRL_AUTOACQ && !s.on F.GNSS_CTRL_AUTOACQ then s.setGnss { s.gnss with firm := [] }
  else s

/-- SURVEYING follows MODE. -/
def posPost (_ s : State) : State := s.setB F.GNSS_SOLSTAT_SURVEYING (s.get F.GNSS_POSMODE_MODE = 0)

/-! ### Interference (R223, R224) -/

/-- An automatic notch is free again. -/
def State.notchFree (s : State) (k : Nat) : State :=
  ((s.notchActive k false).set (F.GNSS_NOTCH_STAT_LINE k) 0).setGnss { s.gnss with notches := eraseKey s.gnss.notches k } |>.notchActive k false

/-- A frequency of the spectrum as notch `k` sees it: INV of its port mirrors it (R212). -/
def State.mirrored (s : State) (k : Nat) (hz : Int) : Int := if s.on (if k < 4 then F.GNSS_PORTA_CFG_INV else F.GNSS_PORTB_CFG_INV) then -hz else hz

/-- A notch takes or tracks a line. -/
def State.notchHold (s : State) (k : Nat) (l : SpecLine) (below : Nat) : State :=
  let s := (s.setI (F.GNSS_NOTCH_FREQ k) (s.mirrored k l.hz)).setSat (F.GNSS_NOTCH_STAT_LINE k) l.level
  s.setGnss { s.gnss with notches := insertKey s.gnss.notches k ⟨l.line, below⟩ }

/-- One active automatic notch at a spectrum: tracking and release; a line that the spectrum does not show leaves the notch where it is. -/
def State.notchTrack (lines : List SpecLine) (s : State) (k : Nat) : State :=
  match s.gnss.notches.find? (fun p => p.1 = k) with
  | none => s
  | some (_, n) =>
    let l := (lines.find? (fun l => l.line = n.line)).getD ⟨n.line, s.mirrored k (s.getI (F.GNSS_NOTCH_FREQ k)), 0⟩
    let below := if l.level + 6 ≤ s.get F.GNSS_JNLIM_NOTCHTHR then n.below + 1 else 0
    if 100 ≤ below then s.notchFree k else s.notchHold k l below

/-- One line at a spectrum: above NOTCHTHR for three spectra it takes the lowest-numbered free automatic notch of its band. -/
def State.notchLine (band : Nat) (s : State) (l : SpecLine) : State :=
  let key := band * 4294967296 + l.line
  let held := (List.range 4).any (fun i => s.gnss.notches.any (fun p => p.1 = band * 4 + i && p.2.line = l.line))
  let r := if s.get F.GNSS_JNLIM_NOTCHTHR < l.level then look 0 s.gnss.runs key + 1 else 0
  let free := (List.range 4).find? (fun i => s.get (F.GNSS_NOTCH_CFG_MODE (band * 4 + i)) = 1 && !s.on (F.GNSS_NOTCH_STAT_ACTIVE (band * 4 + i)))
  let s := s.setGnss { s.gnss with runs := Machine.store 0 s.gnss.runs key r }
  if held || r < 3 then s
  else match free with
    | some i => (s.notchHold (band * 4 + i) l 0).notchActive (band * 4 + i) true
    | none => s

/-- One sample of a port (R212): the I bits 3 to 0 in the low half of a byte, the Q bits in the high half; FMT 0 two's complement, 1 sign-magnitude with
bit 3 as the sign; INV negates Q. -/
def sampleBits (fmt : Bool) (d : Nat) : Int := if fmt then (if d / 8 % 2 = 1 then -(d % 8 : Nat) else (d % 8 : Nat)) else toSigned 4 (d % 16)
def iqSample (fmt inv : Bool) (d : Nat) : Int × Int := (sampleBits fmt d, if inv then -sampleBits fmt (d / 16) else sampleBits fmt (d / 16))

/-- The mean power of samples, in 1/256 of the square of one step. -/
def meanPower (l : List (Int × Int)) : Nat := 256 * (l.map (fun x => x.1.natAbs ^ 2 + x.2.natAbs ^ 2)).sum / max 1 l.length

/-- The power of a band before its notches (R224), from the samples of its port. -/
def State.bandPower (s : State) (band : Nat) (l : List Nat) : Nat :=
  let f := if band = 0 then (F.GNSS_PORTA_CFG_FMT, F.GNSS_PORTA_CFG_INV) else (F.GNSS_PORTB_CFG_FMT, F.GNSS_PORTB_CFG_INV)
  meanPower (l.map (iqSample (s.on f.1) (s.on f.2)))

/-- The reference noise power of a band that the configuration store holds. -/
def State.noiseRef (s : State) (band : Nat) : Nat :=
  (look 0 s.store.saved (if band = 0 then F.GNSS_JNA.addr else F.GNSS_JNB.addr)).toNat

/-- J/N in whole steps of 0.5 dB, rounded down, from 0 to 127.5 dB (R224; log entry 42). -/
def jnOf (p ref : Nat) : Nat := ((List.range 255).filter (fun k => 10 ^ (k + 1) * ref ^ 20 ≤ p ^ 20)).length

/-- J/N of a band from its powers before and after the notches (R224). -/
def State.jamUpdate (s : State) (band pre post : Nat) : State :=
  let f := if band = 0 then (F.GNSS_JNA_PRE, F.GNSS_JNA_POST, F.GNSS_JNPEAK_A) else (F.GNSS_JNB_PRE, F.GNSS_JNB_POST, F.GNSS_JNPEAK_B)
  let nf := s.on F.GNSS_STAT_NFVALID
  let was := s.get f.2.1
  let post := if nf then jnOf post (s.noiseRef band) else 0
  let lim := s.get F.GNSS_JNLIM_LIM
  let s := (s.set f.1 (if nf then jnOf pre (s.noiseRef band) else 0)).set f.2.1 post
  let s := if s.get f.2.2 < post then s.set f.2.2 post else s
  if was ≤ lim ∧ lim < post then s.fault 8 4 band else s

/-- The effects of a change of a notch's registers: a fixed notch is active, an off one is not, an automatic one starts free. -/
def notchPost (k : Nat) (old s : State) : State :=
  let m := s.get (F.GNSS_NOTCH_CFG_MODE k)
  if m = 2 then (s.setGnss { s.gnss with notches := eraseKey s.gnss.notches k }).notchActive k true
  else if m = old.get (F.GNSS_NOTCH_CFG_MODE k) then s else s.notchFree k

/-! ### Solutions (R226 to R229) -/

/-- The declared uncertainty of a solution in 0.1 ns, each term rounded up (Table 8-7). -/
def State.fixUnc (s : State) (x : GnssFix) (dual : Bool) : Nat :=
  let k := max 1 (s.get F.GNSS_FSK)
  ceilDiv (5000000 + 8 * 1023 * k) (1023 * k) + 3 * x.sigma
    + (if dual then ceilDiv (s.get F.GNSS_IBBUNC) 100 else ceilDiv x.iono 2) + ceilDiv x.tropo 10
    + (let cm := if s.get F.GNSS_POSMODE_MODE = 0 then 3 * x.posSigma else s.get F.GNSS_POSUNC; ceilDiv (cm * 100000000) 299792458)

/-- A channel counts for a solution: NAVSYNC, C/N0 at or above CN0MIN; without port B no Galileo satellite (R214). -/
def State.chUsable (s : State) (c : Nat) : Bool :=
  decide (c < 64) && s.chState c = 3 && decide (s.get F.GNSS_CN0MIN ≤ s.get (F.GNSS_CH_CN0A c)) &&
    (!s.on (F.GNSS_CH_STAT_SYS c) || (s.on F.GNSS_CTRL_DUAL && s.on F.GNSS_CTRL_GALEN && s.on F.GNSS_STAT_ACTB))

/-- The first GPS week at or after GNSS_WNBASE that a broadcast week number matches modulo its field; a Galileo week counts from GPS week 1024 (R229). -/
def State.weekOf (s : State) (w : WeekNo) : Nat :=
  let m : Nat := 2 ^ w.bits
  let base := s.get F.GNSS_WNBASE
  let v := w.value + (if w.gal then 1024 else 0)
  base + (((v : Int) - base) % m).toNat

/-- 00:00:00 of 6 January 1980, the start of GPS week 0, in GPS time, as seconds of the epoch of R18 less the 19 s of R226 (log entry 42). -/
def gpsEpoch : Nat := 315964800

/-- What the delay of port B relative to port A adds to the epoch's time in the combination of the two bands, 2^-48 ns: the L5-band code weighs
115² ÷ (154² − 115²) (R211, R226). -/
def State.ibbShift (s : State) : Int := s.getI F.GNSS_IBB * 13225 * 2 ^ 48 / (10491 * 1000)

/-- The TAI of an epoch in 2^-48 ns: its GPS time + 19 s, with the port B delay corrected where both bands are combined (R226, R229). -/
def State.fixTai (s : State) (x : GnssFix) (w : WeekNo) (dual : Bool) : Nat :=
  let t : Int := (gpsEpoch + 19 + s.weekOf w * 604800) * SEC48 + x.tow
  (t - (if dual then s.ibbShift else 0)).toNat

/-- The first valid solution on a start whose time is not set asks for the load against its strobe (R168); a host load that waits for its edge gives way. -/
def State.gnssLoad (s : State) (tai : Nat) : State :=
  let go := match s.tb.load with
    | none => true
    | some l => l.ts.isNone
  if s.seq.st = .setting && go then
    let s := match s.tb.load with
      | some ⟨_, _, _, _, _, _, _, some h, _⟩ => s.failed h .notPermitted
      | _ => s
    s.requestLoad ⟨1, 2, 0, tai, some s.gnss.capture, some (s.tsFrom s.now), s.get F.GNSS_SOLUNC * 100, none, none⟩
  else s

/-- 2^-48 ns to ps, rounded to nearest. -/
def psNear (v : Int) : Int := (v * 1000 + 2 ^ 47) / 2 ^ 48

/-- A valid solution with the TAI of its epoch: activity of REF8, and its measurement where the capture was made with time set (R217, R226); before
that it can set time. -/
def State.gnssPass (s : State) (tai : Nat) : State :=
  let s := s.setGnss { s.gnss with usedUnc := s.get F.GNSS_SOLUNC }
  if s.gnss.capSet then s.refOffset 8 (psNear ((s.gnss.capture : Int) - tai))
  else (if s.on (F.RMON_REF_CFG_ENABLE 8) then s.setAct 8 true else s).gnssLoad tai

/-- MGMT forms the solution of an epoch (R226, R227).  The residual test is made where the satellites, one excluded among them, are five or more. -/
def State.gnssSolve (s : State) (x : GnssFix) : State :=
  let used := x.used.filter s.chUsable
  let s := (List.range 64).foldl (fun s c => s.setB (F.GNSS_CH_STAT_USED c) (used.contains c)) s
  let dual := s.on F.GNSS_CTRL_DUAL && s.on F.GNSS_STAT_ACTB && !used.isEmpty && used.all (fun c => s.on (F.GNSS_CH_STAT_BTRK c))
  let tested := decide (5 ≤ used.length + (if x.excluded then 1 else 0))
  let fail := tested && decide (s.get F.GNSS_RAIMLIM < x.rms)
  let excl := tested && x.excluded
  let jam := s.on F.GNSS_CTRL_JAMHOLD && s.jamLevel
  let newFail := fail && !s.on F.GNSS_SOLSTAT_RAIMFAIL
  let newExcl := excl && !s.on F.GNSS_SOLSTAT_RAIMEXCL
  let good := decide (s.get F.GNSS_POSMODE_MINSV ≤ used.length) && !fail && !jam
  let tai := x.week.filter (fun _ => good) |>.map (fun w => s.fixTai x w dual)
  let s := ((s.setB F.GNSS_SOLSTAT_RAIMEXCL excl).setB F.GNSS_SOLSTAT_RAIMFAIL fail).setB F.GNSS_SOLSTAT_JAMHELD jam
  let s := ((s.setB F.GNSS_SOLSTAT_VALID tai.isSome).setB F.GNSS_SOLSTAT_DUALSOL dual).setSat F.GNSS_SOLSTAT_NUSED used.length
  let s := (s.bump F.GNSS_SOLSEQ).raiseIf (newFail || newExcl) 91
  let s := if newFail then s.fault 8 5 else s
  let s := s.raiseIf (s.on F.GNSS_STAT_SOLVALID != tai.isSome) 83
  let s := (s.setB F.GNSS_STAT_SOLVALID tai.isSome).setSat F.GNSS_SOLUNC (s.fixUnc x dual)
  match tai with
  | none => s
  | some t =>
    let s := if dual then s.setB F.GNSS_STAT_SINGLEFB false else s
    ((s.raiseIf s.gnss.first 93).setGnss { s.gnss with first := false }).gnssPass t

/-! ### Navigation units (R225) -/

/-- Bit `i` of a unit that is left-aligned in its words. -/
def unitBit (ws : List Word) (i : Nat) : Bool := (ws.getD (i / 16) 0).getLsbD (15 - i % 16)

/-- The bits `a` to `a + n - 1` of a unit. -/
def unitBits (ws : List Word) (a n : Nat) : List Bool := (List.range n).map (fun i => unitBit ws (a + i))

/-- The exclusive or of a list. -/
def xorAll (l : List Bool) : Bool := l.foldl xor false

/-- The taps of the six parity bits of an LNAV word, each with the bit of the word before that it takes in: 0 for D29*, 1 for D30*. -/
def lnavTaps : List (Nat × List Nat) :=
  [(0, [1, 2, 3, 5, 6, 10, 11, 12, 13, 14, 17, 18, 20, 23]), (1, [2, 3, 4, 6, 7, 11, 12, 13, 14, 15, 18, 19, 21, 24]),
   (0, [1, 3, 4, 5, 7, 8, 12, 13, 14, 15, 16, 19, 20, 22]), (1, [2, 4, 5, 6, 8, 9, 13, 14, 15, 16, 17, 20, 21, 23]),
   (1, [1, 3, 5, 6, 7, 9, 10, 14, 15, 16, 17, 18, 21, 22, 24]), (0, [3, 5, 6, 8, 9, 10, 11, 13, 15, 19, 22, 23, 24])]

/-- One word of an LNAV subframe passes its parity; `prev` is D29*, D30* of the word before, which inverts the data bits (log entry 42). -/
def lnavWord (prev : Bool × Bool) (w : List Bool) : Bool :=
  let d := fun i => xor (w.getD (i - 1) false) prev.2
  lnavTaps.zipIdx.all (fun p => xor (if p.1.1 = 0 then prev.1 else prev.2) (xorAll (p.1.2.map d)) == w.getD (24 + p.2) false)

/-- A subframe of ten words passes only if all ten pass; two zero bits go before the first. -/
def lnavPass (ws : List Word) : Bool :=
  (List.range 10).all (fun k =>
    let w := unitBits ws (30 * k) 30
    lnavWord (if k = 0 then (false, false) else (unitBit ws (30 * k - 2), unitBit ws (30 * k - 1))) w)

/-- One bit through the register of CRC-24Q. -/
def crc24Step (r : Nat) (b : Bool) : Nat :=
  let x := 2 * r + (if b then 1 else 0)
  if 2 ^ 24 ≤ x then (x - 2 ^ 24) ^^^ 0x864CFB else x

/-- A sequence of bits with its CRC-24Q at the end divides without a remainder. -/
def crc24Ok (l : List Bool) : Bool := l.foldl crc24Step 0 = 0

/-- The check of a unit of message type 0 LNAV, 1 CNAV, 2 I/NAV, 3 F/NAV (Table 8-5). -/
def navPass (type : Nat) (ws : List Word) : Bool :=
  if type = 0 then lnavPass ws
  else if type = 1 then crc24Ok (unitBits ws 0 300)
  else if type = 2 then crc24Ok (unitBits ws 0 114 ++ unitBits ws 120 106)
  else crc24Ok (unitBits ws 0 238)

/-- The message type of a signal of a channel (Table 8-5, Table 8-13). -/
def State.navType (s : State) (c : Nat) (sigB : Bool) : Nat := (if s.on (F.GNSS_CH_STAT_SYS c) then 2 else 0) + (if sigB then 1 else 0)

/-- The observables of one channel at an epoch; a channel that does not track shows none, signal B only with BTRK (GNSS_OBSREAD). -/
def State.chObserve (obs : List GnssObs) (rate : Nat) (s : State) (c : Nat) : State :=
  let st := s.chState c
  if st = 2 ∨ st = 3 then
    match obs.find? (fun o => o.ch = c) with
    | none => s
    | some o =>
      let a := (List.range 8).map (fun i => o.words.getD i 0)
      let b := (List.range 8).map (fun i => if s.on (F.GNSS_CH_STAT_BTRK c) then o.words.getD (8 + i) 0 else 0)
      let x := s.gch c
      let s := s.setGch c { x with obs := a ++ b, locked := x.locked + 10 / rate }
      let s := (s.set (F.GNSS_CH_CN0A c) (a.getD 7 0).toNat).set (F.GNSS_CH_CN0B c) (b.getD 7 0).toNat
      (s.setI (F.GNSS_CH_DOP c) o.doppler).setSat (F.GNSS_CH_LOCKT c) ((x.locked + 10 / rate) / 10)
  else if (s.gch c).obs.isEmpty then s else s.setGch c { s.gch c with obs := [] }

/-- The epochs of a second (GNSS_CTRL.EPOCH). -/
def State.epochRate (s : State) : Nat := [1, 2, 5, 10].getD (s.get F.GNSS_CTRL_EPOCH) 10

/-- The TAI second from which the new offset of an announcement holds (R175, R229): 00:00:00 UTC of the day after the leap, under the new offset. -/
def State.leapSecOf (s : State) (a : LeapAnn) : Nat := gpsEpoch + s.weekOf a.week * 604800 + a.day * 86400 + a.dtlsf + 19

/-- A checked leap announcement of a satellite (R229): it counts once two satellites agree and it differs from TBASE. -/
def State.leapHeard (s : State) (sat : Nat) (a : LeapAnn) : State :=
  let u := (a.dtls + 19) % 65536
  let pend := if a.dtls < a.dtlsf then 1 else if a.dtlsf < a.dtls then 2 else 0
  let sec := s.leapSecOf a
  let s := s.setGnss { s.gnss with leaps := insertKey s.gnss.leaps sat (u, pend, sec) }
  let agree := s.gnss.leaps.any (fun p => p.1 ≠ sat && p.2 = (u, pend, sec))
  let differs := decide (s.get F.TBASE_UTCOFF ≠ u ∨ s.get F.TBASE_LEAP ≠ pend)
  if !agree || !differs then s
  else if s.on F.GNSS_CTRL_LEAPAUTO then
    (((s.set F.TBASE_UTCOFF u).set F.TBASE_LEAP pend).set F.TBASE_LEAPSEC sec).bump F.TBASE_GEN
  else if s.gnss.leapActed = some (u, pend, sec) then s
  else
    ((s.setGnss { s.gnss with leapActed := some (u, pend, sec) }).raise 92).fault 8 6

end Sys2Proof.Machine
end

