-- ==== Sys2Proof/Machine/EbndOps.lean ====
section
/-! DEFINITION. The shared operations of EBND (spec/13): terms, composition, publication, history, quality; and PKT's service state (R287). -/
namespace Sys2Proof.Machine

def State.setEbnd (s : State) (e : Ebnd) : State := { s with ebnd := e }

/-- 2^48 − 1: a saturated bound (R349). -/
def SAT48 : Nat := 0xFFFFFFFFFFFF

/-! ### Terms (Tables 4-6, 13-1, 13-2) -/

/-- The stamp term of a port: the largest of its lanes (R344). -/
def State.portTerm (s : State) (p : Nat) : Nat :=
  if p < s.nPorts then (s.portLanes p).foldl (fun a n => max a (s.stampTerm n)) 0 else s.stampTerm p

/-- The upper limits of clockAccuracy 0x17 to 0x30 in ps, rounded up (PRESUMED: IEEE 1588-2019, log entry 13). -/
def accuracyLimits : List Nat :=
  [1, 3, 10, 25, 100, 250, 1000, 2500, 10000, 25000, 100000, 250000, 1000000, 2500000, 10000000, 25000000, 100000000, 250000000, 1000000000,
    2500000000, 10000000000, 25000000000, 100000000000, 250000000000, 1000000000000, 10000000000000]

/-- clockAccuracy of a bound (R354). -/
def accuracyOf (ps : Nat) : Nat := 0x17 + (accuracyLimits.findIdx (fun l => if l = 3 then 2 * ps ≤ 5 else ps ≤ l))

/-- The dataset of the present master of a group's slave. -/
def State.slave (s : State) (g : Nat) : Slave := at' {} s.pkt.slaves g
def State.masterAnn (s : State) (g : Nat) : Option Announce :=
  let v := s.slave g
  v.cur.bind (fun c => (v.masters.find? (fun m => m.id = c)).map (fun m => m.ann))

/-- The upstream bound of REF9 or REF10 and whether it is EBND_UNKACC (Table 13-2). -/
def State.upstream (s : State) (g : Nat) : Nat × Bool :=
  let unk := (s.get F.EBND_UNKACC * 1000, true)
  match s.masterAnn g with
  | none => unk
  | some a =>
    let acc := if 0x17 ≤ a.accuracy ∧ a.accuracy ≤ 0x30 then (accuracyLimits.getD (a.accuracy - 0x17) 0, false) else unk
    if s.on (if g = 0 then F.EBND_CTRL_TRUST9 else F.EBND_CTRL_TRUST10) then
      match a.bound with
      | some b => (b, false)
      | none => acc
    else acc

/-- The port of a group's slave. -/
def State.slavePort (s : State) (g : Nat) : Nat := if s.portMode = 1 then g else 4 * g + s.get (F.PKT_PTP_SLVCFG_PORT g)

/-- The reference term (Table 13-2). -/
def State.refTerm (s : State) (n : Nat) : Nat × Bool :=
  let u := s.get (F.EBND_REFUNC n)
  if n < 8 then (u + 30, false)
  else if n = 8 then (s.gnss.usedUnc * 100, false)
  else if n = 11 then (s.get F.RDN_PBOUND + u, false)
  else
    let (b, k) := s.upstream (n - 9)
    (b + u + 2 * s.portTerm (s.slavePort (n - 9)), k)

/-- The largest |loop error|, and |phase error|, over the fresh ticks of the last second and the last one before. -/
def State.loopMax (s : State) : Nat := s.dpll.errs.foldl (fun a e => max a e.2.1) 0
def State.phaseMax (s : State) : Nat := s.dpll.errs.foldl (fun a e => max a e.2.2) 0

/-- HOLD stands in holdover; B_hold stands frozen. -/
def State.inHold (s : State) : Bool := s.on F.HOLD_STAT_HOLDOVER
def State.frozen (s : State) : Bool := s.on F.HOLD_STAT_FROZEN

/-- Components 0, 1, 2 and 7. -/
def State.compRef (s : State) : Nat := if s.inHold || 12 ≤ s.active then 0 else (s.refTerm s.active).1 + s.loopMax
def State.compDrift (s : State) : Nat := if s.inHold || 12 ≤ s.active then 0 else (s.ref s.active).drift.getD 0
def State.compSlew (s : State) : Nat :=
  if s.inHold then 0 else if s.on F.DPLL_STAT_SLEWING then ceilDiv s.dpll.slewRem.natAbs 100 else if s.mode = 2 then s.dpll.held.natAbs else 0
def State.compOpen (s : State) : Nat := if s.mode = 4 && s.on F.DPLL_STAT_PHVALID then s.phaseMax else 0

/-- Component 3, evaluated 2 ms ahead (R347). -/
def State.compHold (s : State) : Nat :=
  if s.inHold then s.bholdAt (s.hold.tMs + 2)
  else if s.frozen then s.get F.HOLD_BHOLD - (s.compRef + s.compDrift + s.compSlew + s.compOpen)
  else 0

/-- Component 4: synthesis and switch terms. -/
def State.compSynth (s : State) : Nat := (if s.bit F.APLL_BYPSTAT_MAP 0 || s.apll.backMs ≤ 1000 then 500 else 50) + s.dpll.lost + s.dpll.adding

/-- Components 0 to 8. -/
def State.comps (s : State) : List Nat :=
  [s.compRef, s.compDrift, s.compSlew, s.compHold, s.compSynth, if s.inHold then 0 else s.frameTerm,
    if s.dpll.setDone then 0 else s.tb.setUnc, s.compOpen, 6400]

/-! ### Service state (R287) -/

/-- The service state changes: source 144, generation, and the fault of a fall from SERVING. -/
def State.svcTo (s : State) (st : Nat) : State :=
  let was := s.get F.PKT_SVC_STATE
  if was = st then s
  else
    let s := (((s.set F.PKT_SVC_STATE st).bump F.PKT_GEN).raise 144).setPkt { s.pkt with svcMs := 0 }
    if was = 2 ∧ 3 ≤ st then (((s.set F.PKT_SVC_STATE st).fault 0x0B 4)) else s

/-- The common bound exceeds the serve limit. -/
def State.boundOver (s : State) : Bool := s.get F.EBND_SERVELIM * 1000 < s.get F.EBND_COMMON

/-- PKT evaluates its service state; `tick` lets a millisecond of SVCHOLD pass. -/
def State.svcEval (s : State) (tick : Bool) : State :=
  let high := s.boundOver
  let s := s.setB F.PKT_SVC_BNDOVER high
  let low := if s.on F.PKT_CTRL_SILENCE then 4 else 3
  if !s.on F.PKT_CTRL_EN || !s.up then s.svcTo 0
  else if !s.on F.TBASE_STAT_TIMESET || !s.bit F.TBASE_BCNSTAT_VALID 0 then s.svcTo 1
  else
    let st := s.get F.PKT_SVC_STATE
    if st < 2 then s.svcTo low
    else if st = 2 then (if high then s.svcTo low else s)
    else
      let ms := if high then 0 else if tick then s.pkt.svcMs + 1 else s.pkt.svcMs
      let s := s.setPkt { s.pkt with svcMs := min 65535 ms }
      if s.get F.PKT_SVCHOLD ≤ ms ∧ !high then s.svcTo 2 else { s.svcTo low with pkt := { (s.svcTo low).pkt with svcMs := min 65535 ms } }

/-! ### Clock quality (Table 13-5) -/

/-- The clockClass in force. -/
def State.clockClass (s : State) : Nat :=
  let svc := s.get F.PKT_SVC_STATE
  if s.get F.EBND_LIM248 * 1000 < s.get F.EBND_COMMON || !s.on F.EBND_STAT_TRACED || svc ≤ 1 then 248
  else if svc = 2 then
    if s.mode = 3 || s.mode = 2 || (s.mode = 4 && !s.on F.DPLL_STAT_PHVALID) || s.frozen then 7 else 6
  else if s.on F.EBND_CTRL_DEGRADEB then 187 else 52

/-- CLASS follows, with source 193. -/
def State.classEval (s : State) : State :=
  let c := s.clockClass
  if s.get F.EBND_STAT_CLASS = c then s else (s.set F.EBND_STAT_CLASS c).raise 193

/-- timeSource (R354). -/
def State.timeSource (s : State) : Nat :=
  let a := s.active
  if !s.on F.EBND_STAT_TRACED && s.get F.TBASE_STAT_SRC = 2 then 0x60
  else if a = 8 then 0x20 else if a = 9 ∨ a = 10 then 0x40 else if a < 12 then 0x90
  else if s.hosc = 0 then 0x10 else 0xA0

/-! ### Publication (R345, R347 to R350) -/

/-- The larger of two bounds, with its components. -/
def maxBound (a b : Nat × List Nat) : Nat × List Nat := if a.1 < b.1 then b else a

/-- A port's history after a publication of its bound `v` in second `sec`, from second `old`. -/
def histNext (old sec : Nat) (v : Nat × List Nat) (h : List (Nat × List Nat)) : List (Nat × List Nat) :=
  if h.isEmpty then [v]
  else if old < sec then (v :: (List.replicate (min 4096 (sec - old - 1)) (0, []) ++ h)).take 4096
  else ((h.take (old - sec + 1)).foldl maxBound v) :: h.drop (old - sec + 1)

/-- The components 0 to 9 of a port in the latest publication. -/
def Ebnd.portComps (e : Ebnd) (p : Nat) : List Nat := e.terms ++ [2 * e.stamps.getD p 0]

/-- A port's history with the bound in force, which is the largest so far of a second that has seen no publication yet (R350, R358). -/
def State.histNow (s : State) (p : Nat) : List (Nat × List Nat) :=
  let e := s.ebnd
  histNext e.sec s.secNow (e.ports.getD p SAT48, e.portComps p) (at' [] e.hist p)

/-- Publish the common bound, the components and the port bounds as one snapshot. -/
def State.ebndPublish (s : State) : State :=
  let cs := s.comps
  let sat := !s.on F.TBASE_STAT_TIMESET || s.on F.EBND_STAT_STALE
  let common := if sat then SAT48 else min SAT48 (cs.foldl (· + ·) 0)
  let stamps := (List.range 8).map s.portTerm
  let ports := stamps.map (fun t => if sat then SAT48 else min SAT48 (common + 2 * t))
  let s := (List.range 9).foldl (fun s i => s.setSat (F.EBND_COMP i) (cs.getD i 0)) s
  let s := (s.set F.EBND_COMMON common).bump F.EBND_SEQ
  let s := (List.range 8).foldl (fun s p => s.setSat (F.EBND_PORT p) (ports.getD p 0)) s
  let s := s.setB F.EBND_STAT_FROZEN (s.frozen && !s.inHold)
  let s := s.setEbnd { s.ebnd with ports := ports, terms := cs, stamps := stamps }
  s.setEbnd { s.ebnd with sec := s.secNow, hist := (List.range 8).map s.histNow }

/-- The interrupts and faults of a publication (Tables 13-9, 13-10). -/
def State.boundEdges (s : State) : State :=
  let high := s.boundOver
  let was := s.on F.EBND_STAT_BNDOVER
  let o248 := decide (s.get F.EBND_LIM248 * 1000 < s.get F.EBND_COMMON)
  let was248 := s.ebnd.over248
  let s := ((s.setB F.EBND_STAT_BNDOVER high).setEbnd { s.ebnd with over248 := o248 }).raiseIf (high != was) 192
  let s := if high && !was then s.fault 0x0E 1 else s
  if o248 && !was248 then s.fault 0x0E 2 else s

/-- A reference term begins to use EBND_UNKACC (source 196). -/
def State.unkEdge (s : State) : State :=
  let u := s.active < 12 && !s.inHold && (s.refTerm s.active).2
  (s.raiseIf (u && !s.ebnd.unk) 196).setEbnd { s.ebnd with unk := u }

/-- The blocks `l` do not deliver their terms at this tick (R349): STALE follows once time is set (R345), and each block that comes to miss a second tick
is reported. -/
def State.termsMissing (s : State) (l : List Nat) : State :=
  let old := s.ebnd.missing
  let now := l.eraseDups.map (fun b => (b, min 2 (look 0 old b + 1)))
  let was := s.on F.EBND_STAT_STALE
  let s := s.setEbnd { s.ebnd with missing := now }
  if !s.on F.TBASE_STAT_TIMESET then s
  else
    let late := now.filter (fun p => p.2 = 2)
    let s := (s.setB F.EBND_STAT_STALE (!late.isEmpty)).raiseIf (!late.isEmpty && !was) 195
    (late.filter (fun p => !was || look 0 old p.1 < 2)).foldl (fun s p => s.fault 0x0E 3 p.1) s

/-- The operations that wait take effect at the tick, in order; their generation is checked now (R358, R374). -/
def State.ebndCfgs (s : State) : State :=
  s.ebnd.cfgs.foldl (fun s j => cfgOp F.EBND_GEN j.given j.regs noPost j.wb s) (s.setEbnd { s.ebnd with cfgs := [] })

/-- EBND's work after order 7 of a tick, with PKT's service state and the clock class that follow in the same millisecond. -/
def State.ebndTick (s : State) (missing : List Nat) : State :=
  (((((s.ebndCfgs.termsMissing missing).unkEdge).ebndPublish).boundEdges).svcEval true).classEval

/-- A term that can rise between ticks has risen since the latest publication (R348): SYNTH, HOLD in holdover, or the stamp term of a port. -/
def State.termsRose (s : State) : Bool :=
  let e := s.ebnd
  !e.terms.isEmpty && (decide (e.terms.getD 4 0 < s.compSynth) || (s.inHold && decide (e.terms.getD 3 0 < s.compHold))
    || (List.range 8).any (fun p => e.stamps.getD p 0 < s.portTerm p))

/-! ### What a response carries (R344, R350 to R353) -/

/-- The largest port bound from the second of a time to now, with its components; none where the time is older than 4,096 s (R350). -/
def State.boundSince (s : State) (p itx : Nat) : Option (Nat × List Nat) :=
  let k := s.secNow - itx / SEC48
  if 4096 ≤ k then none else some (((s.histNow p).take (k + 1)).foldl maxBound (0, []))

/-- A response's own bound: the port bound (or what stands in its place) plus ASYM and ROUND; a saturated bound stays so. -/
def ownBound (portb asym round : Nat) : Nat := if SAT48 ≤ portb then SAT48 else portb + asym + round

/-- Root dispersion (R351). -/
def rootDisp (ps : Nat) : Nat := satNat 32 (max 1 (ceilDiv (ps * 65536) 1000000000000))

/-- The flags of Table 13-3. -/
def State.efFlags (s : State) (anon : Bool) : Nat :=
  let b := fun (c : Bool) (i : Nat) => if c then 2 ^ i else 0
  b s.inHold 0 + b (s.frozen && !s.inHold) 1 + b (s.on F.EBND_STAT_BNDOVER) 2 + b (s.active < 12 && s.qual s.active = 4) 3 +
    b (s.bit F.APLL_BYPSTAT_MAP 0) 4 + b (s.mode = 4) 5 + b (s.get (F.EBND_COMP 6) ≠ 0) 6 + b anon 7

/-- The bound field or TLV of a response (Tables 13-3, 13-4), with the components 0 to 9 of its port bound. -/
def State.boundEf (s : State) (id : Nat) (comps : List Nat) (own asym round : Nat) (trim : Int) (anon : Bool) : BoundEf :=
  { id := id, flags := s.efFlags anon, sel := if s.active < 12 then s.active else 0xFF, own := own, trim := trim,
    comps := ((List.range 10).map (fun i => comps.getD i 0) ++ [asym, round]).map (satNat 32) }

end Sys2Proof.Machine
end

