-- ==== Sys2Proof/Machine/RoleOps.lean ====
section
/-! DEFINITION. RDN's gates, readiness and roles (spec/18 R443 to R448), on which PKT and the outputs depend. -/
namespace Sys2Proof.Machine

def State.setRdn (s : State) (r : Rdn) : State := { s with rdn := r }

/-- The role (Table 18-3) and the grant state (Table 18-4). -/
def State.role (s : State) : Nat := s.get F.RDN_STAT_ROLE
def State.grantSt (s : State) : Nat := s.get F.RDN_STAT_GNTST

/-- The mode in force is paired. -/
def State.paired (s : State) : Bool := s.past 3 && s.seq.st ≠ .safe && s.rdn.mode = 1

/-- Claim `a` exceeds claim `b` (R444). -/
def exceeds (a b : Nat) : Bool := 1 ≤ (a + 65536 - b % 65536) % 65536 && (a + 65536 - b % 65536) % 65536 ≤ 32767

/-- The grant state is GRANTED, or ABSENT after GRANTED (R446). -/
def State.grantHeld (s : State) : Bool := s.grantSt = 1 || (s.grantSt = 2 && s.rdn.wasGranted)

/-- The claim gate, which is also the network gate's condition (R443, R446); RELEASING keeps the gates open until H (Table 18-3). -/
def State.claimGate (s : State) : Bool :=
  if !s.past 3 || s.seq.st = .safe then false
  else if s.rdn.mode = 0 then true
  else if s.rdn.mode = 1 then (s.role = 3 || s.role = 4) && exceeds (s.get F.RDN_CLAIM) (s.get F.RDN_PCLAIM) && s.grantHeld
  else false

/-- A paired unit is READY (R447). -/
def State.readyNow (s : State) : Bool := s.paired && s.up && s.on F.TBASE_STAT_TIMESET && !s.boundOver

/-- ARB_REQ is high (R443, R447, R456). -/
def State.arbReqHigh (s : State) : Bool :=
  s.paired && (s.readyNow || s.role = 3 || s.role = 4) && !s.rdn.pulse && !s.rdn.withdraw

/-- RDN_STAT's computed bits follow. -/
def State.showRdn (s : State) : State :=
  let g := s.claimGate
  (((s.setB F.RDN_STAT_GATE g).setB F.RDN_STAT_NETGATE g).setB F.RDN_STAT_READY s.readyNow).setB F.RDN_STAT_HOSCHED s.rdn.ho.isSome

/-- The role changes (R448, R462). -/
def State.roleTo (s : State) (r : Nat) : State :=
  if s.role = r then s else ((s.set F.RDN_STAT_ROLE r).bump F.RDN_GEN).raise 248

end Sys2Proof.Machine
end

