-- ==== Sys2Proof/Machine/PktOps.lean ====
section
/-! DEFINITION. The shared operations of PKT (spec/10): classification, rate limits, composition, convoys, speculation and its outcomes
(spec/01 R29 to R41), unicast grants and the slaves. -/
namespace Sys2Proof.Machine

/-- Count one up in counter `i` of Table 10-12. -/
def State.pc (s : State) (i : Nat) : State := s.bump (F.PKT_CNT i)

/-! ### Ports (R271) -/

/-- The transmit meter that serves a port is locked. -/
def State.portMeter (s : State) (p : Nat) : Bool := p < s.nPorts && s.txMeter (s.txLane p)

/-- A speculative slot may be placed on a port (R271). -/
def State.specOk (s : State) (p : Nat) : Bool := s.portUp p && s.portMeter p && 2 ≤ s.get F.PKT_SVC_STATE

/-- PKT_PORTn_STAT follows. -/
def State.showPort (s : State) (p : Nat) : State :=
  s.set (F.PKT_PORT_STAT p) ((if s.portUp p then 1 else 0) + (if s.portMeter p then 2 else 0) + (if s.specOk p then 4 else 0))

/-- The lane whose receive stamp is a port's: on a 100GBASE-R port the physical lane that arrived last (R245). -/
def State.rxLane (s : State) (p : Nat) : Nat :=
  (s.portLanes p).foldl (fun a n => if s.get (F.LANE_LANE_SKEW a) < s.get (F.LANE_LANE_SKEW n) then n else a) (s.txLane p)

/-! ### Classification (R257, R258) -/

/-- The transport of a frame: 0 UDP/IPv4, 1 UDP/IPv6, 2 IEEE 802.3. -/
def netTransport : NetLayer → Nat
  | .ip v6 _ _ _ _ => if v6 then 1 else 0
  | _ => 2

/-- A transport is enabled on a group: for its instance, or for its slave. -/
def State.transportOn (s : State) (g t : Nat) : Bool :=
  (s.on (F.PKT_PTP_CFG_EN g) && s.on (if t = 0 then F.PKT_PTP_CFG_UDP4 g else if t = 1 then F.PKT_PTP_CFG_UDP6 g else F.PKT_PTP_CFG_L2 g))
    || (s.on (F.PKT_PTP_SLVCFG_EN g) && s.get (F.PKT_PTP_SLVCFG_TRANSPORT g) = t)

/-- A service address entry matches an IP destination on a group, with the frame's tags. -/
def State.addrMatch (s : State) (g : Nat) (v6 : Bool) (dst : Nat) (tags : List Nat) (k : Nat) : Bool :=
  s.on (F.PKT_ADDR_CFG_EN k) && s.on (F.PKT_ADDR_CFG_V6 k) == v6 && s.on (if g = 0 then F.PKT_ADDR_CFG_GRP0 k else F.PKT_ADDR_CFG_GRP1 k)
    && s.get (F.PKT_ADDR_IP k) = dst
    && (match tags with
        | [] => !s.on (F.PKT_ADDR_CFG_TAGGED k)
        | [v] => s.on (F.PKT_ADDR_CFG_TAGGED k) && s.get (F.PKT_ADDR_VLAN k) = v
        | _ => false)

/-- A frame received on port `p` is a service frame. -/
def State.isService (s : State) (p : Nat) (f : Frame) : Bool :=
  let g := s.portGroup p
  (f.dmac = s.get (F.PKT_PORT_MAC p) || (f.mcast && s.transportOn g (netTransport f.net)))
    && (match f.net with
        | .ip v6 _ dst plain udp =>
          plain && (udp = some 123 || udp = some 319 || udp = some 320) && (List.range 8).any (fun k => s.addrMatch g v6 dst f.tags k)
        | .ptp _ => f.tags.isEmpty
        | .other => false)

/-- The lookup key of a frame (R261). -/
def State.frameKey (s : State) (p : Nat) (f : Frame) : Key :=
  let vid := f.tags.headD 0
  match f.net with
  | .ip v6 src _ _ _ => ⟨s.portGroup p, vid, if v6 then 1 else 0, src⟩
  | .ptp src => ⟨s.portGroup p, vid, 2, src⟩
  | .other => ⟨s.portGroup p, vid, 3, 0⟩

/-- Reached over UDP port 123. -/
def netIsNtp : NetLayer → Bool
  | .ip _ _ _ _ udp => udp = some 123
  | _ => false

/-- A port is its group's slave port, and the slave is enabled. -/
def State.isSlavePort (s : State) (p : Nat) : Bool :=
  s.on (F.PKT_PTP_SLVCFG_EN (s.portGroup p)) && s.slavePort (s.portGroup p) = p

/-- The TLVs hold a request or a cancel; a grant or an acknowledgement. -/
def asks (l : List SigTlv) : Bool := l.any (fun t => match t with | .request .. => true | .cancel _ => true | _ => false)
def answers (l : List SigTlv) : Bool := l.any (fun t => match t with | .grant .. => true | .ackCancel _ => true | _ => false)

/-- The class of a service frame, in the order of Table 10-1 from 0; none where it fits no class. -/
def State.classOf (s : State) (p : Nat) (f : Frame) : Option Nat :=
  let g := s.portGroup p
  match f.body with
  | .ntp q =>
    if !netIsNtp f.net || q.mode ≠ 3 then none
    else match q.ext with
      | .none => if q.vn = 3 || q.vn = 4 then some 0 else none
      | .mac _ _ _ => if q.vn = 4 then some 1 else none
      | .nts x => if q.vn = 4 && !x.uids.isEmpty && !x.cookies.isEmpty && !x.auths.isEmpty then some 2 else none
      | .other => none
  | .ptp m =>
    if netIsNtp f.net || m.domain ≠ s.get (F.PKT_PTP_DOMAIN g) then none
    else match m.body with
      | .delayReq => some 3
      | .pdelayReq => if s.on (F.PKT_PTP_CFG_P2P g) then some 4 else none
      | .signaling l => if asks l then some 5 else if answers l && s.isSlavePort p then some 6 else none
      | .other => none
      | _ => if s.isSlavePort p then some 6 else none
  | .raw => none

/-- The counter of a class (Table 10-12). -/
def classCnt (c : Nat) : Nat := if c = 0 then 1 else if c = 1 then 3 else if c = 2 then 2 else 4

/-- The class is enabled. -/
def State.classOn (s : State) (g c : Nat) : Bool :=
  if c = 0 then s.on F.PKT_CTRL_NTPEN else if c = 1 then s.on F.PKT_CTRL_MACEN else if c = 2 then s.on F.PKT_CTRL_NTSEN
  else s.on F.PKT_CTRL_PTPEN && s.on (F.PKT_PTP_CFG_EN g)

/-- No service frame is answered and no PTP master message is sent: STOPPED, or the network gate is closed (Table 10-5, R446). -/
def State.mute (s : State) : Bool := s.get F.PKT_SVC_STATE = 0 || !s.claimGate

/-- A request is to be verified by AUTH (Table 10-1, R282). -/
def State.needsAuth (s : State) (g : Nat) (b : Payload) : Bool :=
  match b with
  | .ntp q => match q.ext with
    | .none => false
    | _ => true
  | .ptp m => s.on (F.PKT_PTP_CFG_AUTHREQ g) || (s.on (F.PKT_PTP_CFG_AUTHEN g) && m.auth ≠ .absent)
  | .raw => false

/-! ### The host queues (R259, R397) -/

/-- The descriptors that the host has handed over and HIF has not used. -/
def State.queueLeft (s : State) (q : Nat) : Nat := (s.get (F.HIF_Q_PROD q) + 65536 - s.get (F.HIF_Q_CONS q)) % 65536

/-- A frame for the host: passed within HOSTMAX, and written where the receive queue has a descriptor. -/
def State.hostFrame (s : State) : State :=
  if s.pkt.hostSec < s.get F.PKT_HOSTMAX * 100 then
    let s := (s.setPkt { s.pkt with hostSec := s.pkt.hostSec + 1 }).pc 26
    if s.on (F.HIF_Q_CFG_EN 0) && s.hostMem && 0 < s.queueLeft 0 then
      let s := s.bump (F.HIF_Q_CONS 0)
      { s with hif := { s.hif with rxUntaken := s.hif.rxUntaken + 1 } }
    else s.incRaise (F.HIF_Q_DROP 0) 220
  else s.pc 28

/-- A transmit descriptor is done: OWN clears and CONS advances. -/
def State.txDone (s : State) : State :=
  let s := s.bump (F.HIF_Q_CONS 1)
  { s with hif := { s.hif with txPend := s.hif.txPend.drop 1 } }

/-! ### Requests (R260 to R263) -/

def State.setReqs (s : State) (l : List Req) : State := s.setPkt { s.pkt with reqs := l }
def State.dropReq (s : State) (id : Nat) : State := s.setReqs (s.pkt.reqs.filter (fun r => r.id ≠ id))

def State.setReady (s : State) (l : List Item) : State := s.setPkt { s.pkt with ready := l }
def State.addReady (s : State) (i : Item) : State :=
  s.setPkt { s.pkt with ready := s.pkt.ready ++ [{ i with arr := s.pkt.arrived }], arrived := s.pkt.arrived + 1 }

/-- A response is ready again: before those of its port that arrived after it (R267). -/
def backTo (it : Item) : List Item → List Item
  | [] => [it]
  | i :: r => if i.port = it.port ∧ it.arr < i.arr then it :: i :: r else i :: backTo it r

/-- An item is the answer to a request. -/
def Source.isAnswer : Source → Bool
  | .req _ | .kod _ | .nak _ | .refuse _ => true
  | _ => false

/-- The requests of a group between classification and composition. -/
def State.storeFill (s : State) (g : Nat) : Nat :=
  (s.pkt.reqs.filter (fun r => r.key.group = g)).length + (s.pkt.ready.filter (fun i => i.src.isAnswer && s.portGroup i.port = g)).length

def State.addJob (s : State) (j : AuthJob) : State := s.setAuth { s.auth with jobs := s.auth.jobs ++ [j] }

/-- A request joins the store; its verification is issued (R260). -/
def State.addReq (s : State) (r : Req) : State :=
  let s := s.setPkt { s.pkt with reqs := s.pkt.reqs ++ [r], nextId := s.pkt.nextId + 1 }
  if r.needAuth then s.addJob (.verify r.id (3 < r.cls && r.cls ≠ 5)) else s

/-! ### Anonymous senders (R265) -/

/-- A bucket after its refill: tokens in 1/256 request and the time to hold, its remainder kept. -/
def bucketFill (rate depth : Nat) (b : Nat × Nat) (t : Nat) : Nat × Nat :=
  let add := rate * 256 * (t - b.2)
  if depth ≤ b.1 + add / SEC48 then (depth, t) else (b.1 + add / SEC48, t - add % SEC48 / max 1 (rate * 256))

/-- The source address masked to PKT_ANONPFX bits, with its kind; a MAC address is used whole. -/
def State.anonAddr (s : State) (k : Key) : Nat :=
  let cut := if k.atype = 0 then 32 - s.get F.PKT_ANONPFX_PFX4 else if k.atype = 1 then 128 - s.get F.PKT_ANONPFX_PFX6 else 0
  k.addr / 2 ^ cut * 2 ^ cut + k.atype * 2 ^ 128

/-- The decision of an anonymous sender's bucket and of the aggregate one.  A bucket first used is full. -/
def State.anonDecide (s : State) (k : Key) (t : Nat) : State × Bool :=
  let i := Config.anonBucket s.pkt.anonKey (s.anonAddr k) % 65536
  let depth := s.get F.PKT_ANONBURST * 256
  let b := bucketFill (s.get F.PKT_ANONRATE) depth (((s.pkt.anon.find? (fun p => p.1 = i)).map Prod.snd).getD (depth, t)) t
  let put := fun (s : State) (b : Nat × Nat) => s.setPkt { s.pkt with anon := Machine.insertKey s.pkt.anon i b }
  if b.1 < 256 then (put s b, false)
  else
    let s := put s (b.1 - 256, b.2)
    let rate := s.get F.PKT_ANONMAX
    let a := bucketFill rate (rate * 256 / 1000) (s.pkt.agg.getD (rate * 256 / 1000, t)) t
    if a.1 < 256 then (((s.setPkt { s.pkt with agg := some a }).pc 14).evtSet F.PKT_EVT_ANONSAT 149, false)
    else (s.setPkt { s.pkt with agg := some (a.1 - 256, a.2) }, true)

/-- A denied request of class NTP gets a kiss-o'-death reply, within KODMAX (R266). -/
def State.kissOfDeath (s : State) (r : Req) (prio : Nat) : State :=
  if s.on F.PKT_CTRL_KOD && r.cls = 0 && s.pkt.kodSec < s.get F.PKT_KODMAX * 100 then
    (s.setPkt { s.pkt with kodSec := s.pkt.kodSec + 1 }).addReady ⟨r.port, prio, .kod r, 0⟩
  else s

/-! ### Grants (R283, R284) -/

/-- Grant record index of a messageType: 0 Announce, 1 Sync, 2 Delay_Resp. -/
def grantIdx (type : Nat) : Nat := if type = 11 then 0 else if type = 0 then 1 else 2

/-- The minimum log period of a type. -/
def State.grantMin (s : State) (type : Nat) : Int :=
  s.getI (if type = 11 then F.PKT_GRANTMIN_ANN else if type = 0 then F.PKT_GRANTMIN_SYNC else F.PKT_GRANTMIN_DRESP)

/-- PKT holds a grant of a type for an entry that has not expired. -/
def State.hasGrant (s : State) (entry type : Nat) : Bool :=
  s.pkt.grants.any (fun g => g.entry = entry && g.type = type && s.secNow < g.expiry)

/-- What a reply TLV to entry `n` makes of the loads granted, by entry and type: a grant takes the place of the one held, a cancel removes it (R283). -/
def loadsWith (n : Nat) (l : List (Nat × Nat × Nat)) (t : SigTlv) : List (Nat × Nat × Nat) :=
  match t with
  | .grant ty log dur => if dur = 0 then l else l.filter (fun g => !(g.1 = n && g.2.1 = ty)) ++ [(n, ty, 2 ^ (7 - log).toNat)]
  | .ackCancel ty => l.filter (fun g => !(g.1 = n && g.2.1 = ty))
  | _ => l

/-- The loads granted, by entry and type, as they will be once every reply on its way has been sent. -/
def State.loadsSoon (s : State) : List (Nat × Nat × Nat) :=
  (s.pkt.slots.filter (fun x => x.ph = .placed || x.ph = .locked || x.wantLock)).foldl (fun l x => match x.content with
    | .ptp o => o.entry.elim l (fun n => o.tlvs.foldl (loadsWith n) l)
    | _ => l) (s.pkt.grants.map (fun g => (g.entry, g.type, g.load)))

/-- The granted load without an entry's grant of a type. -/
def State.loadWithout (s : State) (entry type : Nat) : Nat :=
  (s.loadsSoon.filter (fun g => !(g.1 = entry && g.2.1 = type))).foldl (fun a g => a + g.2.2) 0

/-- The reply TLV to a request or cancel of a registered client whose entry permits unicast PTP, or of anyone else. -/
def State.grantReply (s : State) (entry : Option Nat) (used : Nat) (t : SigTlv) : Option SigTlv × Nat :=
  match t with
  | .request ty log dur =>
    match entry with
    | some n =>
      let ok := (ty = 11 || ty = 0 || ty = 9) && decide (s.grantMin ty ≤ log) && decide (log ≤ 7)
        && decide (s.loadWithout n ty + used + 2 ^ (7 - log).toNat ≤ s.get F.PKT_GRANTBUDGET * 128)
      if ok then (some (.grant ty log (min dur (s.get F.PKT_GRANTMAXDUR))), used + 2 ^ (7 - log).toNat) else (some (.grant ty log 0), used)
    | none => (some (.grant ty log 0), used)
  | .cancel ty => (some (.ackCancel ty), used)
  | _ => (none, used)

/-- The reply TLVs to a negotiation. -/
def State.grantReplies (s : State) (entry : Option Nat) : Nat → List SigTlv → List SigTlv
  | _, [] => []
  | used, t :: r =>
    let (a, used) := s.grantReply entry used t
    a.toList ++ s.grantReplies entry used r

/-- Count the granted and the refused requests of a reply. -/
def State.countGrants (s : State) (l : List SigTlv) : State :=
  l.foldl (fun s t => match t with
    | .grant _ _ dur => if dur = 0 then (s.pc 30).evtSet F.PKT_EVT_GRANTREF 150 else s.pc 29
    | _ => s) s

/-- A port's number within its group. -/
def State.portInGroup (s : State) (p : Nat) : Nat := (s.groupPorts (s.portGroup p)).idxOf p % 4

/-- A grant record (Table 12-4); `port` is the port within the group. -/
def grantRecord (log : Int) (port epoch expiry : Nat) : Nat := 1 + ofSigned 4 log * 16 + port * 256 + epoch % 65536 * 65536 + expiry % 2 ^ 48 * 2 ^ 32

/-- A grant commit goes to CTAB, and in the active unit of a pair to the partner's mirror (R283, R454). -/
def State.grantCommit (s : State) (key : Key) (n gen type record port : Nat) : State :=
  let s := s.pushCommit (.grant n gen (grantIdx type) record port)
  if s.paired && (s.role = 3 || s.role = 4) then s.setRdn { s.rdn with mirror := s.rdn.mirror ++ [(key, grantIdx type, wordsOf record 8)] } else s

/-- A reply to a negotiation has been sent: its grants and cancels take effect (R283). -/
def State.applyGrants (s : State) (r : Req) (d : Grantd) (port : Nat) (l : List SigTlv) : State :=
  let g := r.key.group
  let id := match r.body with
    | .ptp m => m.sender * 65536 + m.senderPort
    | _ => 0
  l.foldl (fun s t => match t with
    | .grant ty log dur =>
      if dur = 0 then s.pushCommit (.party d.entry d.gen id)
      else
        let x : UGrant := ⟨d.entry, ty, g, port, min 2 r.key.atype, log, s.secNow + dur, s.pkt.epoch.getD g 0⟩
        let s := s.setGrants (s.pkt.grants.filter (fun y => !(y.entry = d.entry && y.type = ty)) ++ [x])
        s.grantCommit r.key d.entry d.gen ty (grantRecord log (s.portInGroup port) x.epoch x.expiry) id
    | .ackCancel ty =>
      if ty = 11 || ty = 0 || ty = 9 then
        let s := s.setGrants (s.pkt.grants.filter (fun y => !(y.entry = d.entry && y.type = ty)))
        s.grantCommit r.key d.entry d.gen ty 0 id
      else s.pushCommit (.party d.entry d.gen id)
    | _ => s) s

/-- The grants of a group are void: its epoch increments (R284).  Answers how many were voided. -/
def State.voidGrants (s : State) (g : Nat) : State × Nat :=
  let n := (s.pkt.grants.filter (fun x => x.group = g)).length
  let s := s.setPkt { s.pkt with epoch := modAt s.pkt.epoch g (fun e => (e + 1) % 65536) }
  (s.setGrants (s.pkt.grants.filter (fun x => x.group ≠ g)), n)

/-- What follows a change of a PTP instance's registers (R284). -/
def ptpPost (g : Nat) (old s : State) : State :=
  if old.get (F.PKT_PTP_CFG_EN g) = s.get (F.PKT_PTP_CFG_EN g) ∧ old.get (F.PKT_PTP_DOMAIN g) = s.get (F.PKT_PTP_DOMAIN g) then s
  else (s.voidGrants g).1

/-! ### Readiness (R34, R262, R283) -/

/-- The grant a request holds. -/
def Req.grantd (r : Req) : Option Grantd :=
  match r.got with
  | some (.grant d) => some d
  | _ => none

/-- A request whose decision is a grant, or needs none, and whose verdict has passed, becomes ready (R34); Delay_Req by unicast needs a grant. -/
def State.makeReady (s : State) (r : Req) : State :=
  let s := s.dropReq r.id
  let r := { r with ready := true }
  let prio := if r.anon then 3 else 2
  if r.cls = 5 && r.grantd.isNone then s.addReady ⟨r.port, prio, .refuse r, 0⟩
  else match r.body with
    | .ptp m =>
      if r.cls = 3 && m.unicast && !r.grantd.any (fun d => s.hasGrant d.entry 9) then s
      else s.addReady ⟨r.port, prio, .req r, 0⟩
    | _ => s.addReady ⟨r.port, prio, .req r, 0⟩

/-- The Unique Identifier of an NTS request could be read: exactly one of at least 32 bytes. -/
def readableUid (b : Payload) : Bool :=
  match b with
  | .ntp q => match q.ext with
    | .nts f => match f.uids with
      | [u] => 32 ≤ u.length
      | _ => false
    | _ => false
  | _ => false

/-- The Unique Identifier of an NTS request, which its answer echoes (R279). -/
def reqUid (q : NtpReq) : List Nat :=
  match q.ext with
  | .nts f => f.uids.headD []
  | _ => []

/-- The key ID of an NTP-MAC request, which its answer carries. -/
def reqKeyId (q : NtpReq) : Option Nat :=
  match q.ext with
  | .mac k _ _ => some k
  | _ => none

/-- The verdict of a granted request, or of one without a rate-limit decision, counts (R262, R308): a failure drops it, with an NTS NAK where NTSNAK asks for it. -/
def State.failReq (s : State) (r : Req) (counter : Nat) : State :=
  let s := (s.dropReq r.id).authFail counter
  let s := r.grantd.elim s (fun d => s.pushCommit (.failed d.entry d.gen))
  if r.cls = 2 && s.on F.PKT_CTRL_NTSNAK && readableUid r.body then s.addReady ⟨r.port, if r.anon then 3 else 2, .nak r, 0⟩ else s

/-- A request moves on once its decision and its verdict are there. -/
def State.resolve (s : State) (id : Nat) (slaveInput : Req → State → State) : State :=
  match s.req? id with
  | none => s
  | some r =>
    let limited := r.grantd.isSome || r.anon
    let next := fun (s : State) => if r.cls = 6 then slaveInput r (s.dropReq r.id) else s.makeReady r
    if !(r.cls = 4 || r.cls = 6 || limited) then s
    else if !r.needAuth then next s
    else match r.gotVer with
      | none => s
      | some (.fail c) => s.failReq r c
      | some (.pass uses _ _ _ _) => next (if limited then s.authUses uses else s)

/-- The verify job of a request rises to the granted level (R295). -/
def State.jobGranted (s : State) (id : Nat) : State :=
  s.setAuth { s.auth with jobs := s.auth.jobs.map (fun j => if j = .verify id false then .verify id true else j) }

/-- An anonymous sender's request is answered at all (Table 10-1). -/
def State.anonOk (s : State) (r : Req) : Bool :=
  s.on F.PKT_CTRL_ANONEN && r.cls ≠ 1 && (r.cls ≠ 3 || s.on (F.PKT_PTP_CFG_ANONPTP r.key.group))

/-- CTAB's decision reaches PKT (R264 to R266). -/
def State.decisionIn (s : State) (r : Req) (d : Decision) (slaveInput : Req → State → State) : State :=
  match d with
  | .unknown | .bad => s.dropReq r.id
  | .denied => ((s.dropReq r.id).pc 12).kissOfDeath r 2
  | .grant _ => ((s.modReq r.id (fun r => { r with got := some d })).jobGranted r.id).resolve r.id slaveInput
  | .anon =>
    if !s.anonOk r then s.dropReq r.id
    else
      let (s, ok) := s.anonDecide r.key r.rx
      if ok then ((s.modReq r.id (fun r => { r with got := some d, anon := true })).jobGranted r.id).resolve r.id slaveInput
      else ((s.dropReq r.id).pc 13).kissOfDeath r 3

/-! ### Composition (R269, R277 to R282) -/

/-- The leap indicator of a TAI second (R176). -/
def State.leapInd (s : State) (sec : Nat) : Nat :=
  let l := s.get F.TBASE_LEAPSEC
  if s.get F.TBASE_LEAP ≠ 0 && decide (l ≤ sec + 86400) && decide (sec < l) then s.get F.TBASE_LEAP else 0

/-- What the service state says of a message (Table 10-5, R446): none if it is sent; else the counter of its drop, if one counts. -/
def State.barred (s : State) (ntp : Bool) : Option (Option Nat) :=
  let st := s.get F.PKT_SVC_STATE
  if s.mute then some none
  else if st = 1 || (st = 4 && ntp) then some (some 22)
  else none

/-- Interleaved mode (R278, R350): the port bound of an interleaved answer with its components; or basic mode, with a fall-back to count. -/
def State.interleave (s : State) (r : Req) (q : NtpReq) : Option (Nat × List Nat) × Bool :=
  match r.grantd with
  | none => (none, false)
  | some d =>
    if s.on F.PKT_CTRL_INTLVEN && d.permit / 8 % 2 = 1 && d.irxv && s.ntpTime d.irx = q.org then
      if d.itxv then match s.boundSince r.port d.itx with
        | some b => (some b, false)
        | none => (none, true)
      else (none, true)
    else (none, false)

/-- ASYM and the trim of a request's client (R344, R324). -/
def State.asymOf (s : State) (r : Req) : Nat × Int := (r.grantd.map (fun d => (d.bnd, d.trim))).getD (s.get F.EBND_ANONASYM, 0)

/-- The reference ID and the reference timestamp (Table 10-3). -/
def State.refId (s : State) : Nat := if s.active < 12 then s.get (F.PKT_REFID s.active) else s.get F.PKT_REFIDHOLD
def State.refStamp (s : State) : Nat :=
  let t := if s.inHold then s.hold.began else s.pkt.refTime
  if t = 0 then 0 else s.ntpTime t

/-- The fields of an NTP response; `stamp` is the transmit time, of which `xmt` is what it carries. -/
def State.ntpOut (s : State) (r : Req) (q : NtpReq) (unsync : Bool) (own : Nat) (comps : List Nat) (sec xmt : Nat) : NtpOut :=
  let (asym, trim) := s.asymOf r
  { li := if unsync then 3 else s.leapInd sec, vn := q.vn, stratum := if unsync then 16 else 1, poll := q.poll, prec := s.get F.PKT_NTPPREC,
    disp := rootDisp own, refid := s.refId, reft := s.refStamp, org := q.xmt, rcv := s.ntpTime r.rx, xmt := xmt, uid := reqUid q,
    ef := if r.cls = 2 then some (s.boundEf (s.get F.EBND_NTPEFTYPE) comps own asym 117 trim r.anon) else none,
    alg := match r.gotVer with
      | some (.pass _ _ a _ _) => a
      | _ => 0,
    cookies := match r.gotVer with
      | some (.pass _ _ _ _ n) => n
      | _ => 0,
    keyId := reqKeyId q }

/-- "RATE" and "NTSN", byte 0 at the lowest address. -/
def RATE : Nat := 0x45544152
def NTSN : Nat := 0x4E53544E

/-- A kiss-o'-death reply with a kiss code: stratum 0, and receive and transmit timestamps of zero (R266); an NTS NAK is one with the Unique Identifier
alone (R262). -/
def NtpOut.kiss (o : NtpOut) (code : Nat) : NtpOut := { o with stratum := 0, refid := code, rcv := 0, xmt := 0, ef := none, alg := 0, cookies := 0, keyId := none }

/-- What composition makes of an item: a drop with its counter, or a frame. -/
inductive Composed
  | drop (cnt : Option Nat)
  | frame (c : Content) (inter tag : Bool) (bound : Nat)

/-- The own bound of a request's response on the present publication. -/
def State.respBound (s : State) (r : Req) (round : Nat) : Nat := ownBound (s.ebnd.ports.getD r.port SAT48) (s.asymOf r).1 round

/-- An NTP response is answered as UNSYNC answers it, whatever the state: its own bound exceeds the limit (R288), or the class is 248 (Table 13-5). -/
def State.respOver (s : State) (own : Nat) : Bool := s.get F.EBND_SERVELIM * 1000 < own || s.clockClass = 248

/-- The response to an NTP request of class 0 to 2, its transmit time `stamp`. -/
def State.ntpCompose (s : State) (r : Req) (q : NtpReq) (stamp : Nat) : Composed :=
  let inter := (s.interleave r q).1
  let own := match inter with
    | some b => ownBound b.1 (s.asymOf r).1 117
    | none => s.respBound r 117
  match s.barred true with
  | some c => .drop c
  | none =>
    let high := s.respOver own
    if s.get F.PKT_SVC_STATE = 2 && high && s.on F.PKT_CTRL_SILENCE then .drop (some 22)
    else
      let unsync := s.get F.PKT_SVC_STATE = 3 || high
      let t := match inter, r.grantd with
        | some _, some d => d.itx
        | _, _ => stamp
      .frame (.ntp (s.ntpOut r q unsync own (inter.elim (s.ebnd.portComps r.port) Prod.snd) (t / SEC48) (s.ntpTime t))) inter.isSome (r.cls ≠ 0) own

/-- The clockIdentity of a port: its MAC address with 0xFFFE after the third octet (R280). -/
def State.clockId (s : State) (p : Nat) : Nat :=
  let m := s.get (F.PKT_PORT_MAC p)
  m / 2 ^ 24 * 2 ^ 40 + 0xFFFE * 2 ^ 24 + m % 2 ^ 24

/-- The dataset of an Announce (R280, R354). -/
def State.announceData (s : State) (g p : Nat) : List Nat :=
  let c := s.clockClass
  let leap := s.leapInd s.secNow
  [s.clockId p, s.get (F.PKT_PTP_PRIO_PRIO1 g), c, accuracyOf (s.get F.EBND_COMMON), s.get (if c = 6 then F.EBND_OSLV else F.EBND_OSLVHOLD),
    s.get (F.PKT_PTP_PRIO_PRIO2 g), s.timeSource, s.get F.TBASE_UTCOFF, leap, if c = 6 ∨ c = 7 then 1 else 0]

/-- The Thrumver TLV of a PTP message (R353), where it carries one. -/
def State.ptpTlv (s : State) (p asym : Nat) (trim : Int) (anon : Bool) : Option BoundEf :=
  if s.on F.EBND_CTRL_PTPTLV then some (s.boundEf (s.get F.EBND_PTPORG) (s.ebnd.portComps p) (ownBound (s.ebnd.ports.getD p SAT48) asym 0) asym 0 trim anon) else none

/-- A PTP message of a group on port `p`, with its common header (R280), tagged where the instance authenticates (R282). -/
def State.ptpFrame (s : State) (p : Nat) (o : PtpOut) (bound : Nat := 0) : Composed :=
  let a := s.on (F.PKT_PTP_CFG_AUTHEN o.group)
  .frame (.ptp { o with auth := a, domain := s.get (F.PKT_PTP_DOMAIN o.group), src := s.clockId p }) false a bound

/-- A slave holds a grant of a type that has not expired; it asks for one that it does not hold, and renews one at half its duration (R285). -/
def Slave.holds (v : Slave) (now type : Nat) : Bool := v.held.any (fun x => x.1 = type && now < x.2.1)
def Slave.due (v : Slave) (now type : Nat) : Bool := !v.held.any (fun x => x.1 = type && decide (x.2.2 < 2 * (x.2.1 - now)))

/-- The head of an answer to a PTP request: its sequence number, its sender's portIdentity and address. -/
def answerTo (r : Req) (m : PtpMsg) (type : Nat) : PtpOut :=
  { group := r.key.group, type := type, tr := min 2 r.key.atype, seq := m.seq, unicast := m.unicast, peer := (m.sender, m.senderPort),
    dst := if m.unicast then r.key.addr else 0 }

/-- The logMessageInterval of a group's Announce (11) or Sync (0) stream; a granted one shows 0x7F. -/
def State.streamLog (s : State) (g type : Nat) (e : Option Nat) : Int :=
  if e.isSome then 0x7F else s.getI (if type = 11 then F.PKT_PTP_INTV_ANN g else F.PKT_PTP_INTV_SYNC g)

/-- The address of an entry's client; 0 for none. -/
def State.entryDst (s : State) (e : Option Nat) : Nat := e.elim 0 (fun n => (s.eKey n).addr)

/-- The ASYM and trim of an entry that holds a grant; 0 for multicast. -/
def State.entryAsym (s : State) (e : Option Nat) : Nat × Int := (e.map (fun n => (s.eGet n 0x38 4, toSigned 32 (s.eGet n 0x34 4)))).getD (0, 0)

/-- Compose an item; `stamp` is the crossing time of its place, used only by speculative content and re-sends. -/
def State.compose (s : State) (it : Item) (stamp : Nat) : Composed :=
  let p := it.port
  match it.src with
  | .req r =>
    let g := r.key.group
    match r.body with
    | .ntp q => s.ntpCompose r q stamp
    | .ptp m =>
      match s.barred false with
      | some c => .drop c
      | none =>
        if r.cls = 3 then
          let (asym, trim) := s.asymOf r
          s.ptpFrame p { answerTo r m 9 with
            time := r.rx, tlv := s.ptpTlv p asym trim r.anon, entry := r.grantd.map Grantd.entry, corr := m.corr - subNs r.rx,
            logInt := if m.unicast then 0x7F else s.getI (F.PKT_PTP_INTV_MINDREQ g) } (s.respBound r 0)
        else if r.cls = 4 then
          if s.on (F.PKT_PTP_CFG_TWOSTEP g) then s.ptpFrame p { answerTo r m 3 with time := r.rx, corr := -subNs r.rx, twoStep := true }
          else s.ptpFrame p { answerTo r m 3 with corr := m.corr + (stamp - r.rx : Nat) / 2 ^ 32 }
        else match m.body with
          | .signaling l =>
            let e := r.grantd.map Grantd.entry
            s.ptpFrame p { answerTo r m 12 with tlvs := s.grantReplies e 0 l, entry := e, unicast := true, dst := r.key.addr } (s.respBound r 0)
          | _ => .drop none
    | .raw => .drop none
  | .refuse r =>
    match r.body with
    | .ptp m => match s.barred false, m.body with
      | none, .signaling l => s.ptpFrame p { answerTo r m 12 with tlvs := s.grantReplies none 0 l, unicast := true, dst := r.key.addr }
      | some c, _ => .drop c
      | _, _ => .drop none
    | _ => .drop none
  | .kod r =>
    match r.body, s.barred true with
    | .ntp q, none =>
      let o := s.ntpOut r q (s.get F.PKT_SVC_STATE = 3 || s.respOver (s.respBound r 117)) (s.respBound r 117) (s.ebnd.portComps r.port) s.secNow 0
      .frame (.ntp (o.kiss RATE)) false false 0
    | _, some c => .drop c
    | _, _ => .drop none
  | .nak r =>
    match r.body, s.barred true with
    | .ntp q, none =>
      let o := s.ntpOut r q (s.get F.PKT_SVC_STATE = 3 || s.respOver (s.respBound r 117)) (s.respBound r 117) (s.ebnd.portComps r.port) s.secNow 0
      .frame (.ntp (o.kiss NTSN)) false false 0
    | _, some c => .drop c
    | _, _ => .drop none
  | .sched g type tr e =>
    match s.barred false with
    | some c => .drop c
    | none =>
      let (asym, trim) := s.entryAsym e
      let o : PtpOut := { group := g, type := type, tr := tr, entry := e, logInt := s.streamLog g type e, unicast := e.isSome, dst := s.entryDst e }
      if type = 11 then
        s.ptpFrame p { o with seq := s.pkt.seqs.getD (2 * g) 0, quality := s.announceData g p, tlv := s.ptpTlv p asym trim false }
      else
        let two := s.on (F.PKT_PTP_CFG_TWOSTEP g)
        let tlv := if two then none else s.ptpTlv p asym trim false
        let t := if two then 0 else stamp
        s.ptpFrame p { o with seq := s.pkt.seqs.getD (2 * g + 1) 0, time := t, corr := subNs t, twoStep := two, tlv := tlv }
  | .follow g type seq time tr e q =>
    match s.barred false, q with
    | some c, _ => .drop c
    | none, none =>
      let (asym, trim) := s.entryAsym e
      s.ptpFrame p { group := g, type := type, tr := tr, seq := seq, time := time, corr := subNs time, tlv := s.ptpTlv p asym trim false, entry := e,
                     logInt := s.streamLog g 0 e, unicast := e.isSome, dst := s.entryDst e }
    | none, some r =>
      match r.body with
      | .ptp m => s.ptpFrame p { answerTo r m type with time := time, corr := m.corr + subNs time }
      | _ => .drop none
  | .slaveReq g =>
    let u := s.on (F.PKT_PTP_SLVCFG_UNICAST g)
    s.ptpFrame p { group := g, type := 1, tr := s.get (F.PKT_PTP_SLVCFG_TRANSPORT g), seq := (s.slave g).dreqSeq, unicast := u,
                   dst := if u then s.get (F.PKT_PTP_SLVADDR g) else 0 }
  | .slaveSig g =>
    let logOf := fun (t : Nat) => s.getI (if t = 11 then F.PKT_PTP_INTV_ANN g else if t = 0 then F.PKT_PTP_INTV_SYNC g else F.PKT_PTP_SLVCFG_DREQLOG g)
    let l := ([11, 0, 9].filter ((s.slave g).due s.secNow)).map (fun t => SigTlv.request t (logOf t) (s.get F.PKT_GRANTMAXDUR))
    s.ptpFrame p { group := g, type := 12, tr := s.get (F.PKT_PTP_SLVCFG_TRANSPORT g), tlvs := l, unicast := true, peer := (2 ^ 64 - 1, 65535),
                   dst := s.get (F.PKT_PTP_SLVADDR g) }
  | .arp v6 k => .frame (.arp v6 k) false false 0
  | .host n => .frame (.host n) false false 0

/-- An item's frame carries speculative content: basic-mode NTP, one-step Sync and Pdelay_Resp (Table 10-1, R270, R281). -/
def State.specContent (s : State) (it : Item) : Bool :=
  match it.src with
  | .req r => match r.body with
    | .ntp q => (s.interleave r q).1.isNone
    | _ => r.cls = 4 && !s.on (F.PKT_PTP_CFG_TWOSTEP r.key.group)
  | .sched g type _ _ => type = 0 && !s.on (F.PKT_PTP_CFG_TWOSTEP g)
  | _ => false

/-- A response in basic mode whose origin matched (R278). -/
def State.fallsBack (s : State) (it : Item) : Bool :=
  match it.src with
  | .req r => match r.body with
    | .ntp q => (s.interleave r q).2
    | _ => false
  | _ => false

/-- The kind of network address an item's frame is sent to: 0 IPv4, 1 IPv6, 2 IEEE 802.3 or a host frame. -/
def Item.net (it : Item) : Nat :=
  match it.src with
  | .req r | .kod r | .nak r | .refuse r => r.key.atype
  | .sched _ _ tr _ | .follow _ _ _ _ tr _ _ => tr
  | _ => 2

/-- The frame carries a UDP checksum: mandatory for IPv6, under UDP4CSUM for IPv4 (R269). -/
def State.hasCsum (s : State) (it : Item) : Bool := it.net = 1 || (it.net = 0 && s.on F.PKT_CTRL_UDP4CSUM)

/-! ### Last transmit stamps (R42, R290) -/

/-- PKT_PORTn_LASTTX and LASTST show a stamp: 0 predicted, 1 locked, 2 measured. -/
def State.showTx (s : State) (p t kind : Nat) (spec : Bool) : State :=
  (s.set (F.PKT_PORT_LASTTX p) (time128 t)).set (F.PKT_PORT_LASTST p) ((if spec then 1 else 0) + 2 + 4 * kind)

/-- A stamp without SPEC is shown, and is what a discarded one gives way to. -/
def State.showConfirmed (s : State) (p t kind : Nat) : State :=
  (s.showTx p t kind false).setPkt { s.pkt with prevTx := modAt s.pkt.prevTx p (fun _ => (t, kind, true)) }

/-- LASTTX shows this slot's unconfirmed stamp. -/
def State.shows (s : State) (x : Slot) : Bool :=
  s.on (F.PKT_PORT_LASTST_SPEC x.item.port) && s.get (F.PKT_PORT_LASTTX x.item.port) = time128 x.stamp

/-- A discarded stamp leaves LASTTX, which shows the last one without SPEC, or none. -/
def State.unshow (s : State) (x : Slot) : State :=
  if x.spec && s.shows x then
    let p := x.item.port
    match at' (0, 0, false) s.pkt.prevTx p with
    | (t, k, true) => s.showTx p t k false
    | _ => (s.set (F.PKT_PORT_LASTTX p) 0).set (F.PKT_PORT_LASTST p) 0
  else s

/-! ### Slots -/

def State.slot? (s : State) (id : Nat) : Option Slot := s.pkt.slots.find? (fun x => x.id = id)
def State.setSlots (s : State) (l : List Slot) : State := s.setPkt { s.pkt with slots := l }
def State.modSlot (s : State) (id : Nat) (f : Slot → Slot) : State := s.setSlots (s.pkt.slots.map (fun x => if x.id = id then f x else x))

/-- A slot is gone, and with it its tag job. -/
def State.dropSlot (s : State) (id : Nat) : State :=
  let s := s.setSlots (s.pkt.slots.filter (fun x => x.id ≠ id))
  s.setAuth { s.auth with jobs := s.auth.jobs.filter (fun j => j ≠ .tag id ∧ j ≠ .retag id) }

/-- The grant behind a slot's response, if it answers a registered client's request. -/
def Slot.grantd (x : Slot) : Option Grantd :=
  match x.item.src with
  | .req r => r.grantd
  | _ => none

/-- A host frame is discarded and counted (R397). -/
def State.hostDrop (s : State) : State := (s.incRaise (F.HIF_Q_DROP 1) 220).txDone

/-- Sequence numbers count on as a scheduled message is composed. -/
def State.seqNext (s : State) (src : Source) : State :=
  match src with
  | .sched g type _ _ => s.setPkt { s.pkt with seqs := modAt s.pkt.seqs (2 * g + if type = 11 then 0 else 1) (fun v => (v + 1) % 65536) }
  | _ => s

/-! ### Places (R267, R268) -/

/-- Unit intervals of a port's lane that a number of octets takes: a 66-bit block of eight octets takes 66, and 16.5 on each lane of a 100GBASE-R port. -/
def State.octetUi (s : State) (n : Nat) : Nat := ceilDiv (n * 33) (if s.portMode = 1 then 16 else 4)

/-- The first boundary at or after a unit interval on which a delimiter may start: every 4 octets, or every block of a 100GBASE-R port. -/
def State.gridUp (s : State) (x : Nat) : Nat := if s.portMode = 1 then ceilDiv (2 * x) 33 * 33 / 2 else ceilDiv x 33 * 33

/-- The octets of an item's frame after its delimiter. -/
def Item.octets (it : Item) (c : Content) : Nat :=
  frameLen c it.net (match it.src with
    | .req r | .kod r | .nak r | .refuse r => r.key.vid ≠ 0
    | _ => false)

/-- What a place must make way for, in ascending order: a deletion and an insertion by unit interval, an alignment marker (Table 9-1). -/
inductive Bar
  | del (u : Nat)
  | ins (u : Nat)
  | marker (u : Nat)

/-- What MTS predicts for a port's lane when a convoy closes (R237). -/
def State.bars (s : State) (p : Nat) : List Bar :=
  let plan := s.ratePlan (s.txLane p)
  let ev := fun l : List (Nat × Bool) => l.map (fun e => if e.2 then Bar.ins e.1 else .del e.1)
  match plan.marker with
  | none => ev plan.events
  | some m => ev (plan.events.takeWhile (fun e => e.1 < m)) ++ [.marker m] ++ ev (plan.events.dropWhile (fun e => e.1 < m))

/-- A place at `c` makes way for one bar: an idle block is left in a gap where a deletion falls due; an insertion after the end `last` of the last frame widens
the gap before the delimiter, or before a frame that would span it; no slot spans a marker, and none starts in one. -/
def State.pass (s : State) (last frame slot c : Nat) : Bar → Nat
  | .del u => if c < u + 66 ∧ u < c + frame then s.gridUp (u + 66) else c
  | .ins u => if last ≤ u ∧ u < c + frame then s.gridUp (max c u + 66) else c
  | .marker u => if c < u + 330 ∧ u < c + slot then s.gridUp (u + 330) else c

/-- The first permitted place at or after `x` for a frame of some octets on port `p`, whose last frame ends at `last`. -/
def State.placeAfter (s : State) (p last x octets : Nat) : Nat :=
  (s.bars p).foldl (s.pass last (s.octetUi octets) (s.octetUi (octets + 12))) (s.gridUp x)

/-- The first permitted place on port `p` at or after `x`; the last slot's inter-packet gap and the next preamble lie before `free`. -/
def State.placeFrom (s : State) (p x octets : Nat) : Nat := s.placeAfter p (at' 0 s.pkt.free p - s.octetUi 20) x octets

/-- The first unit interval of port `p` behind the frames that hold a place on it, with their gap and the next preamble. -/
def State.roomEnd (s : State) (p : Nat) : Nat :=
  (s.pkt.slots.filter (fun x => x.item.port = p && (x.ph = .placed || x.ph = .locked))).foldl (fun a x => max a (x.pos + x.len + s.octetUi 20)) 0

/-- Port `p` is taken up to the end of the last slot's inter-packet gap and the next preamble. -/
def State.takeRoom (s : State) (p pos octets : Nat) : State :=
  s.setPkt { s.pkt with free := modAt s.pkt.free p (fun _ => max (s.roomEnd p) (pos + s.octetUi (octets + 20))) }

/-- A slot is reserved with its finished frame; its tag is asked for. -/
def State.place (s : State) (it : Item) (c : Content) (spec inter tag : Bool) (bound pos stamp : Nat) (locked fall : Bool) : State :=
  let id := s.pkt.nextId
  let x : Slot := { id := id, item := it, content := c, spec := spec, pos := pos, stamp := stamp, interleaved := inter, resend := locked, needTag := tag,
                    bound := bound, ph := if locked then .locked else .placed, csum := s.hasCsum it, fall := fall, len := s.octetUi (it.octets c) }
  let s := ((s.setPkt { s.pkt with nextId := id + 1, slots := s.pkt.slots ++ [x] }).takeRoom it.port pos (it.octets c)).seqNext it.src
  let s := if tag then s.addJob (if locked then .retag id else .tag id) else s
  if spec then s.showTx it.port stamp 0 true else s

/-- A crossing lies within 2 µs before an announced or accepted step or load (R272); `near` says so of an accepted step whose time is not announced. -/
def State.nearStep (s : State) (stamp : Nat) (near : Bool) : Bool :=
  let soon := fun ts : Nat => decide (stamp < ts) && decide (ts ≤ stamp + 2000 * NS48)
  s.tb.astep.any (fun a => (a.ann.map Prod.snd).elim near soon) || (s.tb.load.bind (fun l => l.ts)).any soon

/-- What an item of a convoy comes to: it is dropped, it waits, or it takes the place. -/
inductive Placed
  | gone (s : State)
  | wait
  | took (s : State)

/-- The stamp of an item's place, and the place, which depends on the length of the frame alone. -/
def State.placeOf (s : State) (it : Item) (pl : ConvoyPlan) : Option Nat :=
  match s.compose it 0 with
  | .drop _ => none
  | .frame c _ _ _ => some (s.placeFrom it.port (max pl.first (at' 0 s.pkt.free it.port)) (it.octets c))

/-- Offer the next place of its port's convoy to an item (R267 to R272); without a convoy only a port that is not UP decides. -/
def State.offer (s : State) (it : Item) (pl : Option ConvoyPlan) : Placed :=
  if !s.portUp it.port then
    .gone (match it.src with
      | .host _ => s.hostDrop
      | _ => if s.specContent it then s.pc 17 else s.pc 32)
  else match pl with
    | none => .wait
    | some pl =>
      let spec := s.specContent it
      let pos := (s.placeOf it pl).getD 0
      let stamp := s.txStampOf (s.txLane it.port) pos
      match s.compose it stamp with
      | .drop c => .gone (c.elim s s.pc)
      | .frame c inter tag bound =>
        if spec && !s.specOk it.port then .gone (s.pc 17)
        else if pl.last ≤ pos then .wait
        else if spec && s.nearStep stamp (pl.near.any (fun u => u ≤ pos)) then .wait
        else
          .took (s.place it c spec inter tag bound pos (if spec then stamp else 0) false (s.fallsBack it))

/-- Fill a port's convoy from its ready items in order; what stays ready is answered. -/
def State.fillConvoy (s : State) (pl : Option ConvoyPlan) : List Item → State × List Item
  | [] => (s, [])
  | it :: r =>
    match s.offer it pl with
    | .gone s => s.fillConvoy pl r
    | .took s => s.fillConvoy pl r
    | .wait =>
      let x := s.fillConvoy pl r
      (x.1, it :: x.2)

/-- The items of a port in the order of R267: by priority, then by arrival. -/
def byPrio (l : List Item) : List Item := ([1, 2, 3, 4].map (fun k => l.filter (fun i => i.prio = k))).flatten

/-- The convoy of one port closes; a port that receives local fault sends nothing (R243). -/
def State.closePort (plans : List ConvoyPlan) (s : State) (p : Nat) : State :=
  let mine := byPrio (s.pkt.ready.filter (fun i => i.port = p))
  let s := s.setReady (s.pkt.ready.filter (fun i => i.port ≠ p))
  let (s, left) := s.fillConvoy (if s.portSends p then plans.find? (fun c => c.port = p) else none) mine
  (s.setReady (left ++ s.pkt.ready)).showPort p

/-! ### Outcomes (R31 to R41, R273 to R276) -/

/-- What a sent response commits (R273, R278, R332): its transmit stamp and its kind, 3 where the lane had no meter and there is none. -/
def State.commitSlot (s : State) (x : Slot) (tx kind : Nat) : State :=
  match x.item.src with
  | .req r => match r.grantd with
    | none => s
    | some d =>
      let xmt := match r.body with
        | .ntp q => q.xmt
        | _ => 0
      let s := s.pushCommit (.resp d.entry d.gen r.rx tx kind r.cls x.interleaved x.resend xmt x.bound d.prevNs)
      match x.content with
      | .ptp o => s.applyGrants r d x.item.port o.tlvs
      | _ => s
  | _ => s

/-- A response in basic mode has been sent: a fall-back counts (R278, R350). -/
def State.countFall (s : State) (x : Slot) : State := if x.fall then s.pc 24 else s

/-- A frame without speculative content has been sent, with its measured stamp (R270, R278, R281, R285). -/
def State.plainSent (s : State) (x : Slot) (t : Option Nat) : State :=
  let p := x.item.port
  let s := match x.content with
    | .ptp o => s.countGrants o.tlvs
    | _ => s
  match x.item.src with
  | .req r =>
    if x.interleaved then (t.elim (s.commitSlot x 0 3) (fun v => s.commitSlot x v 2)).pc 23
    else
      let s := t.elim (s.commitSlot x 0 3) (fun v => s.commitSlot x v 2)
      match r.body with
      | .ptp m =>
        if r.cls = 4 then t.elim s (fun v => s.addReady ⟨p, 1, .follow r.key.group 10 m.seq v (min 2 r.key.atype) none (some r), 0⟩) else s
      | _ => s
  | .kod _ => s.pc 25
  | .sched g type tr e => match x.content with
    | .ptp o => if type = 0 then t.elim s (fun v => s.addReady ⟨p, 1, .follow g 8 o.seq v tr e none, 0⟩) else s
    | _ => s
  | .follow _ _ _ time _ _ _ => s.showConfirmed p time 2
  | .slaveReq g => match x.content with
    | .ptp o => s.setPkt { s.pkt with slaves := modAt s.pkt.slaves g (fun v => { v with dreq := some (o.seq, t) }) }
    | _ => s
  | .host _ => (s.pc 27).txDone
  | _ => s

/-- A slot's response is lost (R275): counted, its stored transmit timestamp not valid, with a fault on a locked slot. -/
def State.loseSlot (s : State) (x : Slot) : State :=
  let s := (s.dropSlot x.id).unshow x
  let s := (s.pc 9).evtSet F.PKT_EVT_LOST 146
  let s := match x.item.src with
    | .host _ => if x.ph = .placed then s.txDone else s
    | _ => s
  let s := x.grantd.elim s (fun d => s.pushCommit (.lost d.entry d.gen))
  if x.ph = .locked || x.wantLock then s.fault 0x0B 6 else s

/-- A port leaves UP: every frame that is placed, in progress or waits for a locked slot is lost (R244).  A frame that was stomped, and whose
response is gone already, is ended without its sequence. -/
def State.portLost (s : State) (p : Nat) : State :=
  let s := (s.pkt.slots.filter (fun x => x.item.port = p)).foldl (fun s x => if x.ph = .missed && !x.wantLock then s.dropSlot x.id else s.loseSlot x) s
  s.setPkt { s.pkt with free := modAt s.pkt.free p (fun _ => 0) }

/-- A speculation has failed: the stamp is discarded and the response waits for a locked unit interval (R274). -/
def State.missSlot (s : State) (x : Slot) : State :=
  let s := (s.unshow x).modSlot x.id (fun x => { x with spec := false, ph := .missed, wantLock := true, tagged := false })
  s.setPkt { s.pkt with misses := s.pkt.misses + 1 }

/-- A slot is withdrawn before its delimiter reaches the encoder: nothing is sent, and its response is ready again (R274). -/
def State.withdraw (s : State) (x : Slot) : State :=
  let s := ((s.dropSlot x.id).unshow x).setReady (backTo x.item s.pkt.ready)
  (s.pc 10).evtSet F.PKT_EVT_WITHDRAW 153

/-- The speculative slots whose delimiters have not entered the encoder. -/
def State.openSpec (s : State) : List Slot := s.pkt.slots.filter (fun x => x.spec && x.ph = .placed)

/-- Slots are withdrawn; their responses keep their order of arrival. -/
def State.withdrawAll (s : State) (l : List Slot) : State := l.foldl State.withdraw s

/-- Every speculative slot that closed on an older bound is withdrawn (R348). -/
def State.withdrawOld (s : State) : State := s.withdrawAll s.openSpec

/-- A step or load is made: requests received before it and not yet answered are dropped, and stamps from before it are not used (R272). -/
def State.stepDrop (s : State) : State :=
  let gone := s.pkt.slots.filter (fun x => x.item.src.isAnswer && (x.ph = .placed || x.ph = .locked || x.wantLock))
  let n := (s.pkt.reqs.filter (fun r => r.cls ≠ 6)).length + (s.pkt.ready.filter (fun i => i.src.isAnswer)).length + gone.length
  let s := s.setPkt { s.pkt with reqs := s.pkt.reqs.filter (fun r => r.cls = 6), ready := s.pkt.ready.filter (fun i => !i.src.isAnswer) }
  let s := gone.foldl (fun s x => (if x.ph = .missed then s.modSlot x.id (fun x => { x with wantLock := false }) else s.dropSlot x.id).unshow x) s
  let s := s.withdrawOld
  if n = 0 then s else (s.set (F.PKT_CNT 21) (s.get (F.PKT_CNT 21) + n)).evtSet F.PKT_EVT_STEPDROP 152

/-- At H the old unit gives up every slot whose delimiter has not entered the encoder (R460). -/
def State.stopService (s : State) : State :=
  (s.pkt.slots.filter (fun x => x.ph = .placed || x.ph = .locked || x.wantLock)).foldl (fun s x =>
    (if x.ph = .missed then s.modSlot x.id (fun x => { x with wantLock := false }) else s.dropSlot x.id).unshow x) s

/-- One round of announcements on group `g`: on every UP port a gratuitous ARP for each IPv4 service address of the group, an unsolicited Neighbor
Advertisement for each IPv6 one (R460). -/
def State.arpRound (s : State) (g : Nat) : State :=
  let es := (List.range 8).filter (fun k => s.on (F.PKT_ADDR_CFG_EN k) && s.on (if g = 0 then F.PKT_ADDR_CFG_GRP0 k else F.PKT_ADDR_CFG_GRP1 k))
  ((s.groupPorts g).filter s.portUp).foldl (fun s p => es.foldl (fun s k => s.addReady ⟨p, 1, .arp (s.on (F.PKT_ADDR_CFG_V6 k)) k, 0⟩) s) s

/-- The first Announce interval of a group after a take-over brings one more round (R460). -/
def State.firstAnnounce (s : State) (g type : Nat) : State :=
  if type = 11 && s.rdn.firstAnn.contains g then (s.setRdn { s.rdn with firstAnn := s.rdn.firstAnn.filter (fun x => x ≠ g) }).arpRound g else s

/-! ### The slaves (R285, R286) -/

def State.setSlave (s : State) (g : Nat) (v : Slave) : State := s.setPkt { s.pkt with slaves := modAt s.pkt.slaves g (fun _ => v) }

/-- The state of a slave changes (source 155 or 156). -/
def State.slvTo (s : State) (g st : Nat) : State :=
  if s.get (F.PKT_PTP_SLVSTAT_STATE g) = st then s else ((s.set (F.PKT_PTP_SLVSTAT_STATE g) st).bump F.PKT_GEN).raise (155 + g)

/-- The slave listens with no master. -/
def State.slvListen (s : State) (g : Nat) : State :=
  let v := s.slave g
  let s := s.setSlave g { v with cur := none, sync := none, pair := none, pairNew := false, dreq := none, delay := none,
                                 masters := v.masters.filter (fun m => some m.id ≠ v.cur) }
  ((s.set (F.PKT_PTP_SLVCUR g) 0).set (F.PKT_PTP_SLVDELAY g) 0).slvTo g 1

/-- What follows a change of a slave's registers: it restarts in LISTENING, or is DISABLED. -/
def slavePost (g : Nat) (_ s : State) : State :=
  let s := (s.setSlave g {}).setB (F.PKT_PTP_SLVSTAT_GRANTED g) false
  let s := (s.set (F.PKT_PTP_SLVCUR g) 0).set (F.PKT_PTP_SLVDELAY g) 0
  s.slvTo g (if s.on (F.PKT_PTP_SLVCFG_EN g) then 1 else 0)

/-- The slaves that are enabled enter LISTENING as PKT starts (Table 10-4). -/
def State.slavesOn (s : State) : State := [0, 1].foldl (fun s g => if s.on (F.PKT_PTP_SLVCFG_EN g) then s.slvTo g 1 else s) s

/-- What follows a change of PKT_CTRL: the service state is evaluated. -/
def pktPost (_ s : State) : State := (s.svcEval false).classEval

/-- The grants of the named groups are void: 0 group 0, 1 group 1, 2 both (R284). -/
def State.clearGrants (s : State) (k : Nat) : State × Nat :=
  let a := if k = 1 then (s, 0) else s.voidGrants 0
  let b := if k = 0 then (a.1, 0) else a.1.voidGrants 1
  (b.1, a.2 + b.2)

/-- A configuration operation of PKT is applied (R292); its generation is checked now (R374). -/
def State.applyCfg (s : State) (j : CfgJob) : State :=
  match j.act with
  | .plain => cfgOp F.PKT_GEN j.given j.regs noPost j.wb s
  | .control => cfgOp F.PKT_GEN j.given j.regs pktPost j.wb s
  | .instanceOf g => cfgOp F.PKT_GEN j.given j.regs (ptpPost g) j.wb s
  | .slaveOf g => cfgOp F.PKT_GEN j.given j.regs (slavePost g) j.wb s
  | .grants k => genCheck F.PKT_GEN j.given j.wb s fun s =>
      let x := s.clearGrants k
      let s := x.1.bump F.PKT_GEN
      s.done j.wb ([w16 (s.get F.PKT_GEN)] ++ wordsOf x.2 2)

/-- The operations that wait are applied in order. -/
def State.applyCfgs (s : State) : State := s.pkt.cfgs.foldl State.applyCfg (s.setPkt { s.pkt with cfgs := [] })

/-- Dataset `a` from master `i` is better than `b` from `j` (clause 9.3; PRESUMED: IEEE 1588-2019, log entry 14). -/
def annBetter (a : Announce) (i : Nat) (b : Announce) (j : Nat) : Bool :=
  let lex : List (Nat × Nat) := if a.gm = b.gm then [(a.steps, b.steps), (i, j)]
    else [(a.prio1, b.prio1), (a.cls, b.cls), (a.accuracy, b.accuracy), (a.variance, b.variance), (a.prio2, b.prio2), (a.gm, b.gm)]
  match lex.find? (fun p => p.1 ≠ p.2) with
  | some (x, y) => x < y
  | none => false

/-- The best of the masters heard. -/
def bestMaster : List Master → Option Master
  | [] => none
  | m :: r => match bestMaster r with
    | none => some m
    | some b => if annBetter b.ann b.id m.ann m.id then some b else some m

/-- The slave takes a master; a change of master counts and clears the path delay, and where its reference is ACTIVE the DPLL takes it anew (R97,
R285). -/
def State.slvTake (s : State) (g id : Nat) : State :=
  let v := s.slave g
  if v.cur = some id then s
  else
    let s := (s.setSlave g { v with cur := some id, sync := none, pair := none, pairNew := false, dreq := none, delay := none }).set (F.PKT_PTP_SLVCUR g) id
    let s := s.set (F.PKT_PTP_SLVDELAY g) 0
    match v.cur with
    | none => s.slvTo g 2
    | some _ =>
      let s := (s.inc (F.PKT_PTP_SLVCHG g)).fault 0x0B 5 g
      let s := s.modRef (9 + g) (fun r => { r with meas := none, last := none, sum := 0, cnt := 0 })
      let s := if s.active = 9 + g then s.setDpll { s.dpll with taken := true } else s
      if s.get (F.PKT_PTP_SLVSTAT_STATE g) = 2 then s.raise (155 + g) else s.slvTo g 2

/-- An Announce: the master is kept with its newest dataset, and the choice is made again. -/
def State.slvAnnounce (s : State) (g id : Nat) (a : Announce) : State :=
  let want := s.get (F.PKT_PTP_SLVMASTER g)
  if 255 ≤ a.steps || (want ≠ 0 && want ≠ id) then s
  else
    let v := s.slave g
    let l := v.masters.filter (fun m => m.id ≠ id) ++ [⟨id, a⟩]
    let s := s.setSlave g { v with masters := l }
    (bestMaster l).elim s (fun m => s.slvTake g m.id)

/-- A time difference in 2^-48 ns as ps, to nearest. -/
def toPs (d : Int) : Int := (d * 1000 + 2 ^ 47) / 2 ^ 48

/-- A Delay_Resp completes a delay measurement (clause 11.3). -/
def State.slvDelay (s : State) (g seq rx : Nat) : State :=
  let v := s.slave g
  match v.dreq, v.pair with
  | some (q, some t3), some (t1, t2) =>
    if q = seq then
      let d := ((t2 : Int) - t1 + (rx - t3)) / 2
      let s := (s.setSlave g { v with delay := some d, dreq := none }).setI (F.PKT_PTP_SLVDELAY g) (toPs d)
      if s.get (F.PKT_PTP_SLVSTAT_STATE g) = 2 then s.slvTo g 3 else s
    else s
  | _, _ => s

/-- SLVSTAT.GRANTED follows the grants that have not expired. -/
def State.slvGranted (s : State) (g : Nat) : State := s.setB (F.PKT_PTP_SLVSTAT_GRANTED g) ([11, 0, 9].all (fun t => (s.slave g).holds s.secNow t))

/-- A millisecond of the slaves: GRANTED clears as their grants lapse. -/
def State.slavesTick (s : State) : State := (s.slvGranted 0).slvGranted 1

/-- A grant or an acknowledgement from SLVADDR, with which a unicast slave negotiates (R285). -/
def State.slvGrants (s : State) (g : Nat) (l : List SigTlv) : State :=
  let v := s.slave g
  let held := l.foldl (fun h t => match t with
    | .grant ty _ dur =>
      let h := h.filter (fun x => x.1 ≠ ty)
      if dur = 0 then h else h ++ [(ty, s.secNow + dur, dur)]
    | .ackCancel ty => h.filter (fun x => x.1 ≠ ty)
    | _ => h) v.held
  (s.setSlave g { v with held := held }).slvGranted g

/-- The TLV that a master sends in a Sync, Follow_Up or Delay_Resp gives its newest total (R346). -/
def State.masterTlv (s : State) (g : Nat) (m : PtpMsg) : State :=
  match m.bound, m.body with
  | some b, .sync _ _ | some b, .followUp _ | some b, .delayResp _ _ _ =>
    s.setSlave g { s.slave g with masters := (s.slave g).masters.map (fun x => if x.id = m.sender then { x with ann := { x.ann with bound := some b } } else x) }
  | _, _ => s

/-- Slave input (class 6); every stamp it uses is measured (R82). -/
def State.slaveIn (s : State) (g addr : Nat) (m : PtpMsg) (rx : Option Nat) : State :=
  let s := s.masterTlv g m
  let v := s.slave g
  let mine := v.cur = some m.sender
  match m.body with
  | .announce a => s.slvAnnounce g m.sender a
  | .signaling l => if s.on (F.PKT_PTP_SLVCFG_UNICAST g) && addr = s.get (F.PKT_PTP_SLVADDR g) then s.slvGrants g l else s
  | .sync t two => match rx with
    | some r =>
      if !mine then s
      else if two then s.setSlave g { v with sync := some (m.seq, r, none) }
      else s.setSlave g { v with sync := some (m.seq, r, some t), pair := some (t, r), pairNew := true }
    | none => s
  | .followUp t => match v.sync with
    | some (q, r, none) => if mine && q = m.seq then s.setSlave g { v with sync := some (q, r, some t), pair := some (t, r), pairNew := true } else s
    | _ => s
  | .delayResp r id port => if mine && id = s.clockId (s.slavePort g) && port = 1 then s.slvDelay g m.seq r else s
  | _ => s

/-- A verified slave input. -/
def slaveInput (r : Req) (s : State) : State :=
  match r.body with
  | .ptp m => s.slaveIn r.key.group r.key.addr m (if r.rx = 0 then none else some r.rx)
  | _ => s

end Sys2Proof.Machine
end

