-- ==== Sys2Proof/Machine/LaneOps.lean ====
section
/-! DEFINITION. The lanes' states and detectors, the phase meters' locks and rate matching (spec/09). -/
namespace Sys2Proof.Machine

/-! ### Meters (R246) -/

/-- A meter's LOCKED changes, with interrupt 128 + n; without its transmit meter MTS predicts no event of a lane. -/
def State.meterSet (s : State) (n : Nat) (rx b : Bool) : State :=
  let f := if rx then F.MTS_RXLOCKMAP else F.MTS_LOCKMAP
  if s.bit f n = b then s
  else
    let s := (s.setBit f n b).raise (128 + n)
    if rx || b then s else s.setPlan n 0 ⟨[], none⟩

/-- A meter unlocks; on a lane in UP with a fault. -/
def State.meterOff (s : State) (n : Nat) (rx : Bool) : State :=
  if s.bit (if rx then F.MTS_RXLOCKMAP else F.MTS_LOCKMAP) n then
    let t := s.meterSet n rx false
    if s.laneUp n then t.fault 0x0A 1 else t
  else s

/-! ### Lane states (R242) -/

/-- A lane's state changes: interrupt 96 + n, LINKMAP and the counts as it enters or leaves UP (R244). -/
def State.laneTo (s : State) (n st : Nat) : State :=
  let was := s.get (F.LANE_LANE_STAT_STATE n)
  if was = st then s
  else
    let s := (s.set (F.LANE_LANE_STAT_STATE n) st).bump F.LANE_GEN
    if st = 4 then (s.setBit F.LANE_LINKMAP n true).raise (96 + n)
    else if was = 4 then
      let s := (s.setBit F.LANE_LINKMAP n false).inc (F.LANE_LANE_DOWNCNT n)
      let s := (s.setB (F.LANE_LANE_STAT_RFAULT n) false).setMts { s.mts with lfault := s.mts.lfault.filter (fun m => m ≠ n) }
      (s.raise (96 + n)).fault 9 1 n
    else s

/-- Lane `n` goes to a state other than UP; a lane that leaves UP takes the others of its 100GBASE-R port to LOCKING, and the port's frames are
lost (R242, R244). -/
def State.laneDown (s : State) (n st : Nat) : State :=
  if s.laneUp n && n < 8 then
    let s := (s.portLanes (s.lanePort n)).foldl (fun s m => if m = n then s.laneTo m st else if s.laneUp m then s.laneTo m 2 else s) s
    s.portLost (s.lanePort n)
  else s.laneTo n st

/-- The lanes that align with lane `n`. -/
def State.alignSet (s : State) (n : Nat) : List Nat := if n < 8 then s.portLanes (s.lanePort n) else [n]

/-- Alignment of a lane's port is lost (R240). -/
def State.unalign (s : State) (n : Nat) : State := (s.alignSet n).foldl (fun s m => s.setB (F.LANE_LANE_STAT_AMLOCK m) false) s

/-- CDR lock is lost: the recovered word clock stops, so the receive meter unlocks and the blocks are lost. -/
def State.cdrOff (s : State) (n : Nat) : State :=
  (((s.meterOff n true).setB (F.LANE_LANE_STAT_CDRLOCK n) false).setB (F.LANE_LANE_STAT_BLKLOCK n) false).unalign n

/-- The receive side of a lane has no signal. -/
def State.rxOff (s : State) (n : Nat) : State :=
  ((s.cdrOff n).setB (F.LANE_LANE_STAT_SIGDET n) false).setB (F.LANE_LANE_STAT_HIBER n) false

/-- The transmit PLL of a lane is not locked: its word clock stops and the transmit meter unlocks. -/
def State.txOff (s : State) (n : Nat) : State := (s.meterOff n false).setB (F.LANE_LANE_STAT_TXPLLOCK n) false

/-- A lane starts again from NOSIGNAL (Table 9-4). -/
def State.laneStart (s : State) (n : Nat) : State := (s.laneDown n 1).rxOff n


/-- A lane is switched off. -/
def State.laneOff (s : State) (n : Nat) : State := ((s.laneDown n 0).rxOff n).txOff n

/-- A lane meets the conditions of UP but for alignment. -/
def State.laneGood (s : State) (n : Nat) : Bool :=
  s.on (F.LANE_LANE_STAT_CDRLOCK n) && s.on (F.LANE_LANE_STAT_BLKLOCK n) && !s.on (F.LANE_LANE_STAT_HIBER n) && s.on (F.LANE_LANE_STAT_TXPLLOCK n)

/-- A service lane of a 100GBASE-R port. -/
def State.aligns (s : State) (n : Nat) : Bool := s.portMode = 1 && n < 8

/-- A lane advances from NOSIGNAL and from LOCKING as far as its own detectors allow. -/
def State.laneStep (s : State) (n : Nat) : State :=
  let s := if s.get (F.LANE_LANE_STAT_STATE n) = 1 && s.on (F.LANE_LANE_STAT_SIGDET n) then s.laneTo n 2 else s
  if s.get (F.LANE_LANE_STAT_STATE n) ≠ 2 then s
  else if s.aligns n then
    (if s.on (F.LANE_LANE_STAT_CDRLOCK n) && s.on (F.LANE_LANE_STAT_BLKLOCK n) then s.laneTo n 3 else s)
  else if s.laneGood n then s.laneTo n 4 else s

/-- A lane advances; the four lanes of a 100GBASE-R port come UP together (Table 9-4). -/
def State.laneAdvance (s : State) (n : Nat) : State :=
  let l := s.alignSet n
  let s := l.foldl State.laneStep s
  if s.aligns n && l.all (fun m => s.get (F.LANE_LANE_STAT_STATE m) = 3 && s.laneGood m && s.on (F.LANE_LANE_STAT_AMLOCK m)) then
    l.foldl (fun s m => s.laneTo m 4) s
  else s

/-! ### Latencies, power (R239, R488) -/

/-- The fixed transmit latency of a lane in its mode, 2^-12 ns (Table 9-2). -/
def State.txLatOf (s : State) (n : Nat) : Nat :=
  if 8 ≤ n || s.portMode = 2 then 253133
  else if s.portMode = 1 then (if s.on F.LANE_MODE_FEC then 361267 else 214630)
  else if s.on F.LANE_MODE_FEC then 293274 else 155648

/-- LANE_LANEn_TXLAT follows the mode. -/
def State.showTxLat (s : State) : State := (List.range 10).foldl (fun s n => s.set (F.LANE_LANE_TXLAT n) (s.txLatOf n)) s

/-- The end of step 6: every enabled lane leaves OFF (R488). -/
def State.lanesOn (s : State) : State :=
  (List.range 10).foldl (fun s n => if s.on (F.LANE_LANE_CFG_EN n) then s.laneTo n 1 else s) s.showTxLat

/-- What follows a change of a lane's CFG: EN switches the lane on or off (Table 9-4). -/
def lanePost (n : Nat) (_ s : State) : State :=
  if !s.past 6 then s
  else if s.on (F.LANE_LANE_CFG_EN n) then (if s.get (F.LANE_LANE_STAT_STATE n) = 0 then s.laneTo n 1 else s)
  else (s.laneOff n).laneAdvance n

/-- A port that does not serve shows no stamp (R290). -/
def State.portClear (s : State) (p : Nat) : State :=
  ((s.set (F.PKT_PORT_LASTTX p) 0).set (F.PKT_PORT_LASTST p) 0).setPkt { s.pkt with prevTx := modAt s.pkt.prevTx p (fun _ => (0, 0, false)) }

/-- R235: the port mode and FEC change, every enabled service lane starting again from NOSIGNAL; on a 100GBASE-R port the FEC counters read in the group
of lane 0 alone (R253), and ports 2 to 7 read 0 (R290). -/
def State.modeSet (s : State) (v : Nat) : State :=
  let old := s.portMode
  let s := (List.range 8).foldl (fun s n => if s.get (F.LANE_LANE_STAT_STATE n) = 0 then s else s.laneStart n) s
  let s := (s.putReg F.LANE_MODE.addr v).showTxLat
  let s := if s.portMode = 1 then
      [2, 3, 4, 5, 6, 7].foldl State.portClear ([1, 2, 3, 5, 6, 7].foldl (fun s n => (s.set (F.LANE_LANE_FECCORR n) 0).set (F.LANE_LANE_FECUNC n) 0) s)
    else s
  if (old = 2) ≠ (s.portMode = 2) then (List.range 8).foldl State.txOff s else s

/-! ### Detectors (R241) -/

/-- The STAT bit of detector `d` and the value it has while the condition is good: 0 signal, 1 CDR lock, 2 block lock, 3 high BER, 4 alignment, 5
transmit PLL. -/
def detBit (n d : Nat) : Field :=
  match d with
  | 0 => F.LANE_LANE_STAT_SIGDET n
  | 1 => F.LANE_LANE_STAT_CDRLOCK n
  | 2 => F.LANE_LANE_STAT_BLKLOCK n
  | 3 => F.LANE_LANE_STAT_HIBER n
  | 4 => F.LANE_LANE_STAT_AMLOCK n
  | _ => F.LANE_LANE_STAT_TXPLLOCK n

def State.detGood (s : State) (n d : Nat) : Bool := if d = 3 then !s.on (detBit n 3) else s.on (detBit n d)

/-- The state of a lane whose signal is there and that has lost something else: LOCKING, or NOSIGNAL where it has no signal yet. -/
def State.fallTo (s : State) (n : Nat) : Nat := if s.get (F.LANE_LANE_STAT_STATE n) = 1 then 1 else 2

/-- A detector declares its lost condition on lane `n`: counts and interrupts, then the lane leaves UP or falls back, and the lanes of its port whose
CDR and block lock hold go on to ALIGNING (Table 9-4). -/
def State.detLost (s : State) (n d : Nat) : State :=
  let f := s.fallTo n
  let s := match d with
    | 0 =>
      let s := (s.inc (F.LANE_LANE_LOSCNT n)).raise (106 + n)
      ((s.meterOff n true).laneDown n 1).rxOff n
    | 1 => ((s.meterOff n true).laneDown n f).cdrOff n
    | 2 => ((((s.badHeaders n 16).laneDown n f).setB (F.LANE_LANE_STAT_BLKLOCK n) false)).unalign n
    | 3 => ((s.setB (F.LANE_LANE_STAT_HIBER n) true).raise 118).laneDown n f
    | 4 => (s.laneDown n f).unalign n
    | _ => ((((s.raise 119).fault 9 4).meterOff n false).laneDown n f).txOff n
  s.laneAdvance n

/-- A detector can be restored: each needs the one below it, and alignment block lock on all four lanes (R240). -/
def State.canRestore (s : State) (n d : Nat) : Bool :=
  match d with
  | 0 => true
  | 1 => s.on (F.LANE_LANE_STAT_SIGDET n)
  | 2 => s.on (F.LANE_LANE_STAT_CDRLOCK n)
  | 3 => true
  | 4 => s.aligns n && (s.alignSet n).all (fun m => s.get (F.LANE_LANE_STAT_STATE m) = 3 && s.on (F.LANE_LANE_STAT_BLKLOCK m))
  | 5 => true
  | _ => false

/-- The least of a list of arrivals; 0 for none. -/
def earliest : List Nat → Nat
  | [] => 0
  | a :: r => r.foldl min a

/-- The deskew buffer absorbs the arrivals of the lanes, in UI: no skew above 180 ns, 4,640 UI at 25.78125 Gbaud (R240). -/
def skewOk (arrivals : List Nat) : Bool := arrivals.all (fun x => x - earliest arrivals ≤ 4640)

/-- A detector is restored; alignment brings the arrivals of the port's lanes in UI, of which SKEW shows each against the earliest (R240, R242). -/
def State.detBack (s : State) (n d : Nat) (arrivals : List Nat) : State :=
  let s := if d = 3 then s.setB (detBit n 3) false
    else if d = 4 then
      let l := s.alignSet n
      let a := (List.range l.length).map (fun i => arrivals.getD i 0)
      (List.range l.length).foldl (fun s i =>
        (s.setB (F.LANE_LANE_STAT_AMLOCK (l.getD i 0)) true).setSat (F.LANE_LANE_SKEW (l.getD i 0)) (a.getD i 0 - earliest a)) s
    else s.setB (detBit n d) true
  s.laneAdvance n

/-- A lane is powered and enabled. -/
def State.laneRuns (s : State) (n : Nat) : Bool := s.past 6 && n < 10 && s.get (F.LANE_LANE_STAT_STATE n) ≠ 0

/-! ### Rate matching (R236, R238) -/

def State.setFill (s : State) (n v : Nat) : State := s.setMts { s.mts with fill := modAt s.mts.fill n (fun _ => v) }

/-- A frame in progress on a port is ended with an error control block, with no frame check sequence: it is lost, or it was stomped already and its
response waits for its locked unit interval. -/
def State.frameCut (s : State) (p : Nat) : State :=
  (s.pkt.slots.filter (fun x => x.item.port = p && x.fcs && (x.ph = .confirmed || x.ph = .missed))).foldl
    (fun s x => if x.ph ≠ .missed then s.loseSlot x else if x.wantLock then s.modSlot x.id (fun y => { y with fcs := false }) else s.dropSlot x.id) s

/-- Unit intervals from the delimiter of a heartbeat to its end: 32 words (Table 18-6). -/
def beatUi : Nat := 528

/-- The frames on lane `n`, as the unit intervals of their delimiters and of their ends: those of its port, or the latest heartbeat of a partner lane. -/
def State.framesOn (s : State) (n : Nat) : List (Nat × Nat) :=
  if n < 8 then (s.pkt.slots.filter (fun x => x.item.port = s.lanePort n)).map (fun x => (x.pos, x.pos + x.len))
  else ((at' ({} : Drover) s.rdn.lanes (n - 8)).at_.map (fun u => (u, u + beatUi))).toList

/-- A unit interval of lane `n` lies inside a frame, after its delimiter: nothing is inserted or deleted there (R236). -/
def State.inFrame (s : State) (n pos : Nat) : Bool := (s.framesOn n).any (fun f => decide (f.1 < pos) && decide (pos < f.2))

/-- The first unit interval at or after `u` at which the encoder of lane `n` sits between frames. -/
def State.gapFrom (s : State) (n u : Nat) : Nat := (s.framesOn n).foldl (fun u f => if f.1 < u ∧ u < f.2 then f.2 else u) u

/-- A fill at which the PCS does not wait for a gap (R238). -/
def recentres (fill : Nat) : Bool := decide (fill ≤ 4) || decide (28 ≤ fill)

/-- The alignment marker of a 100GBASE-R port falls due: the PCS removes the idle blocks that make room for it, so the fill stays (R236). -/
def State.atMarker (s : State) (n pos : Nat) : Bool := s.aligns n && (s.ratePlan n).marker = some pos

/-- The event in unit interval `pos` is the one that MTS predicted, in its place or in the first gap behind it; without its transmit meter MTS has no model
and misses none. -/
def State.predicted (s : State) (n pos : Nat) (ins : Bool) : Bool :=
  match (s.ratePlan n).events with
  | [] => !s.bit F.MTS_LOCKMAP n
  | e :: _ => e.2 = ins && decide (pos = e.1 ∨ pos = s.gapFrom n e.1)

/-- The delimiters on lane `n` from a unit interval on move by `d` unit intervals: a speculative slot will not be where it was scheduled, a frame without
speculative content leaves where it comes to be, and a locked slot stays (R39, R236, R238, R270). -/
def Slot.displaced (x : Slot) (d : Int) : Slot := if x.spec then { x with shift := x.shift + d } else { x with pos := jump x.pos d }
def State.displace (s : State) (n pos : Nat) (d : Int) : State :=
  s.setSlots (s.pkt.slots.map (fun x => if n < 8 && x.item.port = s.lanePort n && x.ph = .placed && decide (pos ≤ x.pos) then x.displaced d else x))

end Sys2Proof.Machine
end

