-- ==== Sys2Proof/Machine/RdnOps.lean ====
section
/-! DEFINITION. RDN's claims, heartbeats, handovers and arbiter (spec/18).  Times are TBASE times in 2^-48 ns. -/
namespace Sys2Proof.Machine

/-- A microsecond and a millisecond. -/
def US48 : Nat := 1000 * NS48
def MS48 : Nat := 1000000 * NS48

/-- The mode in force is arbiter-only. -/
def State.arbiter (s : State) : Bool := s.past 3 && s.seq.st ≠ .safe && s.rdn.mode = 2

/-- Step 3 completes: the mode of the start, the stored claims, and the role (R443 to R445, Table 18-3), which stays DOWN in safe
configuration. -/
def State.rdnStart (s : State) : State :=
  let m := s.get F.RDN_CFG_MODE
  let s := s.setRdn { s.rdn with mode := m }
  let s := (s.set F.RDN_CLAIM s.store.claim).set F.RDN_PCLAIM s.store.pclaim
  if s.seq.kind = some .safe then s else s.roleTo (if m = 0 then 5 else if m = 1 then 1 else if m = 2 then 6 else 0)

/-! ### Claims (R444, R445) -/

/-- One step of the CRC-8 of Table 18-2, most significant bit first. -/
def crc8Step (c : Nat) (b : Bool) : Nat :=
  let c2 := c * 2 % 256
  if (c / 128 = 1) ≠ b then c2 ^^^ 7 else c2

/-- The CRC of bits 1 to 20 of a frame in the order sent. -/
def claimCrc (f : Nat) : Nat := (List.range 20).foldl (fun c i => crc8Step c (f / 2 ^ (i + 1) % 2 = 1)) 0

/-- The bits of a byte in the other order. -/
def rev8 (b : Nat) : Nat := (List.range 8).foldl (fun a i => a + b / 2 ^ i % 2 * 2 ^ (7 - i)) 0

/-- A claim frame, bit i of Table 18-2 as bit i; the CRC is sent most significant bit first. -/
def claimFrame (claim : Nat) (active ready ho : Bool) (unit : Nat) : Nat :=
  let b := fun x : Bool => if x then 1 else 0
  let f := claim % 65536 * 2 + b active * 2 ^ 17 + b ready * 2 ^ 18 + b ho * 2 ^ 19 + unit % 2 * 2 ^ 20
  f + rev8 (claimCrc f) * 2 ^ 21 + 7 * 2 ^ 29

/-- The claim frame that CLM_OUT sends now. -/
def State.ownFrame (s : State) : Nat := claimFrame (s.get F.RDN_CLAIM) s.claimGate s.readyNow s.rdn.ho.isSome (s.get F.RDN_CFG_UNIT)

/-- The dual-active overlap of R456: this unit is active, and so says, for the first time with this claim, a partner whose claim is higher. -/
def State.dual (s : State) (seen : Bool) (claim flags : Nat) : State :=
  if !seen && (s.role = 3 || s.role = 4) && flags % 2 = 1 && exceeds claim (s.get F.RDN_CLAIM) then
    ((s.inc F.RDN_DUALACT).raise 253).fault 0x13 6 claim
  else s

/-- A claim frame has been decoded (R445). -/
def State.claimIn (s : State) (f : Nat) : State :=
  if f / 2 ^ 29 % 2 ≠ 1 ∨ rev8 (f / 2 ^ 21 % 256) ≠ claimCrc f then s.inc F.RDN_CLMERR
  else
    let c := f / 2 % 65536
    let fl := f / 2 ^ 17 % 16
    let old := s.get F.RDN_PCLAIM
    let s := if s.on F.RDN_STAT_CLMOK then s else (s.setB F.RDN_STAT_CLMOK true).raise 250
    let first := !s.rdn.heardClaim
    let seen := c = old && s.get F.RDN_PFLAGS % 2 = 1
    let s := s.setRdn { s.rdn with heardClaim := true }
    if c = old then (s.set F.RDN_PFLAGS fl).dual seen c fl
    else if first || exceeds c old then
      let s := (((s.set F.RDN_PFLAGS fl).set F.RDN_PCLAIM c).bump F.RDN_GEN)
      ({ s with store := { s.store with pclaim := c } }).dual seen c fl
    else s.inc F.RDN_CLMBACK

/-- The new claim of a take-over is decided and stored (R444). -/
def State.storeClaim (s : State) : State :=
  let c := s.get F.RDN_CLAIM
  let p := s.get F.RDN_PCLAIM
  let n := ((if exceeds p c then p else c) + 1) % 65536
  ({ s with store := { s.store with claim := n } }).setRdn { s.rdn with newClaim := some n }

/-! ### Handover times (R455) -/

/-- The first permitted whole microsecond at or after `t`: outside the span around every PPS edge. -/
def State.permitted (s : State) (t : Nat) : Nat :=
  let h := ceilDiv t US48 * US48
  let span := s.get F.TBASE_PPS_WIDTH * US48 + 2 * MS48
  let off : Int := s.getI F.TBASE_PPS_OFFSET * NS48 / 1000
  let phase := (((h : Int) - off + MS48) % (SEC48 : Int)).toNat
  if phase ≤ span then ((h + (span - phase)) / US48 + 1) * US48 else h

/-- A handover is scheduled, or none is. -/
def State.setHo (s : State) (h : Option Handover) : State := s.setRdn { s.rdn with ho := h }

/-- RDN_HOTIME shows H. -/
def State.showH (s : State) (h : Nat) : State := s.set F.RDN_HOTIME (h / SEC48 % 2 ^ 32 * 2 ^ 32 + h % SEC48 / NS48)

/-- A coordinated release can start (R456). -/
def State.canRelease (s : State) : Bool :=
  s.paired && s.role = 3 && s.on F.RDN_STAT_PARTNER && s.rdn.partnerReady && s.grantSt = 1

/-- A release is scheduled (R456 step 1). -/
def State.release (s : State) : State :=
  let h := s.permitted (s.now + s.get F.RDN_PREP * US48)
  ((s.setHo (some ⟨h, true, true, false, none⟩)).showH h).roleTo 4

/-- An automatic release: nothing starts where R456's conditions do not hold (R459). -/
def State.autoRelease (s : State) : State := if s.canRelease then s.release else s

/-- A handover is abandoned: 1 no heartbeat, 2 no grant, 3 the taking unit's check failed (Table 17-13). -/
def State.hoFail (s : State) (why : Nat) : State := ((s.inc F.RDN_HOFAIL).raise 252).fault 0x13 5 why

/-- This unit abandons its handover and goes back (R456 step 5). -/
def State.abandon (s : State) (why : Nat) : State :=
  let s := (s.setHo none).setRdn { s.rdn with ho := none, newClaim := none }
  let s := if s.role = 4 then s.roleTo 3 else if s.role = 2 then s.roleTo 1 else s
  s.hoFail why

/-- The partner has been heard with the same H within the 200 µs before H. -/
def Handover.heardOk (x : Handover) : Bool := x.heard.any (fun t => x.h ≤ t + 200 * US48)

/-- The old active unit at H (R456 step 6, R457, R460). -/
def State.leaveAtH (s : State) (x : Handover) : State :=
  let high := fun n => s.claimGate && s.on (F.TBASE_EVT_CFG_EN n) && decide ((s.evt n).highFrom ≤ x.h)
  let hold := (List.range 16).filterMap (fun n => (s.evt n).highUntil.bind (fun t => if high n && decide (x.h < t) then some (n, t) else none))
  let s := s.setRdn { s.rdn with ho := none, owes := true, evtHold := hold }
  ((s.roleTo 1).inc F.RDN_SWCNT).stopService

/-- The new active unit at H: its claim comes into force and the announcements begin (R456 step 6, R460). -/
def State.enterAtH (s : State) (h : Nat) (planned : Bool) : State :=
  let s := (s.set F.RDN_CLAIM (s.rdn.newClaim.getD (s.get F.RDN_CLAIM))).setRdn { s.rdn with ho := none, newClaim := none, rounds := 2, firstAnn := [0, 1], startAt := some (h, planned) }
  let s := ((s.bump F.RDN_GEN).roleTo 3).inc F.RDN_SWCNT
  (s.arpRound 0).arpRound 1

/-- H is reached (R456 to R458). -/
def State.atH (s : State) (x : Handover) : State :=
  if x.leaving then (if x.heardOk then s.leaveAtH x else s.abandon 1)
  else if !x.planned then (if s.role = 2 then s.enterAtH x.h false else s.setHo none)
  else if !x.heardOk then s.abandon 1
  else if s.role = 2 && s.grantSt = 1 && s.rdn.grantedAt.any (fun t => t + 100 * US48 ≤ x.h) then s.enterAtH x.h true
  else s.abandon 2

/-! ### The grant line (R448, R450, R458) -/

/-- A STANDBY unit decodes GRANTED: a planned take-over, or one of its own (R458). -/
def State.takeRole (s : State) : State :=
  if s.rdn.ho.any (fun x => x.planned) then s.roleTo 2
  else
    let h := s.permitted (s.now + 100 * US48)
    ((s.storeClaim.setHo (some ⟨h, false, false, false, none⟩)).showH h).roleTo 2

/-- DENIED takes the role away (Table 18-3). -/
def State.denied (s : State) : State :=
  if s.role = 3 then ((s.inc F.RDN_UNCOORD).fault 0x13 4).roleTo 1
  else if s.role = 2 then
    (if s.rdn.ho.any (fun x => x.planned) then s.abandon 2 else (s.setRdn { s.rdn with ho := none, newClaim := none }).roleTo 1)
  else s

/-- The grant line is decoded: 0 DENIED, 1 GRANTED, 2 ABSENT.  A unit that has yet to withdraw after H takes nothing (R456 step 7). -/
def State.grantIn (s : State) (g : Nat) : State :=
  let old := s.grantSt
  let s := if g = old then s
    else
      let s := (((s.set F.RDN_STAT_GNTST g).bump F.RDN_GEN).raise 251)
      let s := s.setRdn { s.rdn with wasGranted := g = 2 && old = 1, grantedAt := if g = 1 then some s.now else none }
      if g = 2 then s.fault 0x13 3 else s
  if g = 1 && s.role = 1 && !s.rdn.owes && !s.rdn.withdraw then s.takeRole else if g = 0 && g ≠ old then s.denied else s

/-! ### Heartbeats (R452, R453, R456) -/

def State.drover (s : State) (i : Nat) : Drover := at' {} s.rdn.lanes i
def State.setDrover (s : State) (i : Nat) (d : Drover) : State := s.setRdn { s.rdn with lanes := modAt s.rdn.lanes i (fun _ => d) }

/-- Drover runs on partner lane `i`. -/
def State.droverOn (s : State) (i : Nat) : Bool := s.paired && i < 2 && s.bit F.RDN_CFG_LANEMASK i && s.laneUp (8 + i)

/-- The time of a stamp in eight words; arbitrary where no stamp was made. -/
def State.stampWords (s : State) (t : Option Nat) : List Word × State :=
  match t with
  | some t => (timeWords t, s)
  | none => let r := s.freeNat; (wordsOf r.1 8, r.2)

/-- The heartbeat on lane `i` (Table 18-6) with its delimiter in unit interval `pos`, and the measured transmit stamp of it, which the next one carries. -/
def State.beat (s : State) (i pos : Nat) : State :=
  let d := s.drover i
  let (tw, s) := s.stampWords d.tx
  let (rw, s) := s.stampWords d.rx
  let b := fun x : Bool => if x then 1 else 0
  let h := (s.rdn.ho.map (fun x => x.h / SEC48 % 2 ^ 32 + x.h % SEC48 / NS48 * 2 ^ 32)).getD 0
  let w1 := s.get F.RDN_CFG_UNIT + s.role * 2 + b s.readyNow * 16 + b s.rdn.ho.isSome * 32 + b (s.rdn.ho.any (fun x => !x.leaving && x.acked)) * 64
    + s.get F.PKT_SVC_STATE * 256 + s.active * 4096
  let ws := [w16 0x11, w16 w1, w16 (s.get F.RDN_CLAIM), w16 d.seq] ++ tw ++ rw ++ wordsOf (s.get F.EBND_COMMON) 3 ++ wordsOf h 4 ++ [0, 0, 0]
  let crc := crc32 (ws.flatMap (fun w => [w.toNat % 256, w.toNat / 256]))
  let (s, t) := s.txMeasure (8 + i) pos
  s.setDrover i { d with seq := (d.seq + 1) % 65536, tx := t, txOld := d.tx, sent := ws ++ wordsOf crc 2, at_ := some pos }

/-- The one of two of our transmit stamps that the partner's receive stamp belongs to: the nearer one. -/
def nearer (rx : Nat) (a b : Option Nat) : Option Nat :=
  match a, b with
  | some x, some y => if ((x : Int) - rx).natAbs ≤ ((y : Int) - rx).natAbs then some x else some y
  | some x, none => some x
  | none, y => y

/-- The REF11 measurement of a heartbeat received at `t2` (R453), with t1 and t2 of the partner's previous heartbeat, ps. -/
def Drover.measure (d : Drover) (hb : Heartbeat) : Option Int :=
  if d.rxSeq = some ((hb.seq + 65535) % 65536) then
    match hb.tx, d.rx, hb.rx with
    | some t1, some t2, some t4 => (nearer t4 d.tx d.txOld).map (fun t3 => toPs ((((t2 : Int) - t1) - ((t4 : Int) - t3)) / 2))
    | _, _, _ => none
  else none

/-- The taking unit's check of a release that its partner has scheduled (R456 step 2). -/
def State.hoCheck (s : State) (hb : Heartbeat) : State :=
  if s.readyNow && decide (s.now + 100 * US48 ≤ hb.h) then
    (s.storeClaim.setHo (some ⟨hb.h, false, true, true, none⟩)).showH hb.h
  else if s.rdn.refused = some hb.h then s
  else (s.setRdn { s.rdn with refused := some hb.h }).hoFail 3

/-- The handover fields of a heartbeat (R456). -/
def State.hoHear (s : State) (hb : Heartbeat) : State :=
  let s := if hb.handover && hb.role = 4 && s.role = 1 && s.rdn.ho.isNone then s.hoCheck hb else s
  match s.rdn.ho with
  | none => s
  | some x =>
    if hb.h = x.h && (hb.handover || hb.ack) then
      let x := { x with heard := some s.now }
      if x.leaving && hb.ack && !x.acked then s.setRdn { s.rdn with ho := some { x with acked := true }, pulse := true }
      else s.setHo (some x)
    else s

/-- A valid heartbeat is received on partner lane `i`. -/
def State.beatIn (s : State) (i : Nat) (hb : Heartbeat) (m : MeterPoint) : State :=
  let s := if s.on F.RDN_STAT_PARTNER then s else (s.setB F.RDN_STAT_PARTNER true).raise 249
  let (s, t) := s.rxMeasure (8 + i) m
  let d := s.drover i
  let s := ((d.measure hb).elim s (fun ps => if s.past 6 then s.refOffset 11 ps else s)).setDrover i { d with rxSeq := some hb.seq, rx := t }
  let s := s.setSat F.RDN_PBOUND hb.bound
  (s.setRdn { s.rdn with partnerReady := hb.ready }).hoHear hb

/-! ### The mirror (R454) -/

/-- The standby takes a mirrored grant record: it is committed to the entry with the same key, and its stream is kept for a take-over. -/
def State.mirrorIn (s : State) (k : Key) (type record : Nat) : State :=
  match s.findKey k with
  | none => s
  | some n =>
    let s := s.pushCommit (.grant n (s.eGen n) type record (s.eGet n 0xA0 10))
    let ty := [11, 0, 9].getD type 11
    let rest := s.pkt.grants.filter (fun y => !(y.entry = n && y.type = ty))
    if s.grantLive n record then
      let port := if s.portMode = 1 then k.group else k.group * 4 + record / 256 % 4
      s.setGrants (rest ++ [⟨n, ty, k.group, port, min 2 k.atype, toSigned 4 (record / 16 % 16), record / 2 ^ 32 % 2 ^ 48, record / 65536 % 65536⟩])
    else s.setGrants rest

/-! ### The arbiter (R451) -/

/-- The holder of an arbiter state of Table 18-5. -/
def holderOf (st : Nat) : Option Nat := if st = 1 ∨ st = 3 then some 0 else if st = 2 ∨ st = 4 then some 1 else none

/-- The arbiter changes state: a unit that was not the holder becomes it, or not. -/
def State.arbTo (s : State) (st : Nat) : State :=
  let old := s.get F.RDN_ARBSTAT_STATE
  if st = old then s
  else
    let s := if (holderOf st).isSome && holderOf st ≠ holderOf old then s.inc F.RDN_ARBCNT else s
    ((s.set F.RDN_ARBSTAT_STATE st).bump F.RDN_GEN).raise 254

/-- The request field of unit `u`. -/
def arbReqF (u : Nat) : Field := if u = 0 then F.RDN_ARBSTAT_REQ0 else F.RDN_ARBSTAT_REQ1

/-- A request is withdrawn. -/
def State.arbWithdraw (s : State) (u : Nat) : State :=
  let st := s.get F.RDN_ARBSTAT_STATE
  let s := s.setB (arbReqF u) false
  if st = u + 1 then s.arbTo 0
  else if st = 3 then s.arbTo (if u = 0 then 2 else 1)
  else if st = 4 then s.arbTo (if u = 1 then 1 else 2)
  else s

/-- The holder's handover pulse, while the other requests. -/
def State.arbPulse (s : State) (u : Nat) : State :=
  if s.get F.RDN_ARBSTAT_STATE = u + 1 && s.on (arbReqF (1 - u)) then s.arbTo (u + 3) else s

end Sys2Proof.Machine
end

