-- ==== Sys2Proof/Machine/FcolOps.lean ====
section
/-! DEFINITION. FCOL: fault messages, domains, FLT_CRIT, fences and the Ledger (spec/17). -/
namespace Sys2Proof.Machine

def State.setFcol (s : State) (f : Fcol) : State := { s with fcol := f }
def State.setLedger (s : State) (l : Ledger) : State := { s with ledger := l }

/-! ### Messages (R415 to R421, R426) -/

/-- The domain of a source (Table 17-2). -/
def domainOf (src : Nat) : Nat := [3, 3, 0, 0, 0, 0, 0, 0, 0, 1, 1, 1, 1, 2, 0, 3, 3, 3, 3, 3].getD src 3

/-- The class of a message (R421), and whether it is privileged (R426). -/
def FMsg.cls (m : FMsg) : Nat := m.src * 16 + m.kind
def State.privileged (s : State) (m : FMsg) : Bool := s.on (F.FCOL_CLS_CFG_CRIT m.cls)

/-- The CTRL island's time is valid (R417). -/
def State.tvalid (s : State) : Bool := s.on F.TBASE_STAT_TIMESET && s.bit F.TBASE_BCNSTAT_VALID 3

/-- The sixteen words of a message as FCOL holds it (Table 17-1). -/
def State.msgWords (s : State) (m : FMsg) : List Word :=
  let b := fun (x : Bool) (v : Nat) => if x then v else 0
  let tv := s.tvalid && !m.held
  [w16 (m.src + m.kind * 256), w16 (domainOf m.src + b (s.privileged m) 4 + b tv 8 + b (m.master ≠ 0) 16 + b m.addr.isSome 32)]
    ++ wordsOf m.detail 2 ++ [w16 (m.master + m.acc * 256)] ++ wordsOf (m.addr.getD 0) 3
    ++ wordsOf (if tv then time128 ((at' {} s.tb.islands 3).local 3 s.tb.ticks) else 0) 8

/-! ### Domains (R422 to R424) -/

def State.dom (s : State) (d : Nat) : Dom := at' {} s.fcol.doms d
def State.setDom (s : State) (d : Nat) (x : Dom) : State := s.setFcol { s.fcol with doms := modAt s.fcol.doms d (fun _ => x) }

/-- A message of a domain: its pin stops, its quiet period restarts. -/
def State.domainHit (s : State) (d c : Nat) : State :=
  let x := s.dom d
  match x.st with
  | .alive => (((s.setDom d { st := .faulted, quiet := false, classes := [c] }).episode d).raise 235)
  | .down => s.setDom d { x with quiet := false, classes := insertNat x.classes c }
  | .faulted | .clearable => s.setDom d { st := .faulted, quiet := false, classes := insertNat x.classes c }

/-- A recovery counter counts once; as it saturates, source 242 and a message (Table 17-10). -/
def State.recCount (s : State) (c : Nat) : State :=
  if s.get (F.FCOL_RCNT c) = 0xFFFF then s
  else
    let s := s.inc (F.FCOL_RCNT c)
    if s.get (F.FCOL_RCNT c) = 0xFFFF then (s.raise 242).fault 0x12 6 c else s

/-- A domain recovers or is cleared (R423): recovery counters, the end of fences with the platform domain (R431), source 236. -/
def State.recover (s : State) (d : Nat) : State :=
  let cs := (s.dom d).classes
  let s := (s.setDom d { st := .alive, quiet := true, classes := [] }).raise 236
  let s := if d = 3 then (s.set F.FCOL_FENCEMAP 0).acqNext else s
  cs.foldl State.recCount s

/-- A domain's quiet period elapses (Table 17-4). -/
def State.quietEnd (s : State) (d : Nat) : State :=
  let x := s.dom d
  match x.st with
  | .faulted =>
    if s.on F.FCOL_CTRL_COMPAT then (s.setDom d { x with st := .clearable, quiet := true }).raise 243 else s.recover d
  | _ => s.setDom d { x with quiet := true }

/-- Domain `d` is CLEARABLE, or FAULTED. -/
def State.clearable (s : State) (d : Nat) : Bool := (s.dom d).st = DomSt.clearable
def State.faultedDom (s : State) (d : Nat) : Bool := (s.dom d).st = DomSt.faulted

/-- Clears of the domains of a map: those CLEARABLE are cleared (R424). -/
def State.clearDomains (s : State) (m : Nat) : State :=
  (List.range 4).foldl (fun s d => if m / 2 ^ d % 2 = 1 && s.clearable d then s.recover d else s) s

/-- The number whose bit `d` is `f d`, for four domains. -/
def domMap (f : Nat → Bool) : Nat := (List.range 4).foldl (fun a d => if f d then a + 2 ^ d else a) 0

/-- FCOL_DOMSTAT and FCOL_LOGFILL follow. -/
def State.showFcol (s : State) : State :=
  let f := domMap (fun d => s.faultedDom d || s.clearable d)
  let q := domMap (fun d => (s.dom d).quiet)
  let a := domMap (fun d => (s.dom d).st = DomSt.alive)
  (((s.set F.FCOL_DOMSTAT_FAULT f).set F.FCOL_DOMSTAT_QUIET q).set F.FCOL_DOMSTAT_ALIVE a).set F.FCOL_LOGFILL s.fcol.log.length

/-- What follows a change of FCOL's configuration: with COMPAT 0 every CLEARABLE domain recovers (R424). -/
def fcolPost (_ s : State) : State :=
  if s.on F.FCOL_CTRL_COMPAT then s else s.clearDomains 15

/-! ### FLT_CRIT (R427) -/

/-- FLT_CRIT is high while the pulse runs or LATCH is set, but not driven in safe configuration (R428). -/
def State.critPin (s : State) : State := s.setB F.FCOL_CRIT_PIN (s.seq.st ≠ .safe && (s.on F.FCOL_CRIT_PULSE || s.on F.FCOL_CRIT_LATCH))

/-- A privileged message: count, source 237, the pulse, the latch; with CRITREL set a coordinated release (R459). -/
def State.crit (s : State) : State :=
  let s := (((s.setFcol { s.fcol with privAt := some s.tb.ticks }).inc F.FCOL_CRITCNT).raise 237).setB F.FCOL_CRIT_PULSE true
  let s := (if s.on F.FCOL_CTRL_CRITHOLD then s.setB F.FCOL_CRIT_LATCH true else s).critPin
  if s.on F.RDN_CFG_CRITREL then s.autoRelease else s

/-- A clear of LATCH, and whether it is applied.  A privileged message in the same CTRL cycle wins: LATCH stays set and the clear is refused (R425).
A TCORE tick is longer than a CTRL cycle, so whether a message of this tick or the last falls in the same cycle is a free value (log entry 9). -/
def State.latchClear (s : State) : State × Bool :=
  let clear := fun (s : State) => ((s.setB F.FCOL_CRIT_LATCH false).critPin, true)
  if s.fcol.privAt.any (fun k => s.tb.ticks ≤ k + 1) then
    let x := s.freeNat
    if x.1 % 2 = 1 then clear x.2 else (x.2, false)
  else clear s

/-! ### The Ledger (R433, R436 to R439) -/

/-- A message is admitted to the event ring or suppressed (R436). -/
def State.ledgerTake (s : State) (num : Nat) (ws : List Word) (priv : Bool) : State :=
  let f := s.fcol
  if 1000 ≤ f.bucket then
    s.setFcol { f with bucket := f.bucket - 1000, privSec := if priv then f.privSec + 1 else f.privSec, toWrite := f.toWrite ++ [(num, ws)] }
  else if priv && f.privSec < 16 then s.setFcol { f with privSec := f.privSec + 1, toWrite := f.toWrite ++ [(num, ws)] }
  else s.incRaise F.FCOL_LDGSUPPR 241

/-- The address of a record of the event ring, and its 4 KiB block of the MRAM. -/
def ledgerBlock (pos : Nat) : Nat := (0x100000 + pos * 48) / 4096

/-- The oldest number in the event ring. -/
def State.ledgerOldest (s : State) : Nat := (s.ledger.events.map (fun r => r.num)).foldl (fun a n => if a = 0 || n < a then n else a) 0

/-- The Ledger's registers follow it. -/
def State.showLedger (s : State) : State :=
  ((s.set F.FCOL_LDGOLDEST s.ledgerOldest).set F.FCOL_LDGSTAT_SPARE s.ledger.spare).setSat F.FCOL_LDGWEAR s.ledger.wear

/-- The next admitted message is written to the event ring; `good` is the read-back check of the first write. -/
def State.ledgerWrite (s : State) (good : Bool) : State :=
  match s.fcol.toWrite with
  | [] => s
  | (num, ws) :: rest =>
    let s := s.setFcol { s.fcol with toWrite := rest }
    let l := s.ledger
    let r : LedgerRec := ⟨num, ws, satNat 16 (num - l.maxNum - 1), good || l.spare ≠ 0⟩
    let evs := (if l.events.length < 65536 then l.events else l.events.drop 1) ++ [r]
    let wear := if l.wp = 0 then l.wear + 1 else l.wear
    let blk := ledgerBlock l.wp
    let remap := !good && l.spare ≠ 0
    let s := s.setLedger { l with events := evs, wp := (l.wp + 1) % 65536, maxNum := max l.maxNum num, wear := wear,
                                  spare := if remap then l.spare - 1 else l.spare, remap := if remap then Machine.insertKey l.remap blk (112 - l.spare) else l.remap }
    let s := if remap then (s.raise 240).fault 0x12 4 blk else s
    let s := if (wear = 360000001 && l.wear ≠ wear) || (remap && l.spare = 1) then (s.raise 240).fault 0x12 5 else s
    s.showLedger

/-- A summary is written to the next summary slot (R437). -/
def State.ledgerSummary (s : State) : State :=
  let l := s.ledger
  let x : Summary := ⟨l.nextSlot, l.counts, l.intervals, l.powered, l.starts, l.holdSecs, l.temps, l.maxNum⟩
  s.setLedger { l with summaries := l.summaries.filter (fun y => y.slot ≠ l.nextSlot) ++ [x], nextSlot := (l.nextSlot + 1) % 128 }

/-- Step 4 (R438): the lifetime counts are those of the newest summary and of every record newer than it; the histograms and the seconds are those
of the newest summary; bad records among the last `k` are counted, among all of them in a cold start. -/
def State.ledgerScan (s : State) (k : Nat) : State :=
  let l := s.ledger
  let x := l.summaries.getLast?.getD ⟨0, [], [], 0, [], 0, [], 0⟩
  let cls := fun r : LedgerRec => let w := (r.words.getD 0 0).toNat; w % 32 * 16 + w / 256
  let cs := (l.events.filter (fun r => r.ok && x.maxNum < r.num)).foldl (fun m r => Machine.store 0 m (cls r) (satNat 32 (look 0 m (cls r) + 1))) x.counts
  (s.setLedger { l with counts := cs, intervals := x.intervals, episodes := l.episodes.map (fun e => e.map (min x.powered)), powered := x.powered,
                        holdSecs := x.holdSecs, temps := x.temps }).setSat F.FCOL_LDGSTAT_BADREC ((l.events.drop (l.events.length - k)).filter (fun r => !r.ok)).length

/-- One more message in a class's lifetime count. -/
def State.countClass (s : State) (c : Nat) : State :=
  let l := s.ledger
  s.setLedger { l with counts := Machine.store 0 l.counts c (satNat 32 (look 0 l.counts c + 1)) }

/-- The 24 words of an event record (Table 17-7). -/
def LedgerRec.out (r : LedgerRec) : List Word :=
  let ws := r.words ++ wordsOf r.num 3 ++ [w16 r.suppressed, 0, 0]
  ws ++ wordsOf (crc32 (ws.flatMap (fun w => [w.toNat % 256, w.toNat / 256]))) 2

/-- The readable record with the lowest number at or after `n`; records are held in ascending number. -/
def State.recordFrom (s : State) (n : Nat) : Option LedgerRec := s.ledger.events.find? (fun r => r.ok && n ≤ r.num)

/-- Up to `k` records from number `n`. -/
def State.recordsFrom (s : State) (n k : Nat) : List LedgerRec := (s.ledger.events.filter (fun r => r.ok && n ≤ r.num)).take k

/-! ### Handling a message (R416, R432 to R434) -/

/-- The message becomes the first-error record where none is held. -/
def State.firstError (s : State) (num : Nat) (ws : List Word) : State :=
  if s.on F.FCOL_FIRSTSTAT then s
  else
    let s := (List.range 16).foldl (fun s i => s.set (F.FCOL_FIRST i) (ws.getD i 0).toNat) s
    ((s.set F.FCOL_FIRSTNUM num).setB F.FCOL_FIRSTSTAT true).raise 232

/-- The message enters the log ring. -/
def State.logMsg (s : State) (num : Nat) (ws : List Word) : State :=
  if s.fcol.log.length < 128 then s.setFcol { s.fcol with log := s.fcol.log ++ [(num, ws)] } else (s.inc F.FCOL_LOGOVF).raise 234

/-- FCOL handles a message. -/
def State.handle (s : State) (m : FMsg) : State :=
  let ws := s.msgWords m
  let num := s.get F.FCOL_LDGNEXT
  let priv := s.privileged m
  let s := s.set F.FCOL_LDGNEXT (num + 1)
  let s := ((s.firstError num ws).logMsg num ws).countClass m.cls
  let s := (s.ledgerTake num ws priv).domainHit (domainOf m.src) m.cls
  if priv then s.crit else s

/-- The message at place `i` of those on their way, unless its sender formed another at an earlier tick. -/
def State.arrives (s : State) (i : Nat) : Option FMsg :=
  match s.fcol.inflight[i]? with
  | none => none
  | some m => if (s.fcol.inflight.take i).any (fun x => x.src = m.src && x.sent < m.sent) then none else some m

/-- FCOL starts at the end of step 3: the numbering, the held messages, and the losses at SEQ's store (R77, R433). -/
def State.fcolStart (s : State) : State :=
  let st := s.store
  let s := { s with store := { st with held := [], heldLost := 0 } }
  let s := (s.set F.FCOL_LDGNEXT (s.ledger.maxNum + 1)).showLedger
  let s := s.setFcol { s.fcol with running := true, inflight := st.held, unrep := Machine.store 0 s.fcol.unrep 0 st.heldLost }
  (s.setSat F.FCOL_LOST (s.get F.FCOL_LOST + st.heldLost)).reportLosses

/-- FCOL's millisecond: the admission bucket and the Ledger's seconds. -/
def State.fcolTick (s : State) : State :=
  let f := s.fcol
  let sec := 999 ≤ f.ms
  let s := s.setFcol { f with bucket := min 256000 (f.bucket + s.get F.FCOL_LEDGERMAX), ms := if sec then 0 else f.ms + 1,
                              privSec := if s.tb.time % SEC48 < MS48 then 0 else f.privSec }
  if sec then
    let l := s.ledger
    let t := s.getI F.PSU_TJ
    let bin := min 31 (((t + 320) / 40).toNat)
    s.setLedger { l with powered := l.powered + 1, holdSecs := if s.on F.HOLD_STAT_HOLDOVER then l.holdSecs + 1 else l.holdSecs,
                         temps := Machine.store 0 l.temps bin (look 0 l.temps bin + 1) }
  else s

/-! ### Fences (R429 to R431) -/

/-- The FENCEMAP bit of a fenceable master (Table 17-3). -/
def fenceBit (m : Nat) : Option Nat :=
  if 1 ≤ m ∧ m ≤ 4 then some (m - 1) else if m = 0x0B then some 4 else if m = 0x0C then some 5 else if m = 0x14 then some 6
  else if m = 0x15 then some 7 else none

/-! ### The Ledger dump (R442) -/

/-- The dump ends; its engine is free. -/
def State.dumpEnd (s : State) : State := s.setFcol { s.fcol with dump := none }

/-- The dump copies its next item to Ledger dump staging.  The spec gives a summary no byte layout, so its bytes are open. -/
def State.dumpStep (s : State) (d : LdgDump) : State :=
  let fin' := fun (s : State) (n k : Nat) =>
    let d := { d with next := n, left := d.left - 1, done := k }
    let last := d.total ≤ k || (s.takenAt d.wb.ring d.wb.slot).any (fun t => t.stopReq)
    (s.setFcol { s.fcol with dump := some d }).longStep d.wb k d.total (if last then wordsOf k 2 else []) State.dumpEnd
  if d.summary then
    let r := s.freeNat
    fin' (r.2.memPut ldgBase 4096 r.1) 0 1
  else match s.recordFrom d.next with
    | some r => fin' (s.memPut (ldgBase + d.done * 48) 48 (ofWords r.out)) (r.num + 1) (d.done + 1)
    | none => (s.finish d.wb .done .ok 0xFFFF (wordsOf d.done 2)).dumpEnd

end Sys2Proof.Machine
end

