-- ==== Sys2Proof/Machine/Gnss.lean ====
section
/-! DEFINITION. The commands of GNSS (spec/08). -/
namespace Sys2Proof.Machine

/-- An event of the running GNSS island. -/
def gnssEvent (c : Bool) (s : State) (f : State → State) : Res := if s.gnssRuns && c then fin (f s) else .next s

/-- R216, R226: a measurement epoch whose strobe arrives at TBASE time `t` (2^-48 ns); its observables, and what MGMT computes from them. -/
def execGnssEpoch (t : Nat) (obs : List GnssObs) (fix : Option GnssFix) (s : State) : Res :=
  gnssEvent true s fun s =>
    let cost := 2 * s.portPeriod + 32 * NS48 / 10
    let g := { s.gnss with epochSeq := (s.gnss.epochSeq + 1) % 65536, capture := t - cost }
    let s := s.setGnss { g with capSet := s.on F.TBASE_STAT_TIMESET, capStep := s.get F.TBASE_STEPCNT % 256 }
    let s := (List.range 64).foldl (State.chObserve obs s.epochRate) s
    match fix with
    | some x => s.gnssSolve x
    | none => s

/-- R213: the port B elastic buffer reaches `fill`, 4 or 60, and is recentred. -/
def execGnssElasticSlip (fill : Nat) (s : State) : Res :=
  gnssEvent (s.on F.GNSS_CTRL_DUAL && s.on F.GNSS_STAT_ACTB && (fill = 4 || fill = 60)) s fun s =>
    (((s.set F.GNSS_ELAST 32).dropB.inc F.GNSS_SLIPCNT).raise 87).fault 8 3

/-- R214: a port clock shows no edge for 1 µs. -/
def execGnssPortClockLoss (portB : Bool) (s : State) : Res :=
  hwAfter 7 s fun s =>
    if portB then
      if s.on F.GNSS_STAT_ACTB then
        let s := ((s.setB F.GNSS_STAT_ACTB false).raise 89).fault 8 2
        if s.on F.GNSS_CTRL_DUAL then s.dropB.setB F.GNSS_STAT_SINGLEFB true else s
      else s
    else if s.on F.GNSS_STAT_ACTA then
      (((s.setB F.GNSS_STAT_ACTA false).raise 88).fault 8 1).gnssStop
    else s

/-- R214: a port clock has been present for 100 ms; with port A the island is reset and makes a GNSS start, `ephAge` and `almAge` being the ages of
MGMT's youngest ephemeris (minutes) and of its almanac (days) at that moment. -/
def execGnssPortClockReturn (portB : Bool) (ephAge almAge : Nat) (s : State) : Res :=
  hwAfter 7 s fun s =>
    if portB then if s.on F.GNSS_STAT_ACTB then s else (s.setB F.GNSS_STAT_ACTB true).raise 89
    else if s.on F.GNSS_STAT_ACTA then s
    else ((((s.setB F.GNSS_STAT_ACTA true).raise 88).gnssReset).gnssAges ephAge almAge).gnssStart

/-- R219, R220: the last transform of a PRN completes. -/
def execPrnSearchDone (x : AcqCell) (s : State) : Res := gnssEvent s.gnss.job.isSome s fun s => s.acqStep x

/-- R221: a channel in PULLIN or LOST locks. -/
def execGnssChannelLock (c : Nat) (s : State) : Res := gnssEvent (c < 64 && (s.chState c = 1 || s.chState c = 4)) s fun s => s.chTo c 2

/-- R221: bit and frame or page synchronisation. -/
def execGnssNavSync (c : Nat) (s : State) : Res := gnssEvent (c < 64 && s.chState c = 2) s fun s => s.chTo c 3

/-- R221: pull-in does not lock within 1 s. -/
def execGnssPullinTimeout (c : Nat) (s : State) : Res := gnssEvent (c < 64 && s.chState c = 1) s fun s => s.chIdle c

/-- R221: low C/N0 for 1 s, or no phase lock for 200 ms. -/
def execGnssLossOfLock (c : Nat) (s : State) : Res :=
  gnssEvent (c < 64 && (s.chState c = 2 || s.chState c = 3)) s fun s => s.chTo c 4

/-- R221: no lock within GNSS_REACQ. -/
def execGnssReacqTimeout (c : Nat) (s : State) : Res := gnssEvent (c < 64 && s.chState c = 4) s fun s => s.chIdle c

/-- R222: a search for signal B ends, locked or not. -/
def execSignalBHandover (c : Nat) (locked : Bool) (s : State) : Res :=
  gnssEvent (c < 64 && s.chState c = 3 && s.on F.GNSS_CTRL_DUAL && s.on F.GNSS_STAT_ACTB) s fun s => s.setB (F.GNSS_CH_STAT_BTRK c) locked

/-- R222: signal B loses lock; signal A goes on. -/
def execSignalBLoss (c : Nat) (s : State) : Res :=
  gnssEvent (c < 64 && s.on (F.GNSS_CH_STAT_BTRK c)) s fun s => s.setB (F.GNSS_CH_STAT_BTRK c) false

/-- R223, R224: the spectrum and J/N of a band: samples of its port before the notches, the mean power after them, the lines of the spectrum. -/
def execGnssSpectrum (band : Nat) (pre : List Nat) (post : Nat) (lines : List SpecLine) (s : State) : Res :=
  gnssEvent (band = 0 || (band = 1 && s.on F.GNSS_CTRL_DUAL && s.on F.GNSS_STAT_ACTB)) s fun s =>
    let s := (List.range 4).foldl (fun s i => s.notchTrack lines (band * 4 + i)) s
    let s := s.setGnss { s.gnss with runs := s.gnss.runs.filter (fun p => p.1 / 4294967296 ≠ band || lines.any (fun l => l.line = p.1 % 4294967296)) }
    (lines.foldl (State.notchLine band) s).jamUpdate band (s.bandPower band pre) post

/-- R225, R229: a navigation unit of a signal that is locked, and the leap announcement it carries.  The channel checks it. -/
def execNavUnitDecoded (c : Nat) (sigB : Bool) (words : List Word) (leap : Option LeapAnn) (s : State) : Res :=
  gnssEvent (c < 64 && s.chState c = 3 && (!sigB || s.on (F.GNSS_CH_STAT_BTRK c))) s fun s =>
    let x := s.gch c
    let type := s.navType c sigB
    let pass := navPass type words
    let u : NavUnit := ⟨sigB, type, pass, x.navSeq, (List.range 20).map (fun i => words.getD i 0)⟩
    let keep := (u :: x.units)
    let units := (keep.filter (fun u => u.sigB)).take 4 ++ (keep.filter (fun u => !u.sigB)).take 4
    let s := s.setGch c { x with units := units, navSeq := (x.navSeq + 1) % 65536 }
    if pass then
      let s := s.inc (F.GNSS_CH_NAVOK c)
      match leap with
      | some a => s.leapHeard (s.get (F.GNSS_CH_STAT_SYS c) * 64 + s.get (F.GNSS_CH_STAT_PRN c)) a
      | none => s
    else s.incRaise (F.GNSS_CH_NAVBAD c) 86

/-- R228: survey-in ends with the averaged ECEF position in cm. -/
def execSurveyComplete (x y z : Int) (s : State) : Res :=
  gnssEvent (s.get F.GNSS_POSMODE_MODE = 0) s fun s =>
    let w := fun v : Int => ofSigned 32 (satSigned 32 v)
    let s := (s.set F.GNSS_POS (w x + w y * 2 ^ 32 + w z * 2 ^ 64)).set F.GNSS_POSMODE_MODE 1
    let a := F.GNSS_POSMODE.addr
    let saved := (List.range 7).foldl (fun m i => insertKey m (a + 2 * i) (s.rd (a + 2 * i))) s.store.saved
    let s := { s with store := { s.store with saved := saved } }
    ((s.setB F.GNSS_SOLSTAT_SURVEYING false).bump F.GNSS_GEN).raise 90

/-- R224: the 100 ms of GNSS_NFCAL end with the mean noise powers of ports A and B in 1/256; the generation is checked as the reference is stored
(R46, R374). -/
def execNfcalComplete (a b : Word) (s : State) : Res :=
  match s.gnss.nfcal with
  | none => .next s
  | some (h, g) => gnssEvent true s fun s =>
    let nf := s.on F.GNSS_STAT_NFVALID
    let r := [(a, 0), (b, 1)].map (fun x => w16 (if nf then jnOf x.1.toNat (s.noiseRef x.2) else 0))
    let s := s.setGnss { s.gnss with nfcal := none }
    genCheck F.GNSS_GEN g h s fun s =>
    let saved := insertKey (insertKey s.store.saved F.GNSS_JNA.addr a) F.GNSS_JNB.addr b
    let s := { s with store := { s.store with saved := saved } }
    let s := (s.setB F.GNSS_STAT_NFVALID true).bump F.GNSS_GEN
    s.done h (w16 (s.get F.GNSS_GEN) :: r)

/-- The sample rate and the band centres are within R212. -/
def fskOk (dual : Bool) (k : Nat) (ifa ifb : Int) : Bool :=
  decide ((if dual then 20 else 4) ≤ k ∧ k ≤ 80 ∧ ifa.natAbs * 4 ≤ k * 1023000 ∧ ifb.natAbs * 4 ≤ k * 1023000)

/-- R233: GNSS_CFG. -/
def execGnssCfg (h : WbHead) (ps : List Word) (s : State) : Res :=
  runOp 0x4000 false h ps s fun s =>
    genCheck F.GNSS_GEN (param s ps 0) h s fun s =>
      if fskOk (param s ps 1 / 2 % 2 = 1) (param s ps 2) (paramI s ps 5 2) (paramI s ps 7 2) then
        cfgOp F.GNSS_GEN (param s ps 0 1) (cfgValues s ps 1 [F.GNSS_CTRL.addr, F.GNSS_FSK.addr, F.GNSS_PORTA_CFG.addr, F.GNSS_PORTB_CFG.addr,
          F.GNSS_IFA.addr, F.GNSS_IFB.addr, F.GNSS_IBB.addr, F.GNSS_IBBUNC.addr, F.GNSS_JNLIM.addr, F.GNSS_CN0MIN.addr, F.GNSS_REACQ.addr])
          gnssPost h s
      else s.waybillErr 8 h

/-- R219: GNSS_ACQUIRE. -/
def execGnssAcquire (h : WbHead) (ps : List Word) (s : State) : Res :=
  runOp 0x4040 true h ps s fun s =>
    let sys := param s ps 0
    let mask := paramN s ps 1 3
    let tc := param s ps 4
    let k := param s ps 5
    let n := if sys = 0 then 32 else 36
    if 2 ≤ sys ∨ 2 ^ n ≤ mask ∨ ¬ (if sys = 0 then 1 ≤ tc ∧ tc ≤ 10 else tc = 4 ∨ tc = 8) ∨ 200 < k ∨ 50000 < param s ps 6
        ∨ 400 < param s ps 8 ∨ 2 ≤ param s ps 9 then s.waybillErr 8 h
    else
      let j := mkJob (some h) (sys = 1) (maskPrns mask n) tc k (param s ps 6 1) (paramI s ps 7 1) (param s ps 8 1) (param s ps 9 1 = 1)
      if j.prns.isEmpty ∨ k = 0 then (((s.finish h .done .ok 0xFFFF []).inc F.GNSS_ACQCNT).raise 80)
      else if s.gnss.host.isSome then (s.failed h .busy)
      else if s.gnss.job.isNone && s.gnssRuns && !s.bit F.FCOL_FENCEMAP 7 then
        ((s.acceptLong h 0x4040 .running).setGnss { s.gnss with job := some j }).setB F.GNSS_STAT_ACQBUSY true
      else (s.acceptLong h 0x4040 .queued).setGnss { s.gnss with host := some j }

/-- The queued host search ends ABORTED without having run. -/
def State.acqDrop (s : State) (status : Status) : State :=
  match s.gnss.host with
  | none => s
  | some j =>
    let s := s.setGnss { s.gnss with host := none }
    match j.wb with
    | some h => ((s.finish h .aborted status 0 []).inc F.GNSS_ACQCNT).raise 80
    | none => s

/-- The host search ends ABORTED, queued or running (R219). -/
def State.acqStop (s : State) : State :=
  let s := s.acqDrop .stopped
  if s.gnss.job.any (fun j => j.wb.isSome) then s.acqEnd .aborted .stopped else s

/-- R233: GNSS_ACQSTOP. -/
def execGnssAcqstop (h : WbHead) (ps : List Word) (s : State) : Res := runOp 0x4080 false h ps s fun s => s.acqStop.done h

/-- R233: GNSS_POSCFG. -/
def execGnssPoscfg (h : WbHead) (ps : List Word) (s : State) : Res :=
  runOp 0x40C0 false h ps s fun s =>
    cfgOp F.GNSS_GEN (param s ps 0) (cfgValues s ps 1 [F.GNSS_POSMODE.addr, F.GNSS_POS.addr, F.GNSS_POSUNC.addr, F.GNSS_SURVEY.addr,
      F.GNSS_RAIMLIM.addr, F.GNSS_WNBASE.addr]) posPost h s

/-- The words of one channel in GNSS_OBSREAD; those of signal B are zero without BTRK. -/
def State.obsWords (s : State) (c : Nat) : List Word :=
  s.rd (F.GNSS_CH_STAT c).addr :: (List.range 16).map (fun i => if i < 8 || s.on (F.GNSS_CH_STAT_BTRK c) then (s.gch c).obs.getD i 0 else 0)

/-- R233: GNSS_OBSREAD. -/
def execGnssObsread (h : WbHead) (ps : List Word) (s : State) : Res :=
  runOp 0x4100 false h ps s fun s =>
    let c := param s ps 0
    let n := param s ps 1
    if 16 < n ∨ 64 < c + n ∨ 64 ≤ c then s.waybillErr 8 h
    else s.done h (w16 s.gnss.epochSeq :: timeWords s.gnss.capture ++ ((List.range n).map (fun i => s.obsWords (c + i))).flatten)

/-- The words of one unit in GNSS_NAVREAD. -/
def NavUnit.asWords (u : NavUnit) : List Word := [w16 (u.type + (if u.pass then 256 else 512)), w16 u.seqNo] ++ u.words

/-- R233: GNSS_NAVREAD. -/
def execGnssNavread (h : WbHead) (ps : List Word) (s : State) : Res :=
  runOp 0x4140 false h ps s fun s =>
    if 64 ≤ param s ps 0 ∨ 2 ≤ param s ps 1 ∨ 4 < param s ps 2 then s.waybillErr 8 h
    else
      let l := ((s.gch (param s ps 0 1)).units.filter (fun u => u.sigB = decide (param s ps 1 1 = 1))).take (param s ps 2 1)
      s.done h (l.map NavUnit.asWords).flatten

/-- R224: GNSS_NFCAL measures for 100 ms. -/
def execGnssNfcal (h : WbHead) (ps : List Word) (s : State) : Res :=
  runOp 0x4180 false h ps s fun s => genCheck F.GNSS_GEN (param s ps 0) h s fun s => s.setGnss { s.gnss with nfcal := some (h, param s ps 0 1) }

/-- R233: GNSS_NOTCHCFG; in auto mode FREQ ignores the write. -/
def execGnssNotchcfg (h : WbHead) (ps : List Word) (s : State) : Res :=
  runOp 0x41C0 false h ps s fun s =>
    let b := param s ps 0
    let n := param s ps 1
    genCheck F.GNSS_GEN (param s ps 2) h s fun s =>
    if 2 ≤ b ∨ 4 ≤ n then s.waybillErr 8 h
    else
      let k := b * 4 + n
      let l := cfgValues s ps 3 ((F.GNSS_NOTCH_CFG k).addr :: (if param s ps 3 % 4 = 1 then [] else [(F.GNSS_NOTCH_FREQ k).addr]))
      cfgOp F.GNSS_GEN (s.get F.GNSS_GEN) l (notchPost k) h s

/-- R233: GNSS_REPORT. -/
def execGnssReport (h : WbHead) (ps : List Word) (s : State) : Res :=
  runOp 0x4200 false h ps s fun s =>
    s.doneRd h [(F.GNSS_STAT.addr, 1), (F.GNSS_JNA.addr, 1), (F.GNSS_JNB.addr, 1), (F.GNSS_ELAST.addr, 1), (F.GNSS_SOLSTAT.addr, 1), F.GNSS_SOLUNC.run,
      (F.GNSS_SOLSEQ.addr, 1), (F.GNSS_EPHAGE.addr, 1), (F.GNSS_ALMAGE.addr, 1)]

end Sys2Proof.Machine
end

