-- ==== Sys2Proof/Machine/Tic.lean ====
section
/-! DEFINITION. The commands of TIC (spec/07). -/
namespace Sys2Proof.Machine

/-- R193: an edge on channel `ch`, sampled with fine code `c` at the tick whose TBASE time is `tick` (2^-48 ns). -/
def execTicEdge (ch : Nat) (rise : Bool) (tick c : Nat) (s : State) : Res :=
  if ch < 16 then hwAfter 6 s fun s => s.ticEdge ch rise tick c else .next s

/-- R202: two ticks after a stop's sampling tick, unit `u` decides its oldest stop. -/
def execTicStopDecide (u : Nat) (s : State) : Res := if u < 4 then hwAfter 6 s fun s => s.decideStop u else .next s

/-- R204: SPAN ms of unit `u`'s gate have passed: the next counted edge, stamped by TIC_EDGE, closes it and produces the result. -/
def execTicGateClose (u : Nat) (s : State) : Res :=
  if u < 4 ∧ s.freqUnit u then hwAfter 6 s fun s => s.setMeas u { s.meas u with due := (s.meas u).gate.isSome } else .next s

/-- R207: a statistics run reaches its timeout; one started with timeout 0 has none. -/
def execStatrunTimeout (u : Nat) (s : State) : Res :=
  if u < 4 ∧ (s.meas u).run.any (fun r => r.timeout ≠ 0) then hwAfter 7 s fun s => s.statEnd u .aborted .timeout else .next s

/-- R198: with AUTOCAL set, the die temperature has left CALTEMP by more than CALDT. -/
def execTicCalTempTrigger (tj : Int) (s : State) : Res :=
  hwAfter 5 s fun s =>
    let s := s.setI F.PSU_TJ tj
    if s.on F.TIC_CTRL && decide (s.get F.TIC_CALDT < (s.getI F.PSU_TJ - s.getI F.TIC_CALTEMP).natAbs) then s.calStart else s

/-- R198: a background calibration ends with the hits of the 32 interpolators of the standby set, and those of the second calibration that a failing one
gets (R197). -/
def execTicCalComplete (hits again : List (List Nat)) (s : State) : Res :=
  if s.on F.TIC_CALSTAT_RUNNING ∧ !s.tic.swap then
    hwAfter 5 s fun s =>
      let hits := retried hits again 32
      let bad := (List.range 32).filter (fun i => !calPass (at' [] hits i))
      let set := s.standby
      let s := s.setTic { s.tic with hits := putHits s.tic.hits set hits }
      match bad with
      | [] => (s.setTic { s.tic with swap := true }).calShow
      | b :: _ =>
        let first := set * 32 + b
        let s := ((s.setB F.TIC_CALSTAT_FAILED true).setB F.TIC_CALSTAT_RUNNING false).raise 65
        (s.fault 7 1 first).calAnswer (32 - bad.length) first
  else .next s

/-- R198: at the next millisecond boundary after a passed calibration the stampers swap sets. -/
def execTicCalSwap (s : State) : Res :=
  if s.tic.swap then
    hwAfter 5 s fun s =>
      let s := ((s.setTic { s.tic with swap := false, calMs := 0 }).set F.TIC_CALSTAT_SET s.standby).setB F.TIC_CALSTAT_RUNNING false
      let s := (((s.set F.TIC_CALTEMP (s.get F.PSU_TJ)).bump F.TIC_CALGEN).setB F.TIC_CALSTAT_VALID true).raise 66
      s.calAnswer 32 0xFFFF
  else .next s

/-- The crystal's fractional frequency against TBASE over the second, 10^-15, from the stamps of channel 10 at its ends (R200); `y` in a second that
has none. -/
def State.xtalFreq (s : State) (y : Int) : Int :=
  match s.tic.xSec, s.tic.xLast with
  | some (k, a), some b =>
    if k < s.tic.xCnt ∧ a < b then (((s.tic.xCnt - k) * 4096000000 : Nat) - ((b : Int) - a)) * 1000000000000000 / ((b : Int) - a) else y
  | _, _ => y

/-- The end of a second of channel 10. -/
def State.xtalSecond (s : State) : State :=
  s.setTic { s.tic with noTest := false, xSec := s.tic.xLast.map (fun t => (s.tic.xCnt, t)) }

/-- R200: the crystal residual of a TAI second, from its fractional frequency against TBASE; a second without FVALID is not tested, nor one in which
OSCCHG was set, be it in the millisecond of an add-back. -/
def execXtalWitness (y : Int) (s : State) : Res :=
  if s.on F.RMON_WITNESS_FVALID then
    hwAfter 6 s fun s =>
      let y := s.xtalFreq y
      let r := (y * 1000000000 - s.oscFreq 13) / 1000000000000
      let s := s.setI F.TIC_XWIT r
      let test := !s.tic.noTest
      let s := s.xtalSecond.setB F.TIC_XWSTAT_VALID test
      if test && decide (s.get F.TIC_XWLIM * 1000 < r.natAbs) then
        (((s.setB F.TIC_XWSTAT_EXCEED true).inc F.TIC_XWCNT).raise 71).fault 7 2 (ofSigned 32 (satSigned 32 r))
      else s
  else hwAfter 6 s fun s => s.xtalSecond.setB F.TIC_XWSTAT_VALID false

/-- HOLD adds a change of the crystal's own frequency to f_1 in every scale, and σ_1 sees no step (R201). -/
def State.shiftXtal (s : State) (d : Int) : State :=
  s.setHold { s.hold with
    scales := s.hold.scales.map (fun c => { c with hf := c.hf.map (fun p => if p.1 = 13 then (p.1, p.2.1, p.2.2 + d) else p) })
    noise := modAt s.hold.noise 13 (fun z => z.tilt d) }

/-- R201: the daily trim of the crystal by MGMT firmware; each day's mean is its own, whether or not the day is one that acts. -/
def execXtalTrim (s : State) : Res :=
  hwAfter 7 s fun s =>
    let mean := if s.tic.f1Cnt = 0 then 0 else s.tic.f1Sum / s.tic.f1Cnt
    let s := s.setTic { s.tic with f1Sum := 0, f1Cnt := 0 }
    if s.get F.HOLD_TRAINAGE < 86400 ∨ s.on F.HOLD_STAT_HOLDOVER ∨ s.get F.APLL_BYPSTAT_MAP ≠ 0 then s
    else if mean.natAbs ≤ 20000000000000000 then s
    else
      let d := clampTo 100 (-(roundDiv mean 1000000000000000))
      let old := s.getI F.TIC_XTAL_TRIM
      let new := clampTo 20000 (old + d)
      let s := if new ≠ old + d then (s.setB F.TIC_XWSTAT_TRIMEND true).fault 7 3 else s.setB F.TIC_XWSTAT_TRIMEND false
      if new = old then s
      else
        let s := s.setI F.TIC_XTAL_TRIM new
        let s := { s with store := { s.store with saved := insertKey s.store.saved F.TIC_XTAL_TRIM.addr (s.rd F.TIC_XTAL_TRIM.addr) } }
        let s := (s.shiftXtal ((new - old) * 1000000000000000)).setTic { s.tic with noTest := true }
        let s := if s.apll.refs.getD 0 0 = 0 then (s.moveFreq (-((new - old) * FS / 5000000000))).setB F.DPLL_STAT_OSCCHG true else s
        s.raise 72

/-- R210: TIC_CFG. -/
def execTicCfg (h : WbHead) (ps : List Word) (s : State) : Res :=
  runOp 0x3800 false h ps s fun s =>
    cfgOp F.TIC_GEN (param s ps 0) (cfgValues s ps 1 [F.TIC_CTRL.addr, F.TIC_CALDT.addr, F.TIC_XWLIM.addr]) noPost h s

/-- R210: TIC_CHCFG; a tap's EDGE reads 1 and ignores writes. -/
def execTicChcfg (h : WbHead) (ps : List Word) (s : State) : Res :=
  runOp 0x3840 false h ps s fun s =>
    let n := param s ps 0
    genCheck F.TIC_GEN (param s ps 1) h s fun s =>
    if 16 ≤ n then s.waybillErr 7 h else
    let l := cfgValues s ps 2 [(F.TIC_CH_CFG n).addr, (F.TIC_CH_DELAY n).addr]
    let l := if n < 8 then l else l.map (fun p => if p.1 = (F.TIC_CH_CFG n).addr then (p.1, putBits p.2 0 2 1) else p)
    cfgOp F.TIC_GEN (s.get F.TIC_GEN) l noPost h s

/-- A write of a unit's CFG clears it (R205). -/
def measPost (u : Nat) (_ s : State) : State := s.measClear u

/-- R210: TIC_MEASCFG. -/
def execTicMeascfg (h : WbHead) (ps : List Word) (s : State) : Res :=
  runOp 0x3880 false h ps s fun s =>
    let u := param s ps 0
    genCheck F.TIC_GEN (param s ps 1) h s fun s =>
    if 4 ≤ u then s.waybillErr 7 h
    else cfgOp F.TIC_GEN (s.get F.TIC_GEN)
      (cfgValues s ps 2 [(F.TIC_MEAS_CFG u).addr, (F.TIC_MEAS_ARMWIN u).addr, (F.TIC_MEAS_SPAN u).addr, (F.TIC_MEAS_FNOM u).addr]) (measPost u) h s

/-- R207: TIC_STATRUN. -/
def execTicStatrun (h : WbHead) (ps : List Word) (s : State) : Res :=
  runOp 0x38C0 true h ps s fun s =>
    let u := param s ps 0
    let n := paramN s ps 1 3
    if 4 ≤ u ∨ 4294967296 < n then s.waybillErr 7 h
    else if n = 0 then ((s.finish h .done .ok 0xFFFF (({ wb := h, n := 0 } : StatRun).words 1)).raise 70)
    else if (s.meas u).run.isSome then (s.failed h .busy)
    else
      let s := (s.setMeas u { s.meas u with run := some { wb := h, n := n, timeout := param s ps 4 } }).setB (F.TIC_MEAS_STAT_STATRUN u) true
      s.acceptLong h 0x38C0 .running

/-- R207: TIC_STATSTOP. -/
def execTicStatstop (h : WbHead) (ps : List Word) (s : State) : Res :=
  runOp 0x3900 false h ps s fun s =>
    let u := param s ps 0
    if 4 ≤ u then s.waybillErr 7 h else (s.statEnd u .aborted .stopped).done h

/-- Pop `k` channel stamps: the words POP, STAMP of each, oldest first. -/
def State.ticRead (n : Nat) : Nat → State → State × List Word
  | 0, s => (s, [])
  | k + 1, s =>
    if (s.ticCh n).fifo.isEmpty then (s, [])
    else
      let (s, p) := s.ticPop n
      let (s, st) := s.mgmtRead (F.TIC_CH_STAMP n).addr (F.TIC_CH_STAMP n).words
      let (s, r) := State.ticRead n k s
      (s, p :: st ++ r)

/-- R210: TIC_STAMPREAD. -/
def execTicStampread (h : WbHead) (ps : List Word) (s : State) : Res :=
  runOp 0x3940 false h ps s fun s =>
    if 16 ≤ param s ps 0 ∨ 28 < param s ps 1 then s.waybillErr 7 h
    else
      let (t, ws) := State.ticRead (param s ps 0 1) (param s ps 1 1) s
      t.done h ws

/-- R198: TIC_CALRUN starts a background calibration or joins the one that runs. -/
def execTicCalrun (h : WbHead) (ps : List Word) (s : State) : Res :=
  runOp 0x3980 true h ps s fun s =>
    ((s.acceptLong h 0x3980 .running).setTic { s.tic with waiters := s.tic.waiters ++ [h] }).calStart.calShow

/-- R210: TIC_CALREPORT: widths in units of 2^-22 ns, 1.6 per hit, rounded to nearest. -/
def execTicCalreport (h : WbHead) (ps : List Word) (s : State) : Res :=
  runOp 0x39C0 false h ps s fun s =>
    let i := param s ps 0
    if 64 ≤ i ∨ 64 < param s ps 2 then s.waybillErr 7 h
    else
      let l := s.hitsOf i
      s.done h ((List.range (param s ps 2 1)).map (fun k => w16 (satNat 16 ((16 * l.getD (param s ps 1 + k) 0 + 5) / 10))))

/-- R210: TIC_XTALREPORT. -/
def execTicXtalreport (h : WbHead) (ps : List Word) (s : State) : Res :=
  runOp 0x3A00 false h ps s fun s =>
    s.doneRd h [F.TIC_XTAL_TRIM.run, F.TIC_XWIT.run, F.TIC_XWSTAT.run, (F.HOLD_MEMBER_FREQ 1).run]

end Sys2Proof.Machine
end

