-- ==== Sys2Proof/Machine/MgmtOps.lean ====
section
/-! DEFINITION. MGMT: ending, suspending and listing waybills, and the audit (spec/14 R370, R373, R374, R378; spec/01 R44, R45). -/
namespace Sys2Proof.Machine

/-- Two heads name the same slot. -/
def sameSlot (a b : WbHead) : Bool := a.ring = b.ring && a.slot = b.slot

/-- A long operation that has been accepted ends ABORTED, its engine released (R378, R431). -/
def State.endLong (s : State) (t : Taken) (status : Status) : State :=
  let h := t.head
  let op := t.w0.toNat / 64 * 64
  if op = 0x38C0 then
    match (List.range 4).find? (fun u => (s.meas u).run.any (fun r => sameSlot r.wb h)) with
    | some u => s.statEnd u .aborted status
    | none => s.finish h .aborted status t.progress t.results
  else if op = 0x4040 then
    if s.gnss.host.any (fun j => j.wb.any (sameSlot h)) then
      s.acqDrop status
    else if s.gnss.job.any (fun j => j.wb.any (sameSlot h)) then s.acqEnd .aborted status
    else s.finish h .aborted status t.progress t.results
  else if op = 0x6100 then
    match s.auth.rots.find? (fun r => sameSlot r.wb h) with
    | some r => (s.finish h .aborted status (s.rotProgress r) r.results).rotDrop r
    | none => s.finish h .aborted status t.progress t.results
  else if op = 0x6840 || op = 0x6880 || op = 0x68C0 then
    match s.ctab.bulks.find? (fun b => sameSlot b.wb h) with
    | some b => s.bulkFail b .aborted status
    | none => s.finish h .aborted status t.progress t.results
  else if op = 0x20C0 then
    (s.setHold { s.hold with reports := s.hold.reports.filter (fun r => !sameSlot r.1 h) }).finish h .aborted status t.progress t.results
  else if op = 0x9180 then
    match s.fcol.dump with
    | some d => if sameSlot d.wb h then (s.finish h .aborted status (progressOf d.done d.total) (wordsOf d.done 2)).dumpEnd else s.finish h .aborted status t.progress t.results
    | none => s.finish h .aborted status t.progress t.results
  else if op = 0x3980 then
    (s.setTic { s.tic with waiters := s.tic.waiters.filter (fun w => !sameSlot w h) }).finish h .aborted status t.progress t.results
  else s.finish h .aborted status t.progress t.results

/-- What a short operation has left to be done later is given up; an announced load or step is still made, but writes no manifest (R364). -/
def State.giveUp (s : State) (h : WbHead) : State :=
  let other : WbHead → Bool := fun w => !sameSlot w h
  let keeps : DpllReq → Bool := fun r => match r with
    | .openLoop wb _ => wb.all other
    | .closeLoop _ wb _ => wb.all other
    | .applyWord wb => other wb
  { s with
    seq := { s.seq with saving := s.seq.saving.filter (fun x => other x.1), ckptWait := s.seq.ckptWait.filter other }
    dpll := { s.dpll with reqs := s.dpll.reqs.filter keeps }
    tb := { s.tb with
      load := (s.tb.load.filter (fun l => l.wb.all other || l.ts.isSome)).map (fun l => { l with wb := l.wb.filter other })
      astep := (s.tb.astep.filter (fun a => a.wb.all other || a.ann.isSome)).map (fun a => { a with wb := a.wb.filter other }) }
    gnss := { s.gnss with nfcal := s.gnss.nfcal.filter (fun x => other x.1) }
    pkt := { s.pkt with cfgs := s.pkt.cfgs.filter (fun c => other c.wb) }
    ebnd := { s.ebnd with cfgs := s.ebnd.cfgs.filter (fun c => other c.wb) }
    auth := { s.auth with mints := s.auth.mints.filter (fun m => other m.1), zero := s.auth.zero.map (fun z => { z with wb := z.wb.filter other }) } }

/-- A taken waybill is ended by a fence of the core that runs it (R431). -/
def State.interrupt (s : State) (t : Taken) : State :=
  if t.long then s.endLong t .interrupted else (s.giveUp t.head).finish t.head .aborted .interrupted 0 []

/-! ### Naming a target (R378) -/

/-- The oldest taken waybill of a ring with a tag. -/
def State.named (s : State) (ring tag : Nat) : Option Taken :=
  s.mgmt.taken.find? (fun t => t.ring = ring && t.tag.toNat = tag)

/-- R378: a cancel of a taken waybill; none where it cannot be stopped. -/
def State.cancel (s : State) (t : Taken) : Option State :=
  if t.long then
    if t.state = ManSt.queued then some (if t.w0.toNat / 64 * 64 = 0x4040 then s.endLong t .stopped else s.finish t.head .aborted .stopped 0 [])
    else if t.w0.toNat / 64 * 64 = 0x3980 then none
    else if t.state = ManSt.running && suspendable t.w0.toNat then some (s.modTaken t.ring t.slot (fun t => { t with stopReq := true }))
    else some (s.endLong t .stopped)
  else if t.started then none
  else some (s.finish t.head .aborted .stopped 0 [])

/-- The four words of MGMT_LIST for a taken waybill. -/
def Taken.listed (t : Taken) : List Word := [w16 (t.ring + t.state.code * 16), t.tag, t.w0, w16 t.progress]

/-- SEQ enters safe configuration: waybills of the blocks it leaves out fail (R373). -/
def State.failUnavail (s : State) : State :=
  let s := s.setB F.MGMT_WBSTAT_SAFE true
  (s.mgmt.taken.filter (fun t => !safeBlocks.contains (t.w0.toNat / 2048))).foldl (fun s t =>
    if (s.takenAt t.ring t.slot).isSome then s.failed t.head .blockUnavail else s) s

/-! ### The audit (R44, R45) -/

/-- The units of a block that do not cover its whole window: first offset, end, first unit, distance (the chapters' unit numbers). -/
def unitRanges (blk : Nat) : List (Nat × Nat × Nat × Nat) :=
  match blk with
  | 2 => [(0x100, 0x400, 0, 0x40)]
  | 3 => [(0x200, 0x210, 0x20, 0x10)]
  | 4 => [(0x200, 0x300, 0x10, 0x20), (0x300, 0x400, 0x20, 0x100)]
  | 5 => [(0x100, 0x1C0, 0, 0x40)]
  | 6 => [(0x100, 0x110, 1, 0x10), (0x200, 0x280, 0x10, 0x20), (0x400, 0x600, 0x20, 0x20), (0x600, 0x700, 0x40, 0x20)]
  | 7 => [(0x10, 0x1A, 0x31, 0x10), (0x20, 0x2E, 0x30, 0x10), (0x100, 0x300, 0, 0x20), (0x400, 0x500, 0x20, 0x40)]
  | 8 => [(0x40, 0x66, 1, 0x40), (0x100, 0x180, 0x10, 0x10)]
  | 9 => [(0x10, 0x20, 0x20, 0x10), (0x100, 0x380, 0, 0x40)]
  | 0x0A => [(0x100, 0x380, 0, 0x40)]
  | 0x0B => [(0x1A, 0x3A, 1, 0x40), (0x100, 0x200, 0x30, 0x20), (0x200, 0x300, 0x20, 0x20), (0x400, 0x500, 0x10, 0x80)]
  | 0x0C => [(0x14, 0x16, 0x20, 0x10), (0x1000, 0x5000, 0x10, 0x10000)]
  | 0x0E => [(0x40, 0x70, 0x10, 4)]
  | 0x10 => [(0x100, 0x140, 0x10, 0x20), (0x200, 0x240, 0x20, 0x20), (0x300, 0x340, 0x30, 0x20)]
  | 0x11 => [(0x1200, 0x1400, 1, 0x1000)]
  | _ => []

/-- The unit that a window offset belongs to. -/
def unitOf (blk off : Nat) : Nat :=
  match (unitRanges blk).find? (fun r => r.1 ≤ off && off < r.2.1) with
  | some (lo, _, u, d) => u + (off - lo) / d
  | none => 0

/-- The RO fields that are managed state (R44): address range of the group with its distance, and the mask of the field. -/
def managed : List (Nat × Nat × Nat × Nat) :=
  [(0x020118, 12, 0x40, 7), (0x030012, 1, 1, 7), (0x030202, 1, 1, 15), (0x081000, 64, 0x20, 7), (0x090102, 10, 0x40, 7), (0x0B0012, 1, 1, 7), (0x0B042A, 2, 0x80, 3),
   (0x0C1000, 1024, 0x10, 0x1FF), (0x130012, 1, 1, 0x307), (0x130014, 1, 1, 0xFFFF), (0x130016, 1, 1, 0xFFFF), (0x130060, 1, 1, 7)]

/-- The bits of the word at an address that belong to a unit's state. -/
def stateMask (a : Nat) : Nat :=
  match managed.find? (fun m => m.1 ≤ a && (a - m.1) % m.2.2.1 = 0 && (a - m.1) / m.2.2.1 < m.2.1) with
  | some m => m.2.2.2
  | none => rwMask a

/-- The address of the generation register that serves an address; none where no unit keeps one. -/
def genAddr (a : Nat) : Option Nat :=
  match regAt a with
  | none => none
  | some (r, i) => (genOf r i (blockOf a)).map (fun f => f.addr)

/-- The addresses at which the register file differs from the cached views. -/
def State.changedWords (s : State) : List Nat :=
  ((s.regs ++ s.mgmt.cache).foldl (fun l p => insertNat l p.1) []).filter (fun a => s.rd a ≠ look (regDefault a) s.mgmt.cache a)

/-- The units whose cached view differs in state or generation, as block × 256 + unit, ascending. -/
def State.staleUnits (s : State) : List Nat :=
  let ch := s.changedWords
  let key := fun a => blockOf a * 256 + unitOf (blockOf a) (a % 0x10000)
  let byState := ch.filter (fun a => (genAddr a).isSome && (s.rd a).toNat &&& stateMask a ≠ (look (regDefault a) s.mgmt.cache a).toNat &&& stateMask a)
  let gens := ch.filter (fun a => genAddr a = some a && !byState.any (fun b => genAddr b = some a))
  (byState ++ gens).foldl (fun l a => insertNat l (key a)) []

/-- One audit: every stale copy is overwritten and counted; of several in one pass, MGMT_AUDLAST shows the highest block and unit (log entry 69). -/
def State.audit (s : State) : State :=
  let us := s.staleUnits
  let s := { s with mgmt := { s.mgmt with cache := s.regs } }
  let s := s.bump F.MGMT_AUDGEN
  match us.getLast? with
  | none => s
  | some u =>
    let s := s.setSat F.MGMT_AUDMIS (s.get F.MGMT_AUDMIS + us.length)
    ((s.set F.MGMT_AUDLAST_BLOCK (u / 256)).set F.MGMT_AUDLAST_UNIT u).raise 214

end Sys2Proof.Machine
end

