-- ==== Sys2Proof/Machine/Fcol.lean ====
section
/-! DEFINITION. The commands of FCOL (spec/17).  Events that fall in one CTRL cycle come as commands in the order that R425 gives them effect. -/
namespace Sys2Proof.Machine

/-- An event of FCOL while it runs. -/
def whenFcol (ok : Bool) (s : State) (f : State → State) : Res := if s.fcol.running && ok then fin (f s) else .next s

/-- R416: the message at place `i` of those on their way arrives and is handled. -/
def execFaultMessage (i : Nat) (s : State) : Res :=
  match s.arrives i with
  | none => .next s
  | some m => whenFcol true s fun s =>
      let s := (s.setFcol { s.fcol with inflight := s.fcol.inflight.eraseIdx i }).reportLosses
      s.handle m

/-- R422: FCOL_QUIET milliseconds have passed since the last message of domain `d`. -/
def execQuietExpiry (d : Nat) (s : State) : Res := whenFcol (decide (d < 4) && !(s.dom d).quiet) s fun s => s.quietEnd d

/-- R427: the FLT_CRIT pulse ends. -/
def execCritPulseExpiry (s : State) : Res :=
  whenFcol (s.on F.FCOL_CRIT_PULSE) s fun s => (s.setB F.FCOL_CRIT_PULSE false).critPin

/-- The master runs something that can stall (R429). -/
def State.canStall (s : State) (m : Nat) : Bool :=
  if m ≤ 4 then s.intc.running
  else if m = 0x0B then s.on (F.HIF_DMA_STAT_BUSY 0) else if m = 0x0C then s.on (F.HIF_DMA_STAT_BUSY 1)
  else if m = 0x14 then !s.ctab.bulks.isEmpty else s.gnss.job.isSome

/-- A fence ends the master's work (R431); `wbs` are the waybills that a fenced core runs. -/
def State.fenceWork (s : State) (m : Nat) (wbs : List (Nat × Nat)) : State :=
  if m ≤ 4 then wbs.foldl (fun s p => match s.takenAt p.1 p.2 with
    | some t => s.interrupt t
    | none => s) s
  else if m = 0x0B then s.dmaEnd 0 3 else if m = 0x0C then s.dmaEnd 1 3
  else if m = 0x14 then s.bulkFenced else s.acqEnd .aborted .interrupted

/-- R429, R431: the stall timer of a fenceable master expires; `case` is the case of R429, whose number the spec does not give. -/
def execMasterStall (m case : Nat) (wbs : List (Nat × Nat)) (s : State) : Res :=
  match fenceBit m with
  | none => .next s
  | some b =>
    whenFcol (!s.bit F.FCOL_FENCEMAP b && s.canStall m) s fun s =>
      let s := s.faultM 0x12 1 (Config.openDetail 0x12 1 [case]) m 0 none
      ((s.setBit F.FCOL_FENCEMAP b true).raise 238).fenceWork m wbs

/-- R430: a fenced master still holds the bus of an island other than MEM and is released by force; `isl` is the island by its bit of TBASE_BCNSTAT. -/
def execFenceForcedRelease (isl : Nat) (s : State) : Res :=
  whenFcol (s.get F.FCOL_FENCEMAP ≠ 0 && isl < 5 && isl ≠ 2) s fun s => ((s.inc F.FCOL_FORCECNT).raise 239).fault 0x12 2 isl

/-- R436: an admitted message is written to the event ring; `good`: its read-back check. -/
def execLedgerWrite (good : Bool) (s : State) : Res := whenFcol (!s.fcol.toWrite.isEmpty) s fun s => s.ledgerWrite good

/-- R437: the summary of every 60 s. -/
def execLedgerSummary (s : State) : Res := whenFcol true s State.ledgerSummary

/-- R424: a write to FCOL_DOMCLR. -/
def State.domclrWrite (v : Nat) (s : State) : State := if 16 ≤ v then s.blockErr 0x12 else s.clearDomains v
def execFcolDomclrWrite (v : Nat) (s : State) : Res := directWrite 0x12 s (State.domclrWrite v)

/-- R427: a write to FCOL_CRIT; 1 clears LATCH. -/
def State.critWrite (v : Nat) (s : State) : State := if 8 ≤ v then s.blockErr 0x12 else if v % 2 = 1 then s.latchClear.1 else s
def execFcolCritLatchClear (v : Nat) (s : State) : Res := directWrite 0x12 s (State.critWrite v)

/-- R442: the Ledger dump copies its next item. -/
def execLedgerDumpRecord (s : State) : Res :=
  match s.fcol.dump with
  | none => .next s
  | some d => whenFcol (s.running d.wb) s fun s => s.dumpStep d

/-- R442: FCOL_CFG. -/
def execFcolCfg (h : WbHead) (ps : List Word) (s : State) : Res :=
  runOp 0x9000 false h ps s fun s =>
    let c := param s ps 5
    let n := param s ps 6
    genCheck F.FCOL_GEN (param s ps 0) h s fun s =>
    if 320 ≤ c ∨ 50 < n ∨ 320 < c + n then s.waybillErr 0x12 h
    else cfgOp F.FCOL_GEN (s.get F.FCOL_GEN)
      (cfgValues s ps 1 [F.FCOL_CTRL.addr, F.FCOL_QUIET.addr, F.FCOL_CRITPULSE.addr, F.FCOL_LEDGERMAX.addr]
        ++ (cfgValues s ps 7 ((List.range n).map (fun k => (F.FCOL_CLS_CFG (c + k)).addr))).filter (fun p => !fixedClasses.contains ((p.1 - (F.FCOL_CLS_CFG 0).addr) / 2)))
      fcolPost h s

/-- R442: FCOL_FIRSTREAD. -/
def execFcolFirstread (h : WbHead) (ps : List Word) (s : State) : Res :=
  runOp 0x9040 false h ps s fun s =>
    s.doneRd h [(F.FCOL_FIRSTSTAT.addr, 1), F.FCOL_FIRSTNUM.run, ((F.FCOL_FIRST 0).addr, 16)]

/-- R432: FCOL_ACK. -/
def execFcolAck (h : WbHead) (ps : List Word) (s : State) : Res :=
  runOp 0x9080 false h ps s fun s =>
    if s.on F.FCOL_FIRSTSTAT && paramN s ps 0 3 = s.get F.FCOL_FIRSTNUM then ((s.setB F.FCOL_FIRSTSTAT false).done h)
    else s.failed h .notPermitted

/-- R434: FCOL_LOGREAD. -/
def execFcolLogread (h : WbHead) (ps : List Word) (s : State) : Res :=
  runOp 0x90C0 false h ps s fun s =>
    let n := param s ps 0
    if 64 < n then s.waybillErr 0x12 h
    else
      let ws := (s.fcol.log.take n).flatMap (fun e => wordsOf e.1 3 ++ e.2)
      (s.setFcol { s.fcol with log := s.fcol.log.drop n }).done h ws

/-- R424: FCOL_CLEAR. -/
def execFcolClear (h : WbHead) (ps : List Word) (s : State) : Res :=
  runOp 0x9100 false h ps s fun s =>
    let v := param s ps 0
    if 32 ≤ v then s.waybillErr 0x12 h
    else
      let app := domMap (fun d => v / 2 ^ d % 2 = 1 && s.clearable d)
      let refu := domMap (fun d => v / 2 ^ d % 2 = 1 && s.faultedDom d)
      let s := s.clearDomains v
      if v < 16 then s.done h [w16 app, w16 refu]
      else
        let x := s.latchClear
        x.1.done h [w16 (app + if x.2 then 16 else 0), w16 (refu + if x.2 then 0 else 16)]

/-- R442: FCOL_COUNTREPORT, its counters read as RC. -/
def execFcolCountreport (h : WbHead) (ps : List Word) (s : State) : Res :=
  runOp 0x9140 false h ps s fun s =>
    let c := param s ps 0
    let n := param s ps 1
    if 320 ≤ c ∨ 64 < n ∨ 320 < c + n then s.waybillErr 0x12 h
    else
      let r := s.showFcol.report ([(F.FCOL_LOGOVF, true), (F.FCOL_LOST, true), (F.FCOL_CRITCNT, true), (F.FCOL_FORCECNT, true), (F.FCOL_LDGSUPPR, true),
        (F.FCOL_DOMSTAT, false)] ++ (List.range n).map (fun k => (F.FCOL_RCNT (c + k), true)))
      r.2.done h r.1

/-- R442: FCOL_LEDGERDUMP is accepted with the records that the event ring then holds; a count of 0 completes DONE before its refusals (R15; log entry
66). -/
def execFcolLedgerdump (h : WbHead) (ps : List Word) (s : State) : Res :=
  runOp 0x9180 true h ps s fun s =>
    let summary := param s ps 0 = 1
    let first := paramN s ps 1 3
    let n := paramN s ps 4 2
    if 1 < param s ps 0 1 ∨ 65536 < n then s.waybillErr 0x12 h
    else if n = 0 then s.done h
    else if s.seq.st = .safe then s.failed h .notPermitted
    else if s.fcol.dump.isSome then s.failed h .busy
    else
      let k := if summary then min 1 s.ledger.summaries.length else (s.recordsFrom first n).length
      let s := s.acceptLong h 0x9180 .running
      if k = 0 then s.done h [0, 0]
      else s.setFcol { s.fcol with dump := some ⟨h, summary, first, k, 0, k⟩ }

/-- R442: FCOL_LEDGERREPORT. -/
def execFcolLedgerreport (h : WbHead) (ps : List Word) (s : State) : Res :=
  runOp 0x91C0 false h ps s fun s =>
    if 64 < param s ps 3 then s.waybillErr 0x12 h
    else
      let x := s.mgmtReads [F.FCOL_LDGOLDEST.run, F.FCOL_LDGNEXT.run, F.FCOL_LDGSTAT.run, F.FCOL_LDGWEAR.run]
      x.1.done h (x.2 ++ (s.recordsFrom (paramN s ps 0 3) (param s ps 3 1)).flatMap LedgerRec.out)

end Sys2Proof.Machine
end

