-- ==== Sys2Proof/Machine/ClaimOps.lean ====
section
/-! DEFINITION. Claims and completions of INTC's two targets (spec/16 R405 to R411), and the target registers as they read. -/
namespace Sys2Proof.Machine

/-- A target: the host's, or MGMT's. -/
def State.target (s : State) (mgmt : Bool) : Target := if mgmt then s.intc.mgmt else s.intc.host

def State.setTarget (s : State) (mgmt : Bool) (t : Target) : State :=
  { s with intc := if mgmt then { s.intc with mgmt := t } else { s.intc with host := t } }

/-- A claim: the best eligible source leaves the pending set and goes on the stack with its priority; 0 where none is eligible (R405). -/
def State.claim (s : State) (mgmt : Bool) : State × Word :=
  let t := s.target mgmt
  match s.eligible mgmt t with
  | none => (s, 0)
  | some n => (s.setTarget mgmt { t with pend := t.pend.filter (fun m => m ≠ n), stack := ⟨n, s.srcPrio mgmt n, false, false⟩ :: t.stack }, w16 n)

/-- The claim of a completed level source was spurious (R408): its input is de-asserted, and was so at some moment before the handler looked. -/
def State.spurious (s : State) (e : StackEnt) : Bool := levelSources.contains e.src && e.dropped && !s.levelIn e.src

/-- SPUR counts; source 226 for the host target. -/
def State.countSpur (s : State) (mgmt : Bool) : State := if mgmt then s.inc F.INTC_MGMT_SPUR else s.incRaise F.INTC_HOST_SPUR 226

/-- COMPERR counts; source 227 for the host target. -/
def State.countCompErr (s : State) (mgmt : Bool) : State :=
  if mgmt then s.inc F.INTC_MGMT_COMPERR else s.incRaise F.INTC_HOST_COMPERR 227

/-- An out-of-order completion of source `n`, with `top` at the top of the stack (R410): the stack empties, its other edge sources are pending
again; level sources follow their inputs. -/
def State.rebuildStack (s : State) (mgmt : Bool) (n top : Nat) : State :=
  let t := s.target mgmt
  let again := (t.stack.map StackEnt.src).filter (fun m => m ≠ n && !levelSources.contains m)
  let s := s.setTarget mgmt { t with stack := [], pend := again.foldl insertNat t.pend }
  let s := s.inc (if mgmt then F.INTC_MGMT_REBUILD else F.INTC_HOST_REBUILD)
  (s.raise (if mgmt then 225 else 224)).fault 0x11 (if mgmt then 2 else 1) (n + 256 * top)

/-- A completion of source `n` (R406).  A level source that leaves the stack is sampled again as the command ends. -/
def State.complete (s : State) (mgmt : Bool) (n : Nat) : State :=
  let t := s.target mgmt
  if n = 0 then s
  else match t.stack with
    | [] => s.countCompErr mgmt
    | e :: r =>
      if e.src = n then
        let u := s.setTarget mgmt { t with stack := r }
        if s.spurious e then u.countSpur mgmt else u
      else match r.find? (fun x => x.src = n) with
        | some x => let u := s.rebuildStack mgmt n e.src; if s.spurious x then u.countSpur mgmt else u
        | none => s.countCompErr mgmt

/-- Pending word `w` of a target. -/
def Target.pendWord (t : Target) (w : Nat) : Nat := (t.pend.filter (fun n => n / 16 = w)).foldl (fun a n => a + 2 ^ (n % 16)) 0

/-- The target registers follow a target: line, level, depth, and the stack, entry 0 at the bottom (Table 16-2). -/
def State.showTarget (s : State) (mgmt : Bool) : State :=
  let t := s.target mgmt
  let st := if mgmt then F.INTC_MGMT_STAT else F.INTC_HOST_STAT
  let lvl := match t.stack with
    | e :: _ => e.prio
    | [] => 0
  let s := s.set st ((if t.line then 1 else 0) + 2 * lvl + 32 * t.stack.length)
  let l := t.stack.reverse
  (List.range 16).foldl (fun s e =>
    let v := match l[e]? with
      | some x => x.src + 256 * x.prio
      | none => 0
    s.set (if mgmt then F.INTC_MGMT_STACK e else F.INTC_HOST_STACK e) v) s

/-- The pending registers follow the targets (Table 16-3). -/
def State.showPend (s : State) : State :=
  (List.range 16).foldl (fun s w => (s.set (F.INTC_HOST_PEND w) (s.intc.host.pendWord w)).set (F.INTC_MGMT_PEND w) (s.intc.mgmt.pendWord w)) s

/-- Writing 1 to a bit of a host pending word clears it for an edge source (Table 16-3). -/
def State.clearPend (s : State) (w v : Nat) : State :=
  let t := s.intc.host
  s.setTarget false { t with pend := t.pend.filter (fun n => !(n / 16 = w && v / 2 ^ (n % 16) % 2 = 1 && !levelSources.contains n)) }

/-- The source numbers that no block raises (the source tables of the chapters). -/
def unusedSource (n : Nat) : Bool :=
  n = 0 || 255 ≤ n || n = 23 || n = 47 || (58 ≤ n && n ≤ 62) || (73 ≤ n && n ≤ 79) || n = 94 || n = 95 || (121 ≤ n && n ≤ 127)
    || (141 ≤ n && n ≤ 143) || (157 ≤ n && n ≤ 159) || (167 ≤ n && n ≤ 175) || (185 ≤ n && n ≤ 191) || (197 ≤ n && n ≤ 199)
    || (204 ≤ n && n ≤ 213) || n = 215 || n = 223 || (228 ≤ n && n ≤ 231) || (244 ≤ n && n ≤ 247)

end Sys2Proof.Machine
end

