-- ==== Sys2Proof/Machine/HifOps.lean ====
section
/-! DEFINITION. The shared operations of HIF (spec/15): rings, host queues, DMA channels, the endpoint, manifests of rings 2 and 3. -/
namespace Sys2Proof.Machine


/-- The reply to a requester. -/
def State.reply (s : State) (req : Nat) (ws : List Word) : State := s.setHif { s.hif with replies := Machine.insertKey s.hif.replies req ws }

/-! ### Rings 0 and 1, and the enables of rings and queues (R390, R391) -/

/-- A write of `v` to the CFG of a ring or queue whose depth exponent runs from `lo` to `hi`; its indices are `prod` and `cons`. -/
def State.cfgEnable (s : State) (cfg prod cons : Field) (lo hi v : Nat) : State :=
  let en := s.get cfg % 2
  let dl := v / 2 % 16
  if en = 1 then (if v % 2 = 1 then s else ((s.set cfg (s.get cfg - 1)).bump F.HIF_GEN))
  else if v % 2 = 0 then (s.set cfg (2 * dl)).bump F.HIF_GEN
  else if lo ≤ dl ∧ dl ≤ hi then (((s.set cfg (1 + 2 * dl)).set prod 0).set cons 0).bump F.HIF_GEN
  else s

def State.ringCfg (s : State) (r v : Nat) : State := s.cfgEnable (F.HIF_RING_CFG r) (F.HIF_RING_PROD r) (F.HIF_RING_CONS r) 4 8 v
def State.queueCfg (s : State) (q v : Nat) : State := s.cfgEnable (F.HIF_Q_CFG q) (F.HIF_Q_PROD q) (F.HIF_Q_CONS q) 6 12 v

/-- The slots of a ring. -/
def State.ringDepth (s : State) (r : Nat) : Nat := 2 ^ s.get (F.HIF_RING_CFG_DEPTHLOG r)

/-- The doorbell: PROD of a ring.  More waybills than slots are a host error (R391). -/
def State.ringProd (s : State) (r v : Nat) : State :=
  let left := (v + 65536 - s.get (F.HIF_RING_CONS r)) % 65536
  if s.on (F.HIF_RING_CFG_EN r) && decide (s.ringDepth r < left) then s.blockErr 0x10
  else (s.set (F.HIF_RING_PROD r) v).bump F.HIF_GEN

/-! ### Taking waybills (R369 to R373, R391, R394) -/

/-- Ring 0 or 1 has a waybill that MGMT may take. -/
def State.ringReady (s : State) (r : Nat) : Bool :=
  s.on (F.HIF_RING_CFG_EN r) && s.hostMem && s.get (F.HIF_RING_CONS r) ≠ s.get (F.HIF_RING_PROD r)

/-- A ring has a waybill that MGMT may take. -/
def State.ringWaits (s : State) (ring : Nat) : Bool := if ring < 2 then s.ringReady ring else s.hif.bells.any (fun b => b.1 = ring)

/-- A ring has its turn (Table 14-7): ring 1 always; while it has nothing, rings 0, 2 and 3 in turn from the one after the last taken from. -/
def State.ringTurn (s : State) (ring : Nat) : Bool :=
  let order := if s.mgmt.lastRing = 0 then [2, 3, 0] else if s.mgmt.lastRing = 2 then [3, 0, 2] else [0, 2, 3]
  if s.ringReady 1 then ring = 1 else (order.find? s.ringWaits) = some ring

/-- A waybill is taken; the host has set its manifest slot to NONE (R372), or HIF has (R394). -/
def State.takeWords (s : State) (ring slot : Nat) (ws : List Word) : State :=
  let t : Taken := { ring := ring, slot := slot, w0 := ws.getD 0 0, tag := ws.getD 1 0, words := ws.take 64 }
  let ms := if ring < 2 then s.mgmt.manifests.filter (fun m => ¬ (m.ring = ring ∧ m.slot = slot)) else s.mgmt.manifests
  { s with mgmt := { s.mgmt with manifests := ms, lastRing := if ring = 1 then s.mgmt.lastRing else ring } }.takeOne t

/-- A waybill of `n` words goes into slot `slot` of ring 2 or 3, over what the slot held; its manifest's W2 reads NONE, and its doorbell rings
(R394, Table 15-5). -/
def State.mailboxPut (s : State) (ring slot : Nat) (ws : List Word) : State :=
  let k := ring * 256 + slot
  let old := look [] s.hif.mailbox k
  let ms := s.mgmt.manifests.map (fun m => if m.ring = ring ∧ m.slot = slot then { m with state := .none, upd := 0, spec := false } else m)
  let s := { s with mgmt := { s.mgmt with manifests := ms } }
  s.setHif { s.hif with mailbox := Machine.insertKey s.hif.mailbox k (ws ++ old.drop ws.length), bells := s.hif.bells ++ [(ring, slot)] }

/-- A waybill of this slot of ring 2 or 3 waits or runs (R372). -/
def State.slotBusy (s : State) (ring slot : Nat) : Bool := s.hif.bells.contains (ring, slot) || (s.takenAt ring slot).isSome

/-- Word `i` of a manifest as the LN7400 wrote it (Tables 14-3, 14-4); a word that it has not written is open.  Where no header has been written, W2
reads NONE once a waybill has gone into the slot (R394, Table 15-5). -/
def State.manifestWord (s : State) (ring slot i : Nat) : Word :=
  match s.manifestAt ring slot with
  | none => if i = 2 && s.hif.mailbox.any (fun p => p.1 = ring * 256 + slot) then 0 else w16 (Config.freeNat (s.fresh + i))
  | some m =>
    if i = 0 then w16 m.status else if i = 1 then m.tag
    else if i = 2 then w16 (m.state.code + m.upd * 256 + (if m.spec then 32768 else 0))
    else if i = 3 then w16 m.progress else if i = 4 then w16 m.results.length
    else m.results.getD (i - 5) (w16 (Config.freeNat (s.fresh + i)))

/-- `n` words of a manifest from word `first`. -/
def State.manifestWords (s : State) (ring slot first n : Nat) : List Word × State :=
  ((List.range n).map (fun k => s.manifestWord ring slot (first + k)), { s with fresh := s.fresh + first + n })

/-! ### Host queues (R397) -/

/-- A transmit descriptor as HIF reads it; one whose content the command does not give is open. -/
def State.descr (s : State) (frames : List HostFrame) (i : Nat) : HostFrame :=
  frames.getD i ⟨Config.freeNat (s.fresh + 2 * i) % 8, Config.freeNat (s.fresh + 2 * i + 1) % 65536⟩

/-- A transmit descriptor is handed over: PKT sends the frame at host priority, or discards it. -/
def State.hostSend (s : State) (f : HostFrame) : State :=
  if 60 ≤ f.len ∧ f.len ≤ 2048 ∧ s.portUp f.port then
    (s.setHif { s.hif with txPend := s.hif.txPend ++ [f] }).addReady ⟨f.port, 4, .host f.len, 0⟩
  else (s.setHif { s.hif with txPend := f :: s.hif.txPend }).hostDrop

/-- HIF reads the transmit descriptors that wait, once the queue is enabled and host memory can be reached. -/
def State.txFetch (s : State) : State :=
  if s.on (F.HIF_Q_CFG_EN 1) && s.hostMem then s.hif.txWait.foldl State.hostSend (s.setHif { s.hif with txWait := [] }) else s

/-- PROD of a queue: receive buffers that the host hands back hold no frame it has not taken; transmit frames go to PKT. -/
def State.queueProd (s : State) (q v : Nat) (frames : List HostFrame) : State :=
  let n := (v + 65536 - s.get (F.HIF_Q_PROD q)) % 65536
  let s := (s.set (F.HIF_Q_PROD q) v).bump F.HIF_GEN
  if q = 0 then s.setHif { s.hif with rxUntaken := s.hif.rxUntaken - n }
  else if s.on (F.HIF_Q_CFG_EN 1) && decide (n ≤ 2 ^ s.get (F.HIF_Q_CFG_DEPTHLOG 1)) then
    let l := (List.range n).map (s.descr frames)
    (({ s with fresh := s.fresh + 2 * n }).setHif { s.hif with txWait := s.hif.txWait ++ l }).txFetch
  else s

/-! ### Bulk transfer (R398) -/

/-- The range of a channel lies in an area it may use (Table 12-1): load staging; read-back or Ledger dump staging. -/
def dmaArea (c a n : Nat) : Bool :=
  if c = 0 then decide (loadBase ≤ a ∧ a + n ≤ readBase)
  else decide (readBase ≤ a ∧ a + n ≤ acqBase) || decide (ldgBase ≤ a ∧ a + n ≤ memEnd)

/-- START: checks, and the transfer begins; discarded while the channel is busy. -/
def State.dmaStart (s : State) (c : Nat) : State :=
  let m := s.get (F.HIF_DMA_MADDR c)
  let n := s.get (F.HIF_DMA_LEN c)
  if s.on (F.HIF_DMA_STAT_BUSY c) then s
  else
    let s := s.set (F.HIF_DMA_MOVED c) 0
    if s.bit F.FCOL_FENCEMAP (4 + c) then (s.set (F.HIF_DMA_STAT_ERR c) 3).raise (217 + c) else
    if n = 0 then ((s.set (F.HIF_DMA_STAT_ERR c) 0).setB (F.HIF_DMA_STAT_DONE c) true).raise (217 + c)
    else if s.get (F.HIF_DMA_HADDR c) % 64 ≠ 0 ∨ m % 64 ≠ 0 ∨ n % 64 ≠ 0 ∨ !dmaArea c m n then (s.set (F.HIF_DMA_STAT_ERR c) 1).raise (217 + c)
    else ((s.set (F.HIF_DMA_STAT_ERR c) 0).setB (F.HIF_DMA_STAT_BUSY c) true).setHif { s.hif with dma := modAt s.hif.dma c (fun _ => (m, n)) }

/-- ABORT ends a transfer with ERR 2. -/
def State.dmaAbort (s : State) (c : Nat) : State := if s.on (F.HIF_DMA_STAT_BUSY c) then s.dmaEnd c 2 else s

/-- A write to CTRL: both bits are judged on the channel as it stands. -/
def State.dmaCtrl (s : State) (c v : Nat) : State :=
  if s.on (F.HIF_DMA_STAT_BUSY c) then (if v / 2 % 2 = 1 then s.dmaEnd c 2 else s)
  else if v % 2 = 1 then s.dmaStart c else s

/-! ### The endpoint (R386 to R389) -/

/-- HIF's ring, queue and DMA registers go to their reset values (R388), a change of HIF's configuration where one differed (R44); a transfer that ran
shows ERR 3. -/
def State.endpointReset (s : State) : State :=
  let b := fun c => s.on (F.HIF_DMA_STAT_BUSY c)
  let s := if b 0 then s.dmaEnd 0 3 else s
  let s := if b 1 then s.dmaEnd 1 3 else s
  let mark : Taken → Taken := fun t => if t.ring < 2 && t.base.isNone then { t with base := some (s.ringBases t.ring) } else t
  let s := { s with mgmt := { s.mgmt with taken := s.mgmt.taken.map mark } }
  let moved := s.regs.any (fun p => 0x100100 ≤ p.1 && p.1 < 0x100400 && rwMask p.1 ≠ 0)
  let s := { s with regs := s.regs.filter (fun p => p.1 < 0x100100 || 0x100400 ≤ p.1) }
  let s := if moved then s.bump F.HIF_GEN else s
  let s := if b 0 then s.set (F.HIF_DMA_STAT_ERR 0) 3 else s
  let s := if b 1 then s.set (F.HIF_DMA_STAT_ERR 1) 3 else s
  let s := (s.setB F.HIF_STAT_BUSMASTER false).setB F.HIF_STAT_MSIXEN false
  let s := { s with intc := { s.intc with msixMasked := true, msixPending := false } }
  s.setHif { s.hif with rxUntaken := 0, txPend := [], txWait := [], shadow := s.hif.shadow.filter (fun p => p.1 < 0x100100 || 0x100400 ≤ p.1) }

/-- The link goes down (Tables 15-9, 15-10). -/
def State.linkDown (s : State) : State :=
  if s.on F.HIF_STAT_LINKUP then
    let ring := s.on (F.HIF_RING_CFG_EN 0) || s.on (F.HIF_RING_CFG_EN 1)
    let s := ((s.setB F.HIF_STAT_LINKUP false).set F.HIF_STAT_SPEED 0).set F.HIF_STAT_WIDTH 0
    let s := s.raise 216
    if ring then s.fault 0x10 1 else s
  else s

end Sys2Proof.Machine
end

