-- ==== Sys2Proof/Machine/Hold.lean ====
section
/-! DEFINITION. The commands of HOLD (spec/05). -/
namespace Sys2Proof.Machine

/-- R139: the second of HOLD.  TIC's taps give AOSC_IN and the crystal in 10^-15 s against TBASE; `tj` is PSU_TJ's sample. -/
def execHoldSecond (aosc xtal : Option Int) (tj : Int) (s : State) : Res :=
  hwAfter 6 s fun s => (s.setI F.PSU_TJ tj).holdSecond aosc xtal

/-- The temperature span of a training window, 0.125 °C. -/
def spanOf : List (Int × Int) → Int
  | [] => 0
  | (_, t) :: r => r.foldl (fun m p => max m p.2) t - r.foldl (fun m p => min m p.2) t

/-- R146: the hourly fit of MGMT firmware over the hourly means of the last HOLD_FITWIN hours; its method is open (`Config.modelFit`). -/
def execHoldModelTrain (s : State) : Res :=
  hwAfter 7 s fun s =>
    let w := s.hold.hours.take (s.get F.HOLD_FITWIN)
    let fit := fun k => Config.modelFit k w
    let fitD := decide (259200 ≤ s.get F.HOLD_TRAINAGE)
    let fitC := decide (16 ≤ spanOf w) && s.get F.HOLD_CTRL_TSRC ≠ 2
    let s := (s.setI F.HOLD_MDL_D (if fitD then fit 0 else 0)).setSat F.HOLD_MDL_UD (if fitD then (fit 1).toNat else s.get F.HOLD_DPRIOR)
    let s := (s.setI F.HOLD_MDL_C (if fitC then fit 2 else 0)).setSat F.HOLD_MDL_UC (if fitC then (fit 3).toNat else s.get F.HOLD_CPRIOR)
    let s := (s.setSat F.HOLD_MDL_UY (max (fit 4).toNat (s.get (F.HOLD_MEMBER_SIGMA s.hosc)))).setI F.HOLD_MDL_T0 (fit 5)
    let s := (s.setB F.HOLD_STAT_DFIT fitD).setB F.HOLD_STAT_CFIT fitC
    ((s.setB F.HOLD_STAT_MDLPEND (s.on F.HOLD_STAT_HOLDOVER)).bump F.HOLD_MDL_GEN).raise 36

/-- R147: the second that brings the training age to 86,400 s; like every other it counts only under R147's conditions. -/
def execTrainage24h (s : State) : Res :=
  if s.get F.HOLD_TRAINAGE = 86399 then hwAfter 6 s State.trainSecond else .next s

/-- R149: the steering instant. -/
def execAoscSteer (s : State) : Res := hwAfter 6 s State.steer

/-- R150: HOLD_AOSC_LAT after a frame, the rate of TBASE is kept: −Δy in the integrator, in DPLL_COMP, or through Σ(Δy since t_e), which every step of a
holdover joins (R153). -/
def execAoscSteerComp (s : State) : Res :=
  match s.hold.steers with
  | [] => .next s
  | dy :: r => hwAfter 6 s fun s =>
    let s := s.setHold { s.hold with steers := r, sumTe := if s.on F.HOLD_STAT_HOLDOVER then s.hold.sumTe + dy else s.hold.sumTe }
    if s.mode = 3 then s
    else s.moveFreq (-(dy * FS / 5000000000000000000))

/-- R148: a byte arrives on AOSC_UART_RX. -/
def execAoscAckReceive (byte : Nat) (s : State) : Res :=
  if byte = s.get F.HOLD_AOSC_ACK then hwAfter 6 s fun s => s.setHold { s.hold with ackWait := none } else .next s

/-- R148: no acknowledgement within 100 ms: one resend, then source 38 and fault 0x04/0x04. -/
def execAoscAckTimeout (s : State) : Res :=
  match s.hold.ackWait with
  | none => .next s
  | some false => hwAfter 6 s fun s =>
    (s.inc F.HOLD_AOSC_NOACK).setHold { s.hold with ackWait := some true, sentCnt := s.hold.sentCnt + 1 }
  | some true => hwAfter 6 s fun s =>
    (((s.inc F.HOLD_AOSC_NOACK).setHold { s.hold with ackWait := none }).raise 38).fault 4 4

/-- R159: the taken reference has been selected for HOLD_CONTRACT after the slew or step. -/
def execHoldContractExpiry (s : State) : Res :=
  if s.get F.HOLD_CONTRACT * 1000 ≤ s.dpll.selMs then hwAfter 6 s State.contract else .next s

/-- R163: HOLD_CFG. -/
def execHoldCfg (h : WbHead) (ps : List Word) (s : State) : Res :=
  runOp 0x2000 false h ps s fun s =>
    cfgOp F.HOLD_GEN (param s ps 0) (cfgValues s ps 1 [F.HOLD_CTRL.addr, F.HOLD_TAU.addr, F.HOLD_COVER.addr, F.HOLD_SLEWTHR.addr,
      F.HOLD_JUMPTHR.addr, F.HOLD_WMAX.addr, F.HOLD_CONTRACT.addr]) (fun _ s => s.hoscEval) h s

/-- A slot's estimate restarts from its prior, and a reference assigned to it must be QUALIFIED for 1000 s again (R84, R163). -/
def State.slotRestart (n : Nat) (s : State) : State :=
  let s := (s.set (F.HOLD_MEMBER_NSAMP n) 0).set (F.HOLD_MEMBER_SIGMA n) (s.get (F.HOLD_MEMBER_PRIOR n))
  match s.slotEntity n with
  | none => s
  | some e => (s.setHold { s.hold with noise := modAt s.hold.noise e (fun _ => {}), weights := s.hold.weights.filter (fun p => p.1 ≠ e) }).modRef e
      (fun r => { r with qualSecs := 0 })

/-- R138, R163: HOLD_MEMBERCFG. -/
def execHoldMembercfg (h : WbHead) (ps : List Word) (s : State) : Res :=
  runOp 0x2040 false h ps s fun s =>
    let n := param s ps 0
    let r := param s ps 2 % 16
    if n < 2 ∨ 7 < n then s.waybillErr 4 h
    else if (12 ≤ r ∧ r < 15) ∨ (r < 12 ∧ (List.range 6).any (fun i => i + 2 ≠ n && s.get (F.HOLD_MEMBER_CFG_SRC (i + 2)) = r)) then
      genCheck (F.HOLD_MEMBER_GEN n) (param s ps 1) h s fun s => s.waybillErr 4 h
    else cfgOp (F.HOLD_MEMBER_GEN n) (param s ps 1 1)
      (cfgValues s ps 2 [(F.HOLD_MEMBER_CFG n).addr, (F.HOLD_MEMBER_PRIOR n).addr])
      (fun old s => ((match old.slotEntity n with | some e => s.weightZero e | none => s).slotRestart n).showSlot n) h s

/-- R163: HOLD_AOSCCFG. -/
def execHoldAosccfg (h : WbHead) (ps : List Word) (s : State) : Res :=
  runOp 0x2080 false h ps s fun s =>
    genCheck F.HOLD_AOSC_GEN (param s ps 0) h s fun s =>
      if param s ps 1 / 1024 % 64 < 7 then s.waybillErr 4 h
      else cfgOp F.HOLD_AOSC_GEN (param s ps 0 1) (cfgValues s ps 1 [F.HOLD_AOSC_CFG.addr, F.HOLD_AOSC_ACK.addr, F.HOLD_AOSC_DACINIT.addr,
        F.HOLD_AOSC_SLOPE.addr, F.HOLD_AOSC_UNIT.addr, F.HOLD_AOSC_STEERINT.addr, F.HOLD_AOSC_STEPMAX.addr]) noPost h s

/-- The header words of HOLD_MODELREPORT: the model registers and TRAINAGE. -/
def State.modelHead (s : State) : State × List Word := s.mgmtReads [(F.HOLD_MDL_D.addr, 12), F.HOLD_TRAINAGE.run]

/-- R163: HOLD_MODELREPORT. -/
def execHoldModelreport (h : WbHead) (ps : List Word) (s : State) : Res :=
  runOp 0x20C0 true h ps s fun s =>
    let n := param s ps 0
    if 256 < n ∨ (n ≠ 0 ∧ param s ps 1 = 0) then s.waybillErr 4 h
    else
      let (s, ws) := s.modelHead
      if n = 0 then s.done h ws
      else (s.acceptLong h 0x20C0 .running).setHold { s.hold with reports := s.hold.reports ++ [(h, n, param s ps 1 1, 0, ws)] }

/-- A signed value of 32 bits as two words, saturating. -/
def twoWords (v : Int) : List Word := wordsOf (ofSigned 32 (satSigned 32 v)) 2

/-- The predicted phase at `t` seconds in units of 0.1 ns, and B_hold from B0 = 0. -/
def State.predict (s : State) (t : Nat) : List Word :=
  let f := s.oscFreq (if s.hosc = 0 then 12 else 13)
  let d := mdl s.model 0
  let phase := f * t / 100000000000000 + d * t * t / 17280000000000
  let b := holdTerm s.model (s.get (F.HOLD_MEMBER_SIGMA s.hosc)) (s.get F.HOLD_TAU) (s.dTemp (mdl s.model 5)) (s.get F.HOLD_COVER)
    (s.get F.HOLD_INFLATE) (t * 1000)
  twoWords phase ++ twoWords (ceilDiv b 100)

/-- R163: HOLD_MODELREPORT of a ring and slot computes its next step. -/
def execModelReportStep (ring slot : Nat) (s : State) : Res :=
  match s.hold.reports.find? (fun r => r.1.ring = ring ∧ r.1.slot = slot) with
  | none => .next s
  | some (h, n, m, k, res) =>
    if s.running h then
      hwAfter 7 s fun s =>
        let res := res ++ s.predict ((k + 1) * m * 60)
        let others := s.hold.reports.filter (fun r => ¬ (r.1.ring = ring ∧ r.1.slot = slot))
        let s := s.setHold { s.hold with reports := others ++ [(h, n, m, k + 1, res)] }
        s.longStep h (k + 1) n res (fun s => s.setHold { s.hold with reports := others })
    else .next s

/-- R147: HOLD_RETRAIN. -/
def execHoldRetrain (h : WbHead) (ps : List Word) (s : State) : Res :=
  runOp 0x2100 false h ps s fun s =>
    genCheck F.HOLD_GEN (param s ps 0) h s fun s =>
      if s.on F.HOLD_STAT_HOLDOVER then (s.failed h .notPermitted)
      else
        let s := s.modelPriors.bump F.HOLD_GEN
        s.done h (s.fw F.HOLD_GEN)

end Sys2Proof.Machine
end

