-- ==== Sys2Proof/Machine/Pins.lean ====
section
/-! DEFINITION. The output pins as functions of the state: PWR_WARN_N (spec/02 R54, R57), PPS_OUT, CLKOUT0 to CLKOUT3 and EVT_OUT0 to EVT_OUT15
(spec/06 R177, R179, R181, R182; spec/18 R457), ARB_REQ and CLM_OUT (spec/18 R443), FLT_ALV0 to FLT_ALV3 and FLT_CRIT (spec/17 R422, R428) and
HIRQ_N (spec/15 R389). -/
namespace Sys2Proof.Machine

/-- An output pin: high-impedance, or driven low or high. -/
inductive Pin | z | low | high
  deriving DecidableEq, Repr

/-- A driven level. -/
def Pin.level (b : Bool) : Pin := if b then .high else .low

/-- PWR_WARN_N (R57): held low in START and WARNING, released in NORMAL, floating in RESET, BATTERY and OFF. -/
inductive WarnPin | low | released | floating
  deriving DecidableEq, Repr

def State.pwrWarnN (s : State) : WarnPin :=
  match s.psu.sup with
  | .start | .warning => .low
  | .normal => .released
  | .off | .battery => .floating

/-- The time from which a unit that became active at H starts outputs: `gap` (2^-48 ns) after a coordinated H (R457), at any other (R458). -/
def State.startFrom (s : State) (gap : Nat) : Option Nat := s.rdn.startAt.map (fun x => if x.2 then x.1 + gap else x.1)

/-- R182: an output with EN set drives: the start is complete and the claim gate is open. -/
def State.outputOn (s : State) (en : Bool) : Bool := en && s.up && s.claimGate

/-- The inner copy of a pulse from `a` on lets the pin start: H + 400 ns, or H, is past, and the copy has been inactive since (R457, R458). -/
def State.pulseFree (s : State) (a : Nat) (active : Bool) : Bool :=
  match s.startFrom (400 * NS48) with
  | none => true
  | some t => decide (t ≤ s.now) && (!active || decide (t ≤ a))

/-- PPS_OUT (R177, R182): asserted from its edge for PPS_WIDTH, with the polarity of PPS_CFG.POL. -/
def State.ppsActive (s : State) : Bool := decide (s.tb.pps.highFrom ≤ s.now ∧ s.now < s.tb.pps.highUntil)
def State.ppsOut (s : State) : Pin :=
  if s.outputOn (s.on F.TBASE_PPS_CFG_EN) && s.pulseFree s.tb.pps.highFrom s.ppsActive then Pin.level (s.ppsActive != s.on F.TBASE_PPS_CFG_POL) else .z

/-- EVT_OUTn (R182, R183): high for the width of an entry from each edge; the handover exception of R457 keeps a pulse's gate open. -/
def State.evtActive (s : State) (n : Nat) : Bool := decide ((s.evt n).highFrom ≤ s.now) && (s.evt n).highUntil.any (fun t => s.now < t)
def State.evtOut (s : State) (n : Nat) : Pin :=
  let held := s.rdn.evtHold.any (fun x => x.1 = n && s.now < x.2)
  if held || (s.outputOn (s.on (F.TBASE_EVT_CFG_EN n)) && s.pulseFree (s.evt n).highFrom (s.evtActive n)) then
    Pin.level ((held || s.evtActive n) != s.on (F.TBASE_EVT_CFG_POL n))
  else .z

/-- A CLKOUT pin: high-impedance; at its inactive level; or running with a period of `div` synthesis periods of which it is high for `high`, which for
`div` 1 is the synthesis clock itself; an aligned one has an active edge at TBASE time `edge` (2^-48 ns). -/
inductive ClkPin
  | z
  | idle (level : Pin)
  | run (div high : Nat) (edge : Option Nat)
  deriving DecidableEq, Repr

/-- f_synth in hertz, as numerator and denominator (R113, R179). -/
def State.synthHz (s : State) : Nat × Nat := (s.synthN * 156250000, s.get (F.APLL_PLL_POSTDIV 2) * 2 ^ 48)

/-- The frequency of CLKOUTn in hertz, as numerator and denominator: f_synth ÷ DIV (R179). -/
def State.clkHz (s : State) (n : Nat) : Nat × Nat := (s.synthHz.1, s.synthHz.2 * s.get (F.TBASE_CLK_DIV n))

/-- CLKOUTn (R179 to R182): stopped at its inactive level while SQUELCH is 1 or a realignment is awaited; with ALIGN it has an active edge at each TAI
second plus OFFSET, the next of which is shown. -/
def State.clkOut (s : State) (n : Nat) : ClkPin :=
  let div := s.get (F.TBASE_CLK_DIV n)
  let gap := 3 * (s.clkHz n).2 * 1000000000 * NS48 / max 1 (s.clkHz n).1
  if !s.outputOn (s.on (F.TBASE_CLK_CFG_EN n)) || (s.startFrom gap).any (fun t => s.now < t) then .z
  else if s.on (F.APLL_PLL_LOCK_SQUELCH 2) || s.clkWaits n then .idle (Pin.level (s.on (F.TBASE_CLK_CFG_INV n)))
  else .run div (div / 2) (if s.on (F.TBASE_CLK_CFG_ALIGN n) then some (s.clkNext n) else none)

/-- ALIGN is set on a clock whose nominal frequency is no whole number of hertz, within 2^-8 Hz (R180, Table 14-9; log entry 19). -/
def State.badAlign (s : State) (n : Nat) : Bool :=
  let (a, b) := s.clkHz n
  let r := a % max 1 b * 256 / max 1 b
  s.on (F.TBASE_CLK_CFG_ALIGN n) && decide (1 ≤ r ∧ r < 255)

/-! ### The pins of RDN, FCOL and INTC -/

/-- What the arbiter drives to a unit (R449): the 100 kHz signal of a denial, or a grant held high. -/
inductive ArbPin
  | z
  | hold (high : Bool)
  | denial
  deriving DecidableEq, Repr

/-- The arbiter's grant to unit `u` (Table 18-5): a holder is granted, and in a handover window both are. -/
def State.arbGrant (s : State) (u : Nat) : ArbPin :=
  let st := s.get F.RDN_ARBSTAT_STATE
  if st = u + 1 || 3 ≤ st then .hold true else .denial

/-- RDN drives its pins: from the end of step 3, outside safe configuration (R443). -/
def State.rdnDrives (s : State) : Bool := s.past 3 && s.seq.st ≠ .safe

/-- ARB_REQ (R443, R447, R451). -/
def State.arbReq (s : State) : ArbPin :=
  if !s.rdnDrives then .z
  else if s.rdn.mode = 0 then .hold false
  else if s.rdn.mode = 1 then .hold s.arbReqHigh
  else if s.rdn.mode = 2 then s.arbGrant 1
  else .z

/-- CLM_OUT while bit `k` of the latest claim frame is on the line (R443, R445, R451). -/
def State.clmOut (s : State) (k : Nat) : ArbPin :=
  if !s.rdnDrives then .z
  else if s.rdn.mode = 0 then .hold true
  else if s.rdn.mode = 1 then .hold (s.rdn.claimSent / 2 ^ k % 2 = 1)
  else if s.rdn.mode = 2 then s.arbGrant 0
  else .z

/-- FLT_ALVd (Table 17-4): high-impedance in DOWN, a 1 kHz square wave in ALIVE, else low. -/
inductive AlivePin | z | toggles | low
  deriving DecidableEq, Repr

def State.fltAlv (s : State) (d : Nat) : AlivePin :=
  match (s.dom d).st with
  | .down => .z
  | .alive => .toggles
  | .faulted | .clearable => .low

/-- FLT_CRIT (R427, R428): high-impedance until step 3 completes and in safe configuration. -/
def State.fltCrit (s : State) : Pin := if s.rdnDrives then Pin.level (s.on F.FCOL_CRIT_PIN) else .z

/-- HIRQ_N, an open drain (R389, R472): low while the host target's line is asserted, in safe configuration too, where HIF runs and Table 2-9 has every
output pin high-impedance: the spec does not say which of the two holds (log entry 27). -/
def State.hirqN (s : State) : Pin := if s.intc.host.line then .low else .z

end Sys2Proof.Machine
end

