-- ==== Sys2Proof/Machine/Pkt.lean ====
section
/-! DEFINITION. The commands of PKT (spec/10), the speculation's (spec/01 R31 to R41), and AUTH's that reach PKT's slots (spec/11). -/
namespace Sys2Proof.Machine

/-- An event of PKT's: the NET island runs from the end of step 6, outside safe configuration (R488; log entry 7). -/
def pktEvent (c : Bool) (s : State) (f : State → State) : Res := if s.past 6 && s.seq.st ≠ .safe && c then fin (f s) else .next s

/-! ### Receive -/

/-- A service frame of class `c` on port `p`, with its receive stamp (R260 to R263). -/
def State.acceptReq (s : State) (p c : Nat) (f : Frame) (rx : Option Nat) : State :=
  let key := s.frameKey p f
  let auth := s.needsAuth key.group f.body
  let r : Req := { id := s.pkt.nextId, port := p, cls := c, key := key, rx := rx.getD 0, body := f.body, needAuth := auth }
  if c = 6 then if auth then s.addReq r else slaveInput r s
  else if s.mute || !s.classOn key.group c then s
  else if rx.isNone then s.pc 16
  else if 8192 ≤ s.storeFill key.group then (s.pc 19).evtSet F.PKT_EVT_RQOVF 148
  else (s.addReq r).resolve r.id slaveInput

/-- R257 to R263: a frame is received on port `p`; `m` is where its reference point lies; `busy` says that it arrives faster than the classifier
accepts it. -/
def execFrameReceive (p : Nat) (f : Frame) (m : MeterPoint) (busy : Bool) (s : State) : Res :=
  pktEvent (s.portUp p) s fun s =>
    let (s, rx) := s.rxMeasure (s.rxLane p) m
    if busy then (s.pc 18).evtSet F.PKT_EVT_RXOVF 148
    else if !s.isService p f then s.hostFrame
    else
      let s := s.pc 0
      match s.classOf p f with
      | none => s.pc 31
      | some c => (s.pc (classCnt c)).acceptReq p c f rx

/-- R264: CTAB's decision on request `id` reaches PKT. -/
def execCtabDecisionReturn (id : Nat) (s : State) : Res :=
  match s.req? id with
  | some r => match r.dec with
    | some d => pktEvent r.got.isNone s fun s => s.decisionIn r d slaveInput
    | none => .next s
  | none => .next s

/-- R262: AUTH's verdict on request `id` reaches PKT. -/
def execAuthVerdictReturn (id : Nat) (s : State) : Res :=
  match s.req? id with
  | some r => match r.ver with
    | some v => pktEvent r.gotVer.isNone s fun s => (s.modReq id (fun r => { r with gotVer := some v })).resolve id slaveInput
    | none => .next s
  | none => .next s

/-- R263: CTAB or AUTH has not answered request `id` within 10 µs. -/
def execRequestTimeout (id : Nat) (s : State) : Res :=
  pktEvent (s.req? id).isSome s fun s => (((s.dropReq id).pc 20).evtSet F.PKT_EVT_LKTMO 151).fault 0x0B 3

/-! ### Transmit -/

/-- R267 to R272, R292: a convoy close: waiting configuration takes effect, and the convoy of every port is filled; the plans give each port's next period. -/
def execConvoyClose (plans : List ConvoyPlan) (s : State) : Res :=
  pktEvent true s fun s =>
    let s := s.applyCfgs
    (List.range s.nPorts).foldl (State.closePort plans) s

/-- R31, R273, R274: the transmit PCS reports slot `id`'s delimiter in unit interval `pos`.  A port that receives local fault sends none (R243); a
displaced delimiter comes where it has been moved to (R236, R238). -/
def execPcsDelimiterReport (id pos : Nat) (s : State) : Res :=
  match s.slot? id with
  | none => .next s
  | some x =>
    let p := x.item.port
    let okPh := (x.ph = .placed && (x.shift = 0 || decide ((pos : Int) = x.pos + x.shift))) || (x.ph = .locked && pos = x.pos)
    pktEvent (okPh && s.portSends p && (!x.needTag || x.tagged)) s fun s =>
      let n := s.txLane p
      let (s, t) := s.txMeasure n pos
      let s := s.modSlot id (fun y => { y with ph := .confirmed, spec := false })
      if x.ph = .locked then ((((s.pc 8).showConfirmed p x.stamp 1).countFall x).commitSlot x x.stamp 1)
      else if !x.spec then s.plainSent x t
      else if pos = x.pos then
        let s := (s.pc 6).countFall x
        let s := if s.shows x then s.showConfirmed p x.stamp 0 else s.setPkt { s.pkt with prevTx := modAt s.pkt.prevTx p (fun _ => (x.stamp, 0, true)) }
        let s := t.elim s (fun v => s.predCheck n x.stamp v)
        s.commitSlot x x.stamp 0
      else (((s.pc 7).evtSet F.PKT_EVT_STOMP 145).missSlot x).modSlot id (fun y => { y with found := pos })

/-- An item is a response or a PTP message, which TXRESP counts; ARP and host frames are neither (Table 10-12). -/
def Item.isResponse (it : Item) : Bool :=
  match it.src with
  | .arp _ _ | .host _ => false
  | _ => true

/-- R36: slot `id`'s frame check sequence reaches the stomp stage; before the report the stage holds it. -/
def execFcsRelease (id : Nat) (s : State) : Res :=
  match s.slot? id with
  | none => .next s
  | some x =>
    pktEvent (x.fcs && (x.ph = .confirmed || x.ph = .missed)) s fun s =>
      let s := s.setPkt { s.pkt with lastFcs := some (id, decide (x.ph = .missed)) }
      if x.ph = .confirmed then (if x.item.isResponse then s.pc 5 else s).dropSlot id
      else if x.wantLock then s.modSlot id (fun y => { y with fcs := false })
      else s.dropSlot id

/-- 480 ns in unit intervals of port `p`'s lane, rounded down. -/
def State.lockLead (s : State) (p : Nat) : Nat := 480 * NS48 * 32 / s.nominal (s.txLane p)

/-- A slot stays where it is when a locked one is committed at `pos`: it is no open speculation from there on (R274). -/
def Slot.stays (x : Slot) (p pos : Nat) : Bool := x.item.port = p && !(x.spec && x.ph = .placed && pos ≤ x.pos) && x.ph ≠ .missed

/-- Unit interval `pos` is a permitted position for slot `x`'s response, 480 ns or more after its delimiter was found elsewhere, and overlaps no slot that
stays (R274).  The PCS has filled the lane with idles up to it (R39), so that what MTS predicts before it moves it no more. -/
def State.lockable (s : State) (x : Slot) (pos : Nat) : Bool :=
  let p := x.item.port
  let n := x.item.octets x.content
  let room := s.octetUi 20
  let busy := s.pkt.slots.any (fun y => y.stays p pos && decide (y.pos < pos + s.octetUi n + room) && decide (pos < y.pos + y.len + room))
  !busy && decide (x.found + s.lockLead p ≤ pos) && decide (s.placeAfter p pos pos n = pos)

/-- R39, R274, R275: the PCS commits unit interval `pos` for the re-send of slot `id`'s response, and the speculative slots from there on are
withdrawn.  Without a locked meter the re-send has no stamp and is dropped (R247, R271). -/
def execLockedSlotCommit (id pos : Nat) (s : State) : Res :=
  match s.slot? id with
  | none => .next s
  | some x =>
    let p := x.item.port
    pktEvent (x.wantLock && s.portSends p && s.lockable x pos) s fun s =>
      let s := s.withdrawAll (s.openSpec.filter (fun y => y.item.port = p && pos ≤ y.pos))
      let s := if x.fcs then s.modSlot id (fun y => { y with wantLock := false }) else s.dropSlot id
      if !s.portMeter p then s.pc 17
      else
        let stamp := s.txStampOf (s.txLane p) pos
        match s.compose x.item stamp with
        | .drop c => c.elim s s.pc
        | .frame c inter tag bound => s.place x.item c false inter tag bound pos stamp true x.fall

/-- R39, R275: no report has come 2 µs after slot `id`'s locked unit interval. -/
def execLockedSlotTimeout (id : Nat) (s : State) : Res :=
  match s.slot? id with
  | none => .next s
  | some x => pktEvent (x.ph = .locked) s fun s => s.loseSlot x

/-- R41, R275: slot `id`'s speculation is unresolved 2 µs after its unit interval. -/
def execSpeculationTimeout (id : Nat) (s : State) : Res :=
  match s.slot? id with
  | none => .next s
  | some x =>
    pktEvent (x.spec && x.ph = .placed) s fun s =>
      (((s.pc 11).evtSet F.PKT_EVT_SPECTMO 147).fault 0x0B 1).missSlot x

/-- R276: a TAI second ends. -/
def execMissSecond (s : State) : Res :=
  pktEvent true s fun s =>
    let high := decide (s.get F.PKT_MISSLIM < s.pkt.misses)
    let s := s.setPkt { s.pkt with misses := 0, hostSec := 0, kodSec := 0 }
    if high then (s.evtSet F.PKT_EVT_MISSRATE 154).fault 0x0B 2 else s

/-! ### AUTH's tag jobs -/

/-- The slot of a tag job. -/
def AuthJob.slot : AuthJob → Option Nat
  | .tag n | .retag n => some n
  | .verify _ _ => none

def AuthJob.isRetag : AuthJob → Bool
  | .retag _ => true
  | _ => false

/-- A slot's tag comes back. -/
def State.tagged (s : State) (id : Nat) (t : Tag) : State := s.modSlot id (fun y => { y with tagged := true, tag := t })

/-- The verdict that PKT holds for the request a slot answers. -/
def Slot.verdict (x : Slot) : Option Verdict :=
  match x.item.src with
  | .req r => r.gotVer
  | _ => none

/-- A tag job can run: AUTH draws no nonce for an NTS response while DRBGOK is 0 (R315). -/
def State.canTag (s : State) (j : AuthJob) : Bool :=
  j.slot.any (fun n => s.on F.AUTH_STAT_DRBGOK || !((s.slot? n).any (fun x => match x.verdict with
    | some (.pass _ (some _) alg _ _) => alg ≠ 0
    | _ => false)))

/-- R303, R306, R307: AUTH runs its first tag job that can run, re-tags before the others (R295). -/
def execAuthTagJob (s : State) : Res :=
  match (s.auth.jobs.find? (fun j => j.isRetag && s.canTag j)).orElse (fun _ => s.auth.jobs.find? s.canTag) with
  | none => .next s
  | some j =>
    pktEvent true s fun s =>
      let s := s.setAuth { s.auth with jobs := s.auth.jobs.erase j }
      State.mintsDue <| match j.slot.bind s.slot? with
      | none => s
      | some x =>
        match x.content with
        | .ptp o =>
          match s.ptpKey o.group with
          | none => ((s.dropSlot x.id).unshow x).bump (F.AUTH_CNT 12)
          | some n => s.tagged x.id (s.ptpSeal o n)
        | .ntp o =>
          let y := s.ntpSeal o x.verdict
          y.1.tagged x.id y.2
        | _ => s

/-- R297: slot `id`'s tag would come after its deadline. -/
def execAuthTagLate (id : Nat) (s : State) : Res :=
  match s.slot? id with
  | none => .next s
  | some x =>
    pktEvent (x.needTag && !x.tagged && (x.ph = .placed || x.ph = .locked)) s fun s =>
      ((if x.ph = .placed then s.withdraw x else s.loseSlot x).bump (F.AUTH_CNT 13)).evtSet F.AUTH_EVT_TAGLATE 164

/-! ### PTP (R280 to R286) -/

/-- R280: an Announce (11) or Sync (0) interval of group `g` falls due, on every port of the group and every enabled transport. -/
def execPtpScheduledMessage (g type : Nat) (s : State) : Res :=
  pktEvent (g < 2 && (type = 11 || type = 0) && s.on F.PKT_CTRL_PTPEN && s.on (F.PKT_PTP_CFG_EN g) && !s.mute) s fun s =>
    let trs := [0, 1, 2].filter (fun t => s.on (if t = 0 then F.PKT_PTP_CFG_UDP4 g else if t = 1 then F.PKT_PTP_CFG_UDP6 g else F.PKT_PTP_CFG_L2 g))
    (s.groupPorts g).foldl (fun s p => trs.foldl (fun s t => s.addReady ⟨p, 1, .sched g type t none, 0⟩) s) (s.firstAnnounce g type)

/-- R284: the stream that entry `n` was granted falls due. -/
def execGrantStreamMessage (n type : Nat) (s : State) : Res :=
  match s.pkt.grants.find? (fun x => x.entry = n && x.type = type) with
  | none => .next s
  | some x => pktEvent (type ≠ 9 && s.secNow < x.expiry && !s.mute && s.on F.PKT_CTRL_PTPEN && s.on (F.PKT_PTP_CFG_EN x.group)) s fun s => s.addReady ⟨x.port, 1, .sched x.group type x.tr (some n), 0⟩

/-- R284: the grant of entry `n` reaches its expiry. -/
def execGrantExpiry (n type : Nat) (s : State) : Res :=
  pktEvent (s.pkt.grants.any (fun x => x.entry = n && x.type = type && x.expiry ≤ s.secNow)) s fun s =>
    s.setGrants (s.pkt.grants.filter (fun x => !(x.entry = n && x.type = type)))

/-- R285: the slave of group `g` computes offsetFromMaster and passes it to RMON. -/
def execSlaveSyncMeasurement (g : Nat) (s : State) : Res :=
  let v := s.slave g
  match v.pair, v.delay with
  | some (t1, t2), some d =>
    pktEvent (v.pairNew && s.get (F.PKT_PTP_SLVSTAT_STATE g) = 3) s fun s =>
      let off := toPs ((t2 : Int) - t1 - d)
      ((s.setSlave g { v with pairNew := false }).setI (F.PKT_PTP_SLVOFF g) off).refOffset (9 + g) off
  | _, _ => .next s

/-- R285: the Delay_Req interval of group `g`'s slave falls due. -/
def execSlaveDelayReqSend (g : Nat) (s : State) : Res :=
  pktEvent (g < 2 && 2 ≤ s.get (F.PKT_PTP_SLVSTAT_STATE g)) s fun s =>
    let v := s.slave g
    (s.setSlave g { v with dreqSeq := (v.dreqSeq + 1) % 65536, dreq := none }).addReady ⟨s.slavePort g, 1, .slaveReq g, 0⟩

/-- R285: group `g`'s slave asks for its grants, or renews them at half their duration. -/
def execSlaveGrantRenew (g : Nat) (s : State) : Res :=
  pktEvent (g < 2 && s.on (F.PKT_PTP_SLVCFG_UNICAST g) && 1 ≤ s.get (F.PKT_PTP_SLVSTAT_STATE g) && [11, 0, 9].any ((s.slave g).due s.secNow)) s fun s => s.addReady ⟨s.slavePort g, 1, .slaveSig g, 0⟩

/-- R286: no Announce for three announce intervals. -/
def execSlaveAnnounceTimeout (g : Nat) (s : State) : Res :=
  pktEvent (g < 2 && 1 ≤ s.get (F.PKT_PTP_SLVSTAT_STATE g)) s fun s => s.slvListen g

/-- R286: no Sync for three Sync intervals in SLAVE. -/
def execSlaveSyncTimeout (g : Nat) (s : State) : Res :=
  pktEvent (g < 2 && s.get (F.PKT_PTP_SLVSTAT_STATE g) = 3) s fun s => s.slvListen g

/-- R287: the common bound has held for SVCHOLD ms. -/
def execSvcholdExpiry (s : State) : Res :=
  pktEvent ((s.get F.PKT_SVC_STATE = 3 || s.get F.PKT_SVC_STATE = 4) && !s.boundOver && s.get F.PKT_SVCHOLD ≤ s.pkt.svcMs) s fun s => (s.svcTo 2).classEval

/-! ### Waybills (Table 10-15) -/

/-- A configuration operation waits for the next convoy close (R292). -/
def State.pktLater (s : State) (h : WbHead) (given : Nat) (regs : List (Nat × Nat)) (act : CfgAct) : State :=
  s.setPkt { s.pkt with cfgs := s.pkt.cfgs ++ [⟨h, given, regs, act⟩] }

/-- R292: PKT_CFG. -/
def execPktCfg (h : WbHead) (ps : List Word) (s : State) : Res :=
  runOp 0x5800 false h ps s fun s =>
    let l := cfgValues s ps 1 [F.PKT_CTRL.addr, F.PKT_SVCHOLD.addr, F.PKT_NTPPREC.addr, F.PKT_MISSLIM.addr, F.PKT_HOSTMAX.addr]
    s.pktLater h (param s ps 0) l .control

/-- R292: PKT_LIMITCFG. -/
def execPktLimitcfg (h : WbHead) (ps : List Word) (s : State) : Res :=
  runOp 0x5840 false h ps s fun s =>
    let l := cfgValues s ps 1 [F.PKT_ANONRATE.addr, F.PKT_ANONBURST.addr, F.PKT_ANONPFX.addr, F.PKT_ANONMAX.addr, F.PKT_KODMAX.addr,
      F.PKT_GRANTMIN.addr, F.PKT_GRANTMAXDUR.addr, F.PKT_GRANTBUDGET.addr]
    s.pktLater h (param s ps 0) l .plain

/-- R292: PKT_ADDRCFG. -/
def execPktAddrcfg (h : WbHead) (ps : List Word) (s : State) : Res :=
  runOp 0x5880 false h ps s fun s =>
    let k := param s ps 0
    if 8 ≤ k then s.waybillErr 0xb h
    else s.pktLater h (param s ps 1) (cfgValues s ps 2 [(F.PKT_ADDR_CFG k).addr, (F.PKT_ADDR_VLAN k).addr, (F.PKT_ADDR_IP k).addr]) .plain

/-- R292: PKT_PORTCFG. -/
def execPktPortcfg (h : WbHead) (ps : List Word) (s : State) : Res :=
  runOp 0x58C0 false h ps s fun s =>
    if 8 ≤ param s ps 0 then s.waybillErr 0xb h
    else s.pktLater h (param s ps 1) (cfgValues s ps 2 [(F.PKT_PORT_MAC (param s ps 0 1)).addr]) .plain

/-- R292, R284: PKT_PTPCFG. -/
def execPktPtpcfg (h : WbHead) (ps : List Word) (s : State) : Res :=
  runOp 0x5900 false h ps s fun s =>
    let g := param s ps 0
    if 2 ≤ g then s.waybillErr 0xb h
    else
      let l := cfgValues s ps 2 [(F.PKT_PTP_CFG g).addr, (F.PKT_PTP_DOMAIN g).addr, (F.PKT_PTP_PRIO g).addr, (F.PKT_PTP_INTV g).addr, (F.PKT_PTP_SPP g).addr]
      s.pktLater h (param s ps 1) l (.instanceOf g)

/-- R292: PKT_SLAVECFG. -/
def execPktSlavecfg (h : WbHead) (ps : List Word) (s : State) : Res :=
  runOp 0x5940 false h ps s fun s =>
    let g := param s ps 0
    if 2 ≤ g then s.waybillErr 0xb h
    else
      let l := cfgValues s ps 2 [(F.PKT_PTP_SLVCFG g).addr, (F.PKT_PTP_SLVMASTER g).addr, (F.PKT_PTP_SLVADDR g).addr]
      s.pktLater h (param s ps 1) l (.slaveOf g)

/-- R292: PKT_REFIDCFG. -/
def execPktRefidcfg (h : WbHead) (ps : List Word) (s : State) : Res :=
  runOp 0x5980 false h ps s fun s =>
    let n := param s ps 1
    if 13 ≤ n then s.waybillErr 0xb h
    else s.pktLater h (param s ps 0) (cfgValues s ps 2 [if n = 12 then F.PKT_REFIDHOLD.addr else (F.PKT_REFID n).addr]) .plain

/-- R292: PKT_COUNTREPORT. -/
def execPktCountreport (h : WbHead) (ps : List Word) (s : State) : Res :=
  runOp 0x59C0 false h ps s fun s =>
    let n := param s ps 1
    if 33 ≤ param s ps 0 ∨ 33 < param s ps 0 1 + n then s.waybillErr 0xb h
    else s.doneRd h [((F.PKT_CNT (param s ps 0 2)).addr, 2 * n)]

/-- The snapshots of some ports' LASTTX and LASTST (R42): the read of LASTTX's least significant word latches the rest and LASTST with it. -/
def State.stampReads (s : State) : List Nat → State × List (List Word)
  | [] => (s, [])
  | p :: l =>
    let x := s.mgmtReads [(F.PKT_PORT_LASTTX p).run, (F.PKT_PORT_LASTST p).run]
    let y := x.1.stampReads l
    (y.1, x.2 :: y.2)

/-- R292, R42: PKT_STAMPREPORT; the header's SPEC bit is set where a stamp reported is unconfirmed (R367). -/
def execPktStampreport (h : WbHead) (ps : List Word) (s : State) : Res :=
  runOp 0x5A00 false h ps s fun s =>
    let a := param s ps 0
    let n := param s ps 1
    if 8 ≤ a ∨ 8 < a + n then s.waybillErr 0xb h
    else
      let l := (List.range n).map (· + a)
      let x := s.stampReads l
      x.1.finish h .done .ok 0xFFFF (x.2.flatMap (fun w => w.getLastD 0 :: w.dropLast)) (x.2.any (fun w => w.getLastD 0 % 2 = 1))

/-- R292: PKT_SLAVEREPORT. -/
def execPktSlavereport (h : WbHead) (ps : List Word) (s : State) : Res :=
  runOp 0x5A40 false h ps s fun s =>
    let g := param s ps 0
    if 2 ≤ g then s.waybillErr 0xb h
    else
      let x := s.mgmtReads [(F.PKT_PTP_SLVSTAT g).run, (F.PKT_PTP_SLVCUR g).run, (F.PKT_PTP_SLVOFF g).run, (F.PKT_PTP_SLVDELAY g).run,
        (F.PKT_PTP_SLVCHG g).run]
      (x.1.set (F.PKT_PTP_SLVCHG g) 0).done h x.2

/-- R284: PKT_GRANTCLEAR. -/
def execPktGrantclear (h : WbHead) (ps : List Word) (s : State) : Res :=
  runOp 0x5A80 false h ps s fun s =>
    if 3 ≤ param s ps 1 then s.waybillErr 0xb h else s.pktLater h (param s ps 0) [] (.grants (param s ps 1 1))

/-- R292: PKT_SVCREPORT. -/
def execPktSvcreport (h : WbHead) (ps : List Word) (s : State) : Res :=
  runOp 0x5AC0 false h ps s fun s =>
    s.doneRd h [F.PKT_SVC.run, F.PKT_EVT.run, F.PKT_GRANTLOAD.run, F.PKT_GRANTCNT.run]

end Sys2Proof.Machine
end

