-- ==== Sys2Proof/Machine/Rmon.lean ====
section
/-! DEFINITION. The commands of RMON and of the selector (spec/03). -/
namespace Sys2Proof.Machine

/-- R80: an edge on REF_INn, sampled with fine code `c` at the tick whose TBASE time is `tick` (2^-48 ns); interpolator index 16 + n (R196).  The
stamp is taken to 2^-32 ns and carried in ps. -/
def execRefEdge (n tick c : Nat) (s : State) : Res :=
  if n < 8 ∧ s.on (F.RMON_REF_CFG_ENABLE n) then hwAfter 6 s fun s => s.refEdge n (s.edgeAt 32 (16 + n) tick c * 1000 / 2 ^ 32) else .next s

/-- R80: a reference's activity condition lapses. -/
def execRefActivityLoss (n : Nat) (s : State) : Res :=
  if n < 12 ∧ s.on (F.RMON_REF_STATE_ACT n) then hwAfter 6 s fun s => s.actLost n else .next s

/-- R90: a qualification timer reaches QUALTIME; with the phase witness valid, the window passed and the offset below ACCEPT the reference
qualifies. -/
def execQualTimerExpiry (n : Nat) (s : State) : Res :=
  if n < 12 ∧ s.qual n = 2 ∧ s.on F.RMON_WITNESS_PVALID ∧ s.on (F.RMON_REF_STATE_FWOK n)
      ∧ (s.getI (F.RMON_REF_OFFSET n)).natAbs < s.get (F.RMON_REF_ACCEPT n) then
    hwAfter 6 s fun s => (s.qualify n).set (F.RMON_REF_QREMAIN n) 0
  else .next s

/-- R91: the once-per-second fit of every reference. -/
def execRmonSlopeFit (s : State) : Res := hwAfter 6 s State.rmonSecond

/-- R86: NOENS has been 0 for 1 s, so the phase part returns. -/
def execWitnessPhaseReturn (s : State) : Res :=
  if s.on F.TBASE_STAT_TIMESET ∧ !s.on F.HOLD_STAT_NOENS then hwAfter 6 s fun s => s.setPvalid true else .next s

/-- R100: the vote timer expires. -/
def execVoteExpiry (s : State) : Res := hwAfter 6 s State.voteEnd

/-- R107: RMON_REFCFG.  REF8 to REF11 keep the FNOM, DIFF and PHASEMODE they read. -/
def execRmonRefcfg (h : WbHead) (ps : List Word) (s : State) : Res :=
  runOp 0x1000 false h ps s fun s =>
    let n := param s ps 0
    if 12 ≤ n then s.waybillErr 2 h else
    let l := cfgValues s ps 2 [(F.RMON_REF_CFG n).addr, (F.RMON_REF_FNOM n).addr, (F.RMON_REF_QUALTIME n).addr, (F.RMON_REF_ACCEPT n).addr,
      (F.RMON_REF_REJECT n).addr, (F.RMON_REF_SLOPELIM n).addr, (F.RMON_REF_FWIN n).addr, (F.RMON_REF_DELAY n).addr]
    let acc := paramN s ps 6 2
    let rej := paramN s ps 8 2
    let on := param s ps 2 % 2 = 1
    let fixed := if n < 8 then l else
      l.map (fun p => if p.1 = (F.RMON_REF_FNOM n).addr then (p.1, 1)
        else if p.1 = (F.RMON_REF_CFG n).addr then (p.1, putBits (putBits p.2 1 1 0) 2 1 1) else p)
    if on ∧ rej ≤ acc then genCheck (F.RMON_REF_GEN n) (param s ps 1) h s fun s => s.waybillErr 2 h
    else cfgOp (F.RMON_REF_GEN n) (param s ps 1 1) fixed (refPost n) h s

/-- R107: RMON_STATUS. -/
def execRmonStatus (h : WbHead) (ps : List Word) (s : State) : Res :=
  runOp 0x1040 false h ps s fun s =>
    let n := param s ps 0
    if 12 ≤ n then s.waybillErr 2 h
    else s.doneRd h [((F.RMON_REF_STATE n).addr, 9)]

/-- R107: RMON_REQUAL; the slope window is kept.  A reference in OFF or NOSIG goes to QUALIFYING too, as Table 3-9 says without a condition, and the
next update sends it on (DESIGN CHOICE, log entry 31: Table 3-2 enters QUALIFYING only on activity or from REJECTED). -/
def execRmonRequal (h : WbHead) (ps : List Word) (s : State) : Res :=
  runOp 0x1080 false h ps s fun s =>
    let n := param s ps 0
    if 12 ≤ n then s.waybillErr 2 h
    else genCheck (F.RMON_REF_GEN n) (param s ps 1) h s fun s =>
      ((s.refTo n 2).modRef n (fun r => { r with timer := 0 })).done h

/-- R107: RMON_HISTORY; fewer words where the window holds fewer samples, each rounded down to 0.1 ns (log entry 31). -/
def execRmonHistory (h : WbHead) (ps : List Word) (s : State) : Res :=
  runOp 0x10C0 false h ps s fun s =>
    let n := param s ps 0
    if 12 ≤ n ∨ 999 < param s ps 1 ∨ 64 < param s ps 2 then s.waybillErr 2 h
    else s.done h ((((s.ref n).win.drop (param s ps 1 1)).take (param s ps 2 1)).map (fun p => wI (p / 100)))

/-- R96, R107: DPLL_SELECT. -/
def execDpllSelect (h : WbHead) (ps : List Word) (s : State) : Res :=
  runOp 0x1A00 false h ps s fun s =>
    genCheck F.DPLL_SELGEN (param s ps 0) h s fun s =>
      if 32 ≤ param s ps 1 then s.waybillErr 3 h
      else (((s.set F.DPLL_SELMAN (param s ps 1 1)).bump F.DPLL_SELGEN).newChoice).done h

/-- R99, R107: DPLL_RESOLVE ends the conflict; the next tick takes the reference, with REASON 5. -/
def execDpllResolve (h : WbHead) (ps : List Word) (s : State) : Res :=
  runOp 0x1A40 false h ps s fun s =>
    genCheck F.DPLL_SELGEN (param s ps 0) h s fun s =>
      let r := param s ps 1
      if 12 ≤ r then s.waybillErr 3 h
      else if !(s.on F.DPLL_SELSTAT_CONFLICT && s.eligibleRef r && s.bit F.DPLL_SELCONF_MAP r) then (s.failed h .notPermitted)
      else
        let s := s.clearConflict
        ({ s with dpll := { s.dpll with resolve := some r } }).done h

/-- R107: DPLL_SELREPORT. -/
def execDpllSelreport (h : WbHead) (ps : List Word) (s : State) : Res :=
  runOp 0x1A80 false h ps s fun s =>
    (s.lookedAt 3 2).done h (([F.DPLL_SELMAN, F.DPLL_SELSTAT, F.DPLL_SELCONF, F.DPLL_SELVREM, F.RMON_QUALMAP, F.RMON_DRIFTMAP]).map (fun f => s.rd f.addr))

/-- R96: a direct write of the manual choice. -/
def State.selmanWrite (v : Nat) (s : State) : State :=
  if 32 ≤ v then s.blockErr 3 else ((s.set F.DPLL_SELMAN v).bump F.DPLL_SELGEN).newChoice
def execDpllSelmanWrite (v : Nat) (s : State) : Res := directWrite 3 s (State.selmanWrite v)

end Sys2Proof.Machine
end

