-- ==== Sys2Proof/Machine/Ctab.lean ====
section
/-! DEFINITION. The commands of CTAB and of its memory (spec/12). -/
namespace Sys2Proof.Machine

/-- An event of CTAB's: it needs the trained memory and its own condition (log entry 7). -/
def ctabEvent (c : Bool) (s : State) (f : State → State) : Res := if s.ctabUp && c then fin (f s) else .next s

/-- R331: CTAB looks up the key of request `id` and decides; `held` leaves the lease open. -/
def execLookupDecide (id : Nat) (held : Bool) (s : State) : Res :=
  match s.req? id with
  | some r => ctabEvent (r.dec.isNone && r.looksUp && s.turn r) s fun s => s.lookup r held
  | none => .next s

/-- R332: CTAB takes the oldest commit; `held` leaves its lease open. -/
def execCtabCommit (held : Bool) (s : State) : Res :=
  match s.ctab.commits with
  | c :: r => ctabEvent true s fun s => s.underLease c.entry (.commit c) fun s =>
      let s := s.setCtab { s.ctab with commits := r }
      if held then s.holdLease c.entry (.commit c) else s.commit c
  | [] => .next s

/-- R328: the holder of entry `n`'s lease releases it, and CTAB applies the write set.  A bulk engine or core that has been fenced releases nothing: its
lease expires (R429). -/
def execLeaseRelease (n : Nat) (s : State) : Res :=
  match s.ctab.leases.find? (fun l => l.entry = n) with
  | none => .next s
  | some l => ctabEvent (l.op ≠ .load || s.bulkRuns s.loadRun) s fun s =>
    let s := s.dropLease n
    match l.op with
    | .decide id => (s.req? id).elim s (fun r => s.decideEntry r n)
    | .commit c => s.commit c
    | .load => s.loadNext
    | .sweep => s

/-- R329: a lease is not released within 2 µs. -/
def execLeaseExpiry (n : Nat) (s : State) : Res :=
  ctabEvent (s.leased n) s fun s =>
    ((((((s.dropLease n).eSetBit n 1 true).seal n).inc F.CTAB_LEASEEXP).raise 179)).fault 0x0D 4 n

/-- An uncorrectable error is counted with its address and raises source 177 (R321). -/
def State.eccUnc (s : State) (a : Nat) : State := ((s.inc F.CTAB_ECCUNC).set F.CTAB_ECCLAST a).raise 177

/-- R329: the re-read of a suspect entry; `ecc` says that its ECC is good.  ENTCRC is checked against the stored bytes. -/
def execLeaseReread (n : Nat) (ecc : Bool) (s : State) : Res :=
  ctabEvent (s.eBit n 1 && !s.eBad n && !s.leased n) s fun s =>
    if ecc && s.eGet n 0xFC 4 = crc32 (s.memBytes (entAddr n) 0xFC) then (s.eSetBit n 1 false).seal n
    else (if ecc then s else s.eccUnc (entAddr n)).setBad n

/-- R329: a fenced master that still holds the MEM port is released by force; its operation, if the fence has not ended it (R431), ends now. -/
def execForcedRelease (s : State) : Res :=
  ctabEvent (s.get F.FCOL_FENCEMAP ≠ 0) s fun s =>
    let s := ((s.inc F.CTAB_FORCEREL).raise 183).fault 0x0D 5
    if s.bit F.FCOL_FENCEMAP 6 then s.bulkFenced else s

/-- R321: the scrubber finds and corrects `n` single-bit errors. -/
def execPatrolScrub (n : Nat) (s : State) : Res := ctabEvent true s fun s => if n = 0 then s else s.eccCorr n

/-- R321: a double-bit error at an address, handled by region. -/
def execEccUncorrectable (a : Nat) (s : State) : Res :=
  ctabEvent (a < memEnd) s fun s =>
    let s := s.eccUnc a
    let s := if s.dmaReads a then s.dmaEnd 1 4 else s
    if a < idxBase then s.setBad (a / 0x400)
    else if a < histBase then s.bucketLost ((a - idxBase) / 64)
    else if a < loadBase then
      (s.memPut (histAddr ((a - histBase) / 0x200)) 0x200 0).fault 0x0D 3
    else
      let s := s.fault 0x0D 7
      if acqBase ≤ a ∧ a < ldgBase then (if s.gnss.job.any (fun j => a < acqBase + j.blocks * Config.acqBlockBytes) then s.acqEnd .aborted .dataError else s)
      else if ldgBase ≤ a then
        match s.fcol.dump.filter (fun d => a < ldgBase + (if d.summary then 4096 else d.total * 48)) with
        | some d => ({ s with fcol := { s.fcol with dump := none } }).finish d.wb .failed .dataError (progressOf d.done d.total) []
        | none => s
      else s.stagingLost a

/-- R326: the scan of every rebuilding bucket finishes. -/
def execIndexRebuildDone (s : State) : Res :=
  ctabEvent (!s.ctab.rebuild.isEmpty) s fun s =>
    let l := s.ctab.rebuild
    let s := l.foldl State.rebuildBucket s
    ((s.setCtab { s.ctab with rebuild := [] }).setB F.CTAB_STAT_REBUILD false).raise 181

/-- R335: the next load record is applied or rejected; `held` leaves the entry's lease open. -/
def execLoadRecordApply (held : Bool) (s : State) : Res :=
  ctabEvent (s.bulkRuns s.loadRun) s fun s =>
    let n := s.loadEntry
    if 4194303 < n then s.loadNext
    else s.underLease n .load fun s => if held then s.holdLease n .load else s.loadNext

/-- R337: the sweep visits its next entry. -/
def execSweepEntryVisit (s : State) : Res := ctabEvent (s.bulkRuns s.sweepRun) s State.sweepNext

/-- R338: the dump copies its next item. -/
def execDumpItemCopy (s : State) : Res := ctabEvent (s.bulkRuns s.dumpRun) s State.dumpNext

/-- R339: DQS drift is tracked without stopping traffic: no state that the spec gives changes. -/
def execDqsTrack (s : State) : Res := ctabEvent true s fun s => s

/-- R339: ZQ is recalibrated without stopping traffic: no state that the spec gives changes. -/
def execZqRecal (s : State) : Res := ctabEvent true s fun s => s

/-- R339: the memory dies report a temperature above, or no longer above, 85 °C. -/
def execMemoryDieTemperature (hot : Bool) (s : State) : Res :=
  ctabEvent true s fun s => s.setCtab { s.ctab with refresh2 := hot }

/-- R342: CTAB_CFG. -/
def execCtabCfg (h : WbHead) (ps : List Word) (s : State) : Res :=
  runOp 0x6800 false h ps s fun s =>
    cfgOp F.CTAB_GEN (param s ps 0) (cfgValues s ps 1 [F.CTAB_BULKSHARE.addr, F.CTAB_SCRUBH.addr, F.CTAB_CELIM.addr, F.CTAB_HISTW.addr]) noPost h s

/-- A bulk operation of `kind` (0 load, 1 sweep, 2 dump) finds the engine busy: one of each kind runs at a time (R337, R338). -/
def State.bulkBusy (s : State) (kind : Nat) : Bool :=
  (if kind = 0 then s.loadRun else if kind = 1 then s.sweepRun else s.dumpRun).isSome

/-- Start a bulk operation, or refuse it as busy; a count of 0 completes DONE before that refusal (R15; log entry 66). -/
def startBulk (w0 kind count : Nat) (b : Bulk) (h : WbHead) (s : State) : State :=
  if count = 0 then s.done h
  else if s.bulkBusy kind then s.failed h .busy
  else
    let s := s.acceptLong h w0 .running
    (s.setCtab { s.ctab with bulks := s.ctab.bulks ++ [b] }).setB F.CTAB_STAT_BULKBUSY true

/-- R336: CTAB_LOAD. -/
def execCtabLoad (h : WbHead) (ps : List Word) (s : State) : Res :=
  runOp 0x6840 true h ps s fun s =>
    let first := paramN s ps 0 2
    let n := paramN s ps 2 2
    if 3145727 < first ∨ 3145728 < first + n then s.waybillErr 0xd h
    else
      let t := if s.bulkBusy 0 && n ≠ 0 then s else (s.set F.CTAB_LOADAPP 0).set F.CTAB_LOADREJ 0
      startBulk 0x6840 0 n (.load h first n n []) h t

/-- R337: CTAB_SWEEP. -/
def execCtabSweep (h : WbHead) (ps : List Word) (s : State) : Res :=
  runOp 0x6880 true h ps s fun s =>
    let first := paramN s ps 0 2
    let n := paramN s ps 2 2
    if 4194304 < first + n ∨ 32 ≤ param s ps 4 ∨ 3 ≤ param s ps 9 ∨ 4096 < param s ps 10 then s.waybillErr 0xd h
    else startBulk 0x6880 1 n (.sweep h first n n (param s ps 4 1) (paramN s ps 5 2) (paramN s ps 7 2) (param s ps 9 1) (param s ps 10 1) []) h s

/-- R338: CTAB_DUMP. -/
def execCtabDump (h : WbHead) (ps : List Word) (s : State) : Res :=
  runOp 0x68C0 true h ps s fun s =>
    let kind := param s ps 0
    let first := paramN s ps 1 2
    let n := paramN s ps 3 2
    if 2 ≤ kind ∨ 4194304 < first + n ∨ (if kind = 0 then 524288 else 1048576) < n then s.waybillErr 0xd h
    else startBulk 0x68C0 2 n (.dump h (kind = 1) first n n) h s

/-- R342: CTAB_ENTRYREAD. -/
def execCtabEntryread (h : WbHead) (ps : List Word) (s : State) : Res :=
  runOp 0x6900 false h ps s fun s =>
    let n := paramN s ps 0 2
    if 4194303 < n then s.waybillErr 0xd h else s.done h (s.memWords (entAddr n) 128)

/-- R342: CTAB_LOOKUP. -/
def execCtabLookup (h : WbHead) (ps : List Word) (s : State) : Res :=
  runOp 0x6940 false h ps s fun s =>
    if 8 ≤ param s ps 0 ∨ param s ps 0 1 % 4 = 3 ∨ 4096 ≤ param s ps 1 then s.waybillErr 0xd h
    else match s.findKey (keyOf (param s ps 0 2) (param s ps 1 1) (paramN s ps 2 8)) with
      | some n => s.done h (wordsOf n 2)
      | none => (s.done h [0xFFFF, 0xFFFF])

/-- R342: CTAB_MEMREPORT. -/
def execCtabMemreport (h : WbHead) (ps : List Word) (s : State) : Res :=
  runOp 0x6980 false h ps s fun s =>
    s.doneRd h [F.CTAB_STAT.run, (F.CTAB_ENTRIES.addr, 2), (F.CTAB_BADCNT.addr, 2), F.CTAB_ECCCORR.run, F.CTAB_ECCUNC.run,
      (F.CTAB_ECCLAST.addr, 3), F.CTAB_TRAIN.run]

end Sys2Proof.Machine
end

