-- ==== Sys2Proof/Machine/Lane.lean ====
section
/-! DEFINITION. The commands of LANE and MTS (spec/09). -/
namespace Sys2Proof.Machine

/-- An event of a lane that is powered and enabled. -/
def onLane (n : Nat) (ok : State → Bool) (s : State) (f : State → State) : Res :=
  if s.laneRuns n && ok s then fin (f s) else .next s

/-- R241: detector `det` of lane `n` declares its lost condition; `bad` invalid sync headers have come on the lane since the last count, beside the
16 that lose block lock. -/
def execLaneLoss (n det bad : Nat) (s : State) : Res :=
  onLane n (fun s => decide (det < 6) && s.detGood n det && (det ≠ 4 || s.aligns n)) s (fun s => (s.badHeaders n bad).detLost n det)

/-- R240, R242: detector `det` of lane `n` is restored, `bad` invalid sync headers having come since the last count; alignment with the arrivals of the
port's lanes, UI, that the deskew buffer absorbs. -/
def execLaneDetectorRestore (n det bad : Nat) (arrivals : List Nat) (s : State) : Res :=
  onLane n (fun s => s.canRestore n det && !s.detGood n det && (det ≠ 4 || (decide (arrivals.length = 4) && skewOk arrivals))) s (fun s => (s.badHeaders n bad).detBack n det arrivals)

/-- R240: the 20 PCS lanes of port `p` are not aligned within 10 ms of block lock on all four lanes; alignment starts again. -/
def execDeskewTimeout (p : Nat) (s : State) : Res :=
  onLane (4 * p) (fun s => s.canRestore (4 * p) 4 && !s.on (F.LANE_LANE_STAT_AMLOCK (4 * p))) s (fun s => (s.raise 116).fault 9 2 p)

/-- R240: after 64 blocks of which `bad` had an invalid sync header, partner lane `n` slips one bit. -/
def execPlinkBitSlip (n bad : Nat) (s : State) : Res :=
  onLane n (fun s => decide (8 ≤ n) && decide (1 ≤ bad ∧ bad ≤ 64) && s.on (F.LANE_LANE_STAT_CDRLOCK n) && !s.on (F.LANE_LANE_STAT_BLKLOCK n)) s
    (fun s => (s.inc (F.LANE_LANE_SLIPS n)).badHeaders n bad)

/-- R240: a bit-slip search finds no lock within 1 ms and starts again. -/
def execPlinkLockTimeout (n : Nat) (s : State) : Res :=
  onLane n (fun s => decide (8 ≤ n) && s.on (F.LANE_LANE_STAT_CDRLOCK n) && !s.on (F.LANE_LANE_STAT_BLKLOCK n)) s (fun s => s.raise 120)

/-- R236, R237: in the predicted unit interval `pos`, with fill `fill`, an idle block is deleted or inserted between frames, or idle blocks make room for
an alignment marker; `marker` is the place of the next one. -/
def execRateMatchEvent (n pos fill : Nat) (marker : Option Nat) (s : State) : Res :=
  onLane n (fun s => decide (4 < fill ∧ fill < 28) && !s.inFrame n pos
      && (s.atMarker n pos || ((decide (18 ≤ fill) || decide (fill ≤ 14)) && s.predicted n pos (decide (fill ≤ 14))))) s
    (fun s =>
      if s.atMarker n pos then (s.setFill n fill).setMarker n pos marker
      else let f := if 18 ≤ fill then fill - 1 else fill + 1; (s.setFill n f).rebuild n pos f marker)

/-- R238: in unit interval `pos` an insertion, deletion or recentring that MTS did not predict.  Only a recentring does not wait for a gap (R236). -/
def execRateMatchUnscheduled (n pos fill : Nat) (marker : Option Nat) (s : State) : Res :=
  onLane n (fun s => recentres fill || ((decide (18 ≤ fill) || decide (fill ≤ 14)) && !s.inFrame n pos && !s.predicted n pos (decide (fill ≤ 14)))) s fun s =>
    let f := if recentres fill then 16 else if 18 ≤ fill then fill - 1 else fill + 1
    let s := (((s.inc (F.MTS_LANE_RMUNSCH n)).raise 138).fault 0x0A 2).rebuild n pos f marker
    let s := (s.setFill n f).displace n pos (66 * ((f : Int) - fill))
    if recentres fill && n < 8 then s.frameCut (s.lanePort n) else s

/-- R246: the residual of a meter has stayed below METERTOL for 100 µs; `word`, `time` and `period` are its model, 2^-48 ns. -/
def execMeterLock (n : Nat) (rx : Bool) (word time period resid : Nat) (s : State) : Res :=
  onLane n (fun s => (if rx then s.on (F.LANE_LANE_STAT_CDRLOCK n) && !s.bit F.MTS_RXLOCKMAP n else s.on (F.LANE_LANE_STAT_TXPLLOCK n) && !s.bit F.MTS_LOCKMAP n)
      && decide (resid < s.get F.MTS_METERTOL) && s.inRange n period) s
    (fun s =>
      let s := (s.setMeter n rx { (if rx then s.rxM n else s.txM n) with word := word, time := time, period := period } resid).meterSet n rx true
      if rx then s else s.rebuild n (32 * word) (at' 16 s.mts.fill n) none)

/-- R246: the residual of a locked meter exceeds 4 × METERTOL for 16 samples.  A clock that stops unlocks its meter with the loss itself. -/
def execMeterUnlock (n : Nat) (rx : Bool) (resid : Nat) (s : State) : Res :=
  onLane n (fun s => s.bit (if rx then F.MTS_RXLOCKMAP else F.MTS_LOCKMAP) n && decide (4 * s.get F.MTS_METERTOL < resid)) s
    (fun s => (s.setSat (if rx then F.MTS_LANE_RESID_RX n else F.MTS_LANE_RESID_TX n) resid).meterOff n rx)

/-- R255: a second of RS-FEC on lane `n`, the port's counts in the group of its lane 0. -/
def execFecSecond (n corr unc : Nat) (s : State) : Res :=
  onLane n (fun s => decide (n < 8) && s.on F.LANE_MODE_FEC && s.portMode ≠ 2) s fun s =>
    let g := if s.portMode = 1 then n / 4 * 4 else n
    let s := (s.setSat (F.LANE_LANE_FECCORR g) (s.get (F.LANE_LANE_FECCORR g) + corr)).setSat (F.LANE_LANE_FECUNC g) (s.get (F.LANE_LANE_FECUNC g) + unc)
    if s.get F.LANE_FECLIM < unc then (s.raise 117).fault 9 3 else s

/-- R243: a lane in UP begins or stops receiving local and remote fault ordered sets. -/
def execLinkFaultOrderedSets (n : Nat) (loc remote : Bool) (s : State) : Res :=
  onLane n (fun s => s.laneUp n) s fun s =>
    let l := s.mts.lfault.filter (fun m => m ≠ n)
    (s.setMts { s.mts with lfault := if loc then n :: l else l }).setB (F.LANE_LANE_STAT_RFAULT n) remote

/-- R235: LANE_MODESET. -/
def execLaneModeset (h : WbHead) (ps : List Word) (s : State) : Res :=
  runOp 0x4800 false h ps s fun s =>
    genCheck F.LANE_GEN (param s ps 0) h s fun s =>
      let v := param s ps 1
      if 8 ≤ v || v % 4 = 3 || (v % 4 = 2 && 4 ≤ v) then s.waybillErr 9 h
      else
        let s := (s.modeSet v).bump F.LANE_GEN
        s.done h (s.fw F.LANE_GEN)

/-- R256: LANE_LANECFG. -/
def execLaneLanecfg (h : WbHead) (ps : List Word) (s : State) : Res :=
  runOp 0x4840 false h ps s fun s =>
    let n := param s ps 0
    genCheck F.LANE_GEN (param s ps 1) h s fun s =>
    if 10 ≤ n then s.waybillErr 9 h
    else cfgOp F.LANE_GEN (s.get F.LANE_GEN) (cfgValues s ps 2 [(F.LANE_LANE_CFG n).addr, (F.LANE_LANE_TXEQ n).addr, (F.LANE_LANE_RXEQ n).addr]) (lanePost n) h s

/-- R256: LANE_RESTART. -/
def execLaneRestart (h : WbHead) (ps : List Word) (s : State) : Res :=
  runOp 0x4880 false h ps s fun s =>
    genCheck F.LANE_GEN (param s ps 0) h s fun s =>
      let m := param s ps 1
      if 1024 ≤ m then s.waybillErr 9 h
      else if m = 0 then (s.done h (s.fw F.LANE_GEN))
      else
        let s := (List.range 10).foldl (fun s n => if m / 2 ^ n % 2 = 1 && s.laneRuns n then (s.laneStart n).laneAdvance n else s) s
        let s := s.bump F.LANE_GEN
        s.done h (s.fw F.LANE_GEN)

/-- R256: LANE_REPORT, its counters read as RC. -/
def execLaneReport (h : WbHead) (ps : List Word) (s : State) : Res :=
  runOp 0x48C0 false h ps s fun s =>
    let n := param s ps 1
    if 10 ≤ param s ps 0 ∨ 10 < param s ps 0 1 + n then s.waybillErr 9 h
    else
      let r := s.reportRange (fun n => [(F.LANE_LANE_STAT n, false), (F.LANE_LANE_SKEW n, false), (F.LANE_LANE_SLIPS n, true), (F.LANE_LANE_LOSCNT n, true),
        (F.LANE_LANE_DOWNCNT n, true), (F.LANE_LANE_BERCNT n, true), (F.LANE_LANE_FECCORR n, true), (F.LANE_LANE_FECUNC n, true),
        (⟨(F.LANE_LANE_TXLAT n).addr, 0, 16⟩, false)]) (param s ps 0 2) n
      r.2.done h r.1

/-- R256: MTS_CFG. -/
def execMtsCfg (h : WbHead) (ps : List Word) (s : State) : Res :=
  runOp 0x5000 false h ps s fun s =>
    cfgOp F.MTS_GEN (param s ps 0) (cfgValues s ps 1 [F.MTS_METERTOL.addr, F.MTS_PREDTOL.addr]) noPost h s

/-- R248: MTS_LANECFG. -/
def execMtsLanecfg (h : WbHead) (ps : List Word) (s : State) : Res :=
  runOp 0x5040 false h ps s fun s =>
    let n := param s ps 0
    genCheck F.MTS_GEN (param s ps 1) h s fun s =>
    if 10 ≤ n then s.waybillErr 0xa h
    else cfgOp F.MTS_GEN (s.get F.MTS_GEN)
      (cfgValues s ps 2 [(F.MTS_LANE_CFG n).addr, (F.MTS_LANE_TXDLY n).addr, (F.MTS_LANE_RXDLY n).addr, (F.MTS_LANE_DLYUNC n).addr]) noPost h s

/-- R256: MTS_METERREPORT. -/
def execMtsMeterreport (h : WbHead) (ps : List Word) (s : State) : Res :=
  runOp 0x5080 false h ps s fun s =>
    let n := param s ps 1
    if 10 ≤ param s ps 0 ∨ 10 < param s ps 0 1 + n then s.waybillErr 0xa h
    else
      let r := s.reportRange (fun n => [(F.MTS_LANE_TXFREQ n, false), (F.MTS_LANE_RXFREQ n, false), (F.MTS_LANE_RESID n, false), (F.MTS_LANE_RMUNSCH n, false),
        (F.MTS_LANE_PREDERR n, false), (F.MTS_LANE_PREDCNT n, false), (F.MTS_LANE_BND n, false)]) (param s ps 0 2) n
      r.2.done h r.1

end Sys2Proof.Machine
end

