-- ==== Sys2Proof/Machine/Mgmt.lean ====
section
/-! DEFINITION. The operations of MGMT and its audit (spec/14; spec/01 R45).  Taking a waybill from a ring stands in Hif. -/
namespace Sys2Proof.Machine


/-- R379: MGMT_ECHO. -/
def execMgmtEcho (h : WbHead) (ps : List Word) (s : State) : Res := runOp 0x7800 false h ps s fun s => s.done h (ps.take 60)

/-- R379: MGMT_LIST. -/
def execMgmtList (h : WbHead) (ps : List Word) (s : State) : Res :=
  runOp 0x7840 false h ps s fun s =>
    if 64 < param s ps 1 then s.waybillErr 0xf h
    else s.done h (((s.mgmt.taken.drop (param s ps 0)).take (param s ps 1 1)).flatMap Taken.listed)

/-- R378: MGMT_CANCEL. -/
def execMgmtCancel (h : WbHead) (ps : List Word) (s : State) : Res :=
  runOp 0x7880 false h ps s fun s =>
    if 3 < param s ps 0 then s.waybillErr 0xf h
    else match s.named (param s ps 0 1) (param s ps 1) with
      | none => s.done h [0]
      | some t => match s.cancel t with
        | none => s.failed h .notPermitted
        | some s => s.done h [w16 t.state.code]

/-- R378: MGMT_SUSPEND completes once its target reaches its stopping point, or ends. -/
def execMgmtSuspend (h : WbHead) (ps : List Word) (s : State) : Res :=
  runOp 0x78C0 false h ps s fun s =>
    if 3 < param s ps 0 then s.waybillErr 0xf h
    else match s.named (param s ps 0 1) (param s ps 1) with
      | none => s.failed h .notPermitted
      | some t =>
        if t.long && t.state = ManSt.running && suspendable t.w0.toNat then
          s.modTaken t.ring t.slot (fun t => { t with suspReqs := t.suspReqs ++ [h] })
        else s.failed h .notPermitted

/-- R379: MGMT_RESUME. -/
def execMgmtResume (h : WbHead) (ps : List Word) (s : State) : Res :=
  runOp 0x7900 false h ps s fun s =>
    if 3 < param s ps 0 then s.waybillErr 0xf h
    else match s.named (param s ps 0 1) (param s ps 1) with
      | none => s.failed h .notPermitted
      | some t =>
        if t.state = ManSt.partialSt then ((s.advance t.head .running t.progress t.results).done h [2])
        else s.failed h .notPermitted

/-- R379: MGMT_AUDITREPORT, its counter read as RC. -/
def execMgmtAuditreport (h : WbHead) (ps : List Word) (s : State) : Res :=
  runOp 0x7940 false h ps s fun s =>
    let r := s.report [(F.MGMT_AUDGEN, false), (F.MGMT_AUDMIS, true), (F.MGMT_AUDLAST, false)]
    r.2.done h r.1

/-- R379: MGMT_VERSION. -/
def execMgmtVersion (h : WbHead) (ps : List Word) (s : State) : Res :=
  runOp 0x7980 false h ps s fun s =>
    s.doneRd h ([F.MGMT_FWVER.run, F.MGMT_FWBUILD.run] ++ (List.range 20).map (fun b => (b * 0x10000, 1)))

/-- R379: MGMT_COUNTREPORT, its counters read as RC. -/
def execMgmtCountreport (h : WbHead) (ps : List Word) (s : State) : Res :=
  runOp 0x79C0 false h ps s fun s =>
    let r := s.report [(F.MGMT_TAKEN, false), (F.MGMT_CRCERR, true), (F.MGMT_FRAMEERR, true), (F.MGMT_UNKNOWN, true), (F.MGMT_MANFAIL, true)]
    r.2.done h r.1

end Sys2Proof.Machine
end

