-- ==== Sys2Proof/Machine/Rdn.lean ====
section
/-! DEFINITION. The commands of RDN (spec/18). -/
namespace Sys2Proof.Machine

/-- An event of a paired unit. -/
def whenPaired (ok : Bool) (s : State) (f : State → State) : Res := if s.paired && ok then fin (f s) else .next s

/-- An event of an arbiter-only unit. -/
def whenArbiter (ok : Bool) (s : State) (f : State → State) : Res := if s.arbiter && ok then fin (f s) else .next s

/-- R445: CLM_OUT sends a claim frame. -/
def execClaimFrameSend (s : State) : Res := whenPaired true s fun s => s.setRdn { s.rdn with claimSent := s.ownFrame }

/-- R445: CLM_IN brings a claim frame, bit i of Table 18-2 as bit i of `frame`. -/
def execClaimFrameReceive (frame : Nat) (s : State) : Res := whenPaired true s fun s => s.claimIn frame

/-- R445, R461: no valid claim frame for 128 µs. -/
def execClaimSilence (s : State) : Res :=
  whenPaired (s.on F.RDN_STAT_CLMOK) s fun s => ((s.setB F.RDN_STAT_CLMOK false).raise 250).fault 0x13 2

/-- R450: ARB_GNT is decoded: 0 DENIED, 1 GRANTED, 2 ABSENT. -/
def execArbGntDecode (g : Nat) (s : State) : Res := whenPaired (decide (g < 3)) s fun s => s.grantIn g

/-- R452, R454: the heartbeats of the enabled partner lanes, and the grant mirror frames that wait; `a`, `b` are the unit intervals of
their delimiters on PLINK0 and PLINK1. -/
def execHeartbeatSend (a b : Nat) (s : State) : Res :=
  whenPaired true s fun s =>
    let s := if s.droverOn 0 then s.beat 0 a else s
    let s := if s.droverOn 1 then s.beat 1 b else s
    if (s.droverOn 0 || s.droverOn 1) && !s.rdn.mirror.isEmpty then s.setRdn { s.rdn with mirror := [], mirrored := s.rdn.mirror } else s

/-- R452, R453, R456: a valid heartbeat is received on partner lane `i`. -/
def execHeartbeatReceive (i : Nat) (hb : Heartbeat) (m : MeterPoint) (s : State) : Res :=
  whenPaired (s.droverOn i) s fun s => s.beatIn i hb m

/-- R452, R461: no valid heartbeat on any enabled lane within RDN_HBTMO. -/
def execHeartbeatTimeout (s : State) : Res :=
  whenPaired (s.on F.RDN_STAT_PARTNER) s fun s =>
    let s := ((s.setB F.RDN_STAT_PARTNER false).inc F.RDN_HBLOSS).raise 249
    (s.setRdn { s.rdn with partnerReady := false }).fault 0x13 1

/-- R454: a grant mirror frame: client key, which record (0 Announce, 1 Sync, 2 Delay_Resp), its 16 bytes. -/
def execGrantMirrorReceive (k : Key) (type record : Nat) (s : State) : Res :=
  whenPaired (s.role = 1 && decide (type < 3) && s.ctabUp && (s.droverOn 0 || s.droverOn 1)) s fun s => s.mirrorIn k type (record % 2 ^ 128)

/-- R456: the handover pulse on ARB_REQ ends. -/
def execArbReqPulseEnd (s : State) : Res := whenPaired s.rdn.pulse s fun s => s.setRdn { s.rdn with pulse := false }

/-- R456 to R458: the scheduled H is reached. -/
def execHandoverTime (s : State) : Res :=
  match s.rdn.ho with
  | none => .next s
  | some x => whenPaired (decide (x.h ≤ s.now)) s fun s => s.atH x

/-- R456 step 7: the old unit drops ARB_REQ at H + 10 µs, and 10 µs later (`ended`) it requests again if READY. -/
def execHandoverWithdraw (ended : Bool) (s : State) : Res :=
  whenPaired (if ended then s.rdn.withdraw else s.rdn.owes) s fun s =>
    s.setRdn (if ended then { s.rdn with withdraw := false } else { s.rdn with owes := false, withdraw := true })

/-- R460: at H + 500 µs and H + 1 ms the announcements are sent again. -/
def execNetworkAnnounce (s : State) : Res :=
  whenPaired (decide (0 < s.rdn.rounds)) s fun s => ((s.setRdn { s.rdn with rounds := s.rdn.rounds - 1 }).arpRound 0).arpRound 1

/-- R459: the common bound has exceeded the serve limit for 1 s while the partner's did not. -/
def execAutoReleaseBound (s : State) : Res :=
  whenPaired (s.on F.RDN_CFG_BNDREL && s.boundOver && decide (s.get F.RDN_PBOUND ≤ s.get F.EBND_SERVELIM * 1000)) s fun s => s.autoRelease

/-- R451: the arbiter samples on the request of unit `u`: 0 high, 1 a handover pulse, 2 a withdrawal. -/
def execArbiterRequestChange (u ev : Nat) (s : State) : Res :=
  whenArbiter (decide (u < 2 ∧ ev < 3) && (ev = 0 || s.on (arbReqF u))) s fun s =>
    if ev = 0 then s.setB (arbReqF u) true else if ev = 1 then s.arbPulse u else s.arbWithdraw u

/-- R451: requests have been high for 50 µs with no grant removed in that time; `q0`, `q1` say whose. -/
def execArbiterQualify (q0 q1 : Bool) (s : State) : Res :=
  let a := q0 && s.on (arbReqF 0)
  let b := q1 && s.on (arbReqF 1)
  whenArbiter (s.get F.RDN_ARBSTAT_STATE = 0 && (a || b)) s fun s =>
    s.arbTo (if a && b then s.get F.RDN_CFG_PREFER + 1 else if a then 1 else 2)

/-- R451: a handover window has lasted 1 s. -/
def execArbiterHandoverTimeout (s : State) : Res :=
  whenArbiter (decide (3 ≤ s.get F.RDN_ARBSTAT_STATE)) s fun s => s.arbTo (s.get F.RDN_ARBSTAT_STATE - 2)

/-- R464: RDN_CFG. -/
def execRdnCfg (h : WbHead) (ps : List Word) (s : State) : Res :=
  runOp 0x9800 false h ps s fun s =>
    genCheck F.RDN_GEN (param s ps 0) h s fun s =>
    if param s ps 1 % 4 = 3 then s.waybillErr 0x13 h
    else cfgOp F.RDN_GEN (s.get F.RDN_GEN) (cfgValues s ps 1 [F.RDN_CFG.addr, F.RDN_HBTMO.addr, F.RDN_PREP.addr]) noPost h s

/-- R456, R464: RDN_RELEASE. -/
def execRdnRelease (h : WbHead) (ps : List Word) (s : State) : Res :=
  runOp 0x9840 false h ps s fun s =>
    genCheck F.RDN_GEN (param s ps 0) h s fun s =>
      if s.canRelease then
        let s := s.release
        s.done h (s.fw F.RDN_GEN ++ s.fw F.RDN_HOTIME)
      else s.failed h .notPermitted

/-- R464: RDN_REPORT, its counters read as RC. -/
def execRdnReport (h : WbHead) (ps : List Word) (s : State) : Res :=
  runOp 0x9880 false h ps s fun s =>
    let r := s.showRdn.report [(F.RDN_STAT, false), (F.RDN_CLAIM, false), (F.RDN_PCLAIM, false), (⟨F.RDN_PFLAGS.addr, 0, 16⟩, false), (F.RDN_PBOUND, false),
      (F.RDN_SWCNT, true), (F.RDN_HOFAIL, true), (F.RDN_HBLOSS, true), (F.RDN_CLMERR, true), (F.RDN_CLMBACK, true), (F.RDN_DUALACT, true),
      (F.RDN_UNCOORD, true), (F.RDN_ARBSTAT, false)]
    r.2.done h r.1

end Sys2Proof.Machine
end

