-- ==== Sys2Proof/Machine/SeqOps.lean ====
section
/-! DEFINITION. Starts, resets, checkpoints and the configuration store (spec/02). -/
namespace Sys2Proof.Machine

def State.setSeq (s : State) (q : SeqBlk) : State := { s with seq := q }
def State.setPsu (s : State) (p : Psu) : State := { s with psu := p }
def State.setAon (s : State) (a : Aon) : State := { s with aon := a }
def State.setStore (s : State) (t : Store) : State := { s with store := t }

/-- The die runs: outside it PSU and AON alone are powered. -/
def State.dieOn (s : State) : Bool := s.seq.st ≠ .idle && s.seq.st ≠ .retry

/-! ### The configuration image (R59, R65, R79) -/

/-- RW registers that no image holds (the tables give them a fixed value after a start): DPLL_MODE.OPEN and SAMPIRQ, DPLL_SWFREQ, HOLD_TEXT,
LOOP of every lane, HIF's rings, queues and DMA. -/
def notStored (a : Nat) : Nat :=
  if a = F.DPLL_MODE.addr then 0x21
  else if F.DPLL_SWFREQ.addr ≤ a ∧ a < F.DPLL_SWFREQ.addr + 6 then 0xFFFF
  else if a = F.HOLD_TEXT.addr then 0xFFFF
  else if 0x090100 ≤ a ∧ a < 0x090380 ∧ a % 0x40 = 0 then 8
  else if 0x100100 ≤ a ∧ a < 0x100400 then 0xFFFF
  else 0

/-- The bits of the word at an address that the image covers. -/
def storedMask (a : Nat) : Nat := rwMask a &&& (0xFFFF ^^^ notStored a)

/-- A word with the bits of a mask from `new` and the others from `old`. -/
def mergeWord (mask : Nat) (old new : Word) : Word :=
  BitVec.ofNat 16 ((old.toNat &&& (0xFFFF ^^^ mask)) + (new.toNat &&& mask))

/-- The image of the registers as they stand. -/
def State.image (s : State) : List (Nat × Word) :=
  s.regs.filterMap fun p =>
    let m := storedMask p.1
    if m = 0 then none else
    let w := mergeWord m (regDefault p.1) p.2
    if w = regDefault p.1 then none else some (p.1, w)

/-- Load an image: the bits it covers, the others unchanged. -/
def State.loadImage (s : State) (l : List (Nat × Word)) : State :=
  l.foldl (fun s p => s.wr p.1 (mergeWord (storedMask p.1) (s.rd p.1) p.2)) s

/-- A field of the stored image, as step 1 reads it before step 3 loads it. -/
def State.storedField (s : State) (f : Field) : Nat :=
  let img := if s.store.a.ok then s.store.a.image else if s.store.b.ok then s.store.b.image else []
  (look (regDefault f.addr) img f.addr).toNat / 2 ^ f.lo % 2 ^ f.wid

/-! ### Checkpoints (R59 to R62) -/

/-- The registers a checkpoint carries, as word address and the bits that count: the model, its fit and its age, the estimates of the
members, the steering code and sum, the TDC set and temperature. -/
def ckptWords : List (Nat × Nat) :=
  let n : Nat → Nat → List (Nat × Nat) := fun a k => (List.range k).map (fun i => (a + 2 * i, 0xFFFF))
  [(F.HOLD_STAT.addr, 0x1A)] ++ n F.HOLD_TRAINAGE.addr 2 ++ n F.HOLD_MDL_D.addr 12
    ++ (List.range 8).flatMap (fun i => n (F.HOLD_MEMBER_SIGMA i).addr 3) ++ n F.HOLD_AOSC_CODE.addr 2 ++ n F.HOLD_AOSC_SUM.addr 3
    ++ [(F.TIC_CALSTAT.addr, 8), (F.TIC_CALTEMP.addr, 0xFFFF)]

/-- The holdover start state of R156. -/
def State.holdStart (s : State) : HoldStart :=
  let hold := s.on F.HOLD_STAT_HOLDOVER
  let sum := s.get (F.EBND_COMP 0) + s.get (F.EBND_COMP 1) + s.get (F.EBND_COMP 2) + s.get (F.EBND_COMP 7)
  { fAosc := s.freeFreq 12 / 1000000 - s.getI F.HOLD_AOSC_SUM
    fXtal := s.freeFreq 13 / 1000000
    at0 := s.now
    fe := if hold then s.hold.fe else s.feNow
    b0 := if hold || s.on F.HOLD_STAT_FROZEN then max sum (s.get F.HOLD_BHOLD) else sum
    te := if hold then s.hold.te else s.now
    temp := if hold then s.hold.tempTe else s.modelTemp
    sum := if hold then s.hold.sumTe else 0 }

/-- The contents of a checkpoint taken now. -/
def State.ckptNow (s : State) : Ckpt :=
  { slot := s.store.slot, seqNo := s.store.seqNo, complete := true, format := s.store.design
    regs := ckptWords.map (fun p => (p.1, s.rd p.1 &&& BitVec.ofNat 16 p.2))
    start := s.holdStart, freq := s.freq, tdc := s.tic.hits, tdcTemp := s.getI F.TIC_CALTEMP, trims := s.ctab.trims
    nav := s.gnss.chans.map (fun c => (c.1, c.2.units.flatMap (fun u => w16 u.type :: u.words)))
    ledgerWp := s.ledger.wp, wfail := s.store.wfail, cfail := s.store.cfail }

/-- The checkpoint in a ring slot. -/
def State.ckptAt (s : State) (k : Nat) : Option Ckpt := s.store.ckpts.find? (fun c => c.slot = k)

/-- Write a ring slot. -/
def State.putCkpt (s : State) (c : Ckpt) : State :=
  s.setStore { s.store with ckpts := c :: s.store.ckpts.filter (fun x => x.slot ≠ c.slot) }

/-- A request is accepted: the next slot is begun and stays incomplete until its commit word is written. -/
def State.ckptBegin (s : State) : State :=
  let k := if s.store.ckpts.isEmpty then 0 else (s.store.slot + 1) % 64
  let n := (s.store.seqNo + 1) % 65536
  let s := s.setStore { s.store with slot := k, seqNo := n }
  (s.putCkpt { slot := k, seqNo := n }).setSeq { s.seq with ckptRun := true }

/-- A checkpoint is requested (R61): by the supervisor or RST_N, or by a SEQ_CHECKPOINT, which the head names. -/
def State.requestCkpt (s : State) (h : Option WbHead) : State :=
  if s.seq.st ≠ .running then h.elim s (fun h => s.failed h .notPermitted)
  else
    let join := fun s : State => h.elim s (fun h => s.setSeq { s.seq with ckptWait := s.seq.ckptWait ++ [h] })
    if s.seq.ckptRun then join s
    else if s.seq.sinceCkpt < 100 then
      let s := (s.inc F.SEQ_CKPT_SKIPS).raise 4
      h.elim s (fun h => s.failed h .busy)
    else join s.ckptBegin

/-- Milliseconds pass for the 100 ms of R61. -/
def State.ckptTime (s : State) (ms : Nat) : State := s.setSeq { s.seq with sinceCkpt := min 100 (s.seq.sinceCkpt + ms) }

/-- SEQ_CKPT and SEQ_CKPTSEQ follow the ring. -/
def State.showCkpt (s : State) (valid : Bool) : State :=
  ((s.setB F.SEQ_CKPT_VALID valid).set F.SEQ_CKPT_SLOT s.store.slot).set F.SEQ_CKPTSEQ s.store.seqNo

/-! ### The reset of the die (R54, R58, R63, R69, R72) -/

/-- The failed-start counters as registers. -/
def State.showFails (s : State) : State := (s.set F.SEQ_FAILCNT_WFAIL s.store.wfail).set F.SEQ_FAILCNT_CFAIL s.store.cfail

/-- AON takes over the time TBASE last held, and APLL_AOSCFREQ with it (R63); a time that was never set is not valid. -/
def State.aonTake (s : State) : State :=
  if s.tb.counting then
    let f := s.get F.APLL_AOSCFREQ
    s.setAon { time := s.tb.time, valid := s.on F.TBASE_STAT_TIMESET, src := if f ≠ 0 && s.apll.aoscAct then 1 else 2, aoscFreq := f }
  else s

/-- Every island except AON resets, for a cause of SEQ_STARTINFO; `cold` where the reset asks for a cold start.  What is kept is in MRAM or in
AON, is a pin's level, or is the queue of commands. -/
def State.dieReset (s : State) (cause : Nat) (cold : Bool) : State :=
  let s := s.aonTake
  { psu := { s.psu with railExc := false, tempExc := false, resetLvl := decide (cause = 1) }
    aon := s.aon, store := s.store, ledger := s.ledger, mgmt := { manifests := s.mgmt.manifests }
    seq := { cause := cause, wantCold := cold, lastFailedCold := s.seq.lastFailedCold, ckptCut := s.seq.ckptRun || s.seq.ckptCut
             sinceCkpt := s.seq.sinceCkpt, sinceReset := s.seq.sinceCkpt, rstLow := s.seq.rstLow }
    hif := { perstLow := s.hif.perstLow }, fresh := s.fresh, pending := s.pending }

/-- Step 1 of a start begins: the causes of the reset before it are reported (R62, Table 2-13). -/
def State.beginStart (s : State) : State :=
  let lvl := s.psu.resetLvl
  let cut := s.seq.ckptCut
  let s := (s.setPsu { s.psu with resetLvl := false }).setSeq { s.seq with st := .starting, step := 1, kind := none, ckptCut := false }
  let s := s.showFails.showCkpt false
  let s := if lvl then (s.setB F.PSU_EVT_RESETLVL true).fault 1 2 else s
  if cut then s.fault 0 2 else s

/-- A start begins if the supply and RST_N allow it; else the sequencer stays IDLE. -/
def State.tryStart (s : State) : State := if s.psu.sup = .normal && !s.seq.rstLow then s.beginStart else s

/-- A start has failed (R69, R70): the counter of its kind; one of the safe-configuration kind moves neither (log entry 28). -/
def State.countFail (s : State) : State :=
  let s := match s.seq.kind with
    | some .cold => (s.setStore { s.store with cfail := min 2 (s.store.cfail + 1) }).setSeq { s.seq with lastFailedCold := true }
    | some .warm => (s.setStore { s.store with wfail := min 3 (s.store.wfail + 1) }).setSeq { s.seq with lastFailedCold := false }
    | _ => s
  s.ledgerCount 2

/-- SEQ holds the reset until FCOL has handled every message and the Ledger writer has finished (R69). -/
def State.drain (s : State) : State :=
  let ms := s.fcol.inflight
  let s := ms.foldl State.handle (s.setFcol { s.fcol with inflight := [] })
  s.fcol.toWrite.foldl (fun s _ => s.ledgerWrite true) s

/-- The start in progress fails at its step; the message goes through FCOL where it runs and the supply lasts, else to the configuration store
(R77). -/
def State.failNow (s : State) (supply : Bool) : State :=
  let k := s.seq.step
  let s := s.countFail
  if s.fcol.running && supply then (s.fault 0 1 k).drain
  else (s.setFcol { s.fcol with running := false }).fault 0 1 k

/-- A step fails: everything except AON resets, and a new start begins after 100 ms. -/
def State.startFail (s : State) : State :=
  let s := (s.failNow true).dieReset 3 false
  s.setSeq { s.seq with st := .retry }

/-- The die resets, a start in progress being a failed one (R69); the next start begins where the supply and RST_N allow it. -/
def State.resetDie (s : State) (cause : Nat) (cold : Bool) : State :=
  let s := if s.seq.st = .starting then s.failNow (cause ≠ 1) else s
  s.dieReset cause cold

/-- The reset through RST_N takes effect (R58). -/
def State.rstReset (s : State) : State := (s.resetDie 2 false).tryStart

/-- A deferred reset takes effect (R72, R78); leaving safe configuration clears both counters. -/
def State.deferReset (s : State) : State :=
  match s.seq.deferred with
  | none => s
  | some (c, cold) => (s.resetDie c cold).tryStart

/-- VIN reaches the reset level: the supervisor passes through RESET (Table 2-4). -/
def State.vinReset (s : State) : State :=
  let s := s.resetDie 1 false
  let bat := s.psu.vbatOk
  let s := s.setPsu { s.psu with sup := if bat then .battery else .off }
  if bat then s.setAon { s.aon with vbatUsed := true } else s.setAon { s.aon with valid := false, src := 0 }

/-- Entry to WARNING: the actions of R55, all at once; PWR_WARN_N follows the supervisor (`State.pwrWarnN`). -/
def State.warn (s : State) : State :=
  (((s.setPsu { s.psu with sup := .warning }).setB F.PSU_EVT_WARN true).raise 1).fault 1 1 |>.requestCkpt none

/-! ### Start steps (R65, Table 2-6) -/

/-- The first failing condition of Table 2-7; 0 where all hold. -/
def State.warmReason (s : State) (outage : Nat) : Nat :=
  let c := s.ckptAt s.store.slot
  let mx := s.storedField F.SEQ_WARMMAX
  if s.storedField F.SEQ_CTRL = 1 || s.seq.wantCold then 1
  else if s.seq.lastFailedCold || 3 ≤ s.store.wfail then 2
  else if !c.any (fun c => c.complete) then 3
  else if !s.aon.valid then 4
  else if mx * 60 ≤ outage then 5
  else if c.any (fun c => c.format ≠ s.store.design) then 6
  else 0

/-- PSU_AONSTAT follows AON. -/
def State.showAon (s : State) : State := (s.setB F.PSU_AONSTAT_VALID s.aon.valid).set F.PSU_AONSTAT_SRC s.aon.src

/-- PSU_AONSTAT.SRCCHG sets where AON has changed its source (R63). -/
def State.showChg (s : State) : State := if s.aon.srcChg then s.setB F.PSU_AONSTAT_SRCCHG true else s

/-- SEQ_CFGSAVE moves on (R79): copy A is written and copy B begun, then copy B is written and the waybill completes with the CRC of the image, whose
layout the spec does not give. -/
def State.saveStep (s : State) : State :=
  match s.seq.saving with
  | none => s
  | some (h, c, false) => (s.setStore { s.store with a := c, b := { c with ok := false } }).setSeq { s.seq with saving := some (h, c, true) }
  | some (h, c, true) =>
    let s := s.setStore { s.store with b := c, saved := s.store.saved.filter (fun p => storedMask p.1 = 0) }
    let (n, s) := (s.setSeq { s.seq with saving := none }).freeNat
    s.done h (wordsOf n 2)

/-- Step 1 ends: SEQ decides the kind of the start (R68, R70, R73).  After a cold decision AON's time is no longer used (Table 2-11). -/
def State.decideKind (s : State) (x : StepDone) : State :=
  let r := s.warmReason x.outage
  let k : StartKind := if 2 ≤ s.store.cfail then .safe else if r = 0 then .warm else .cold
  let s := s.setSeq { s.seq with kind := some k, reason := if k = .safe then 2 else r, wantCold := false }
  if k = .warm then
    let s := ((s.set F.SEQ_OUTAGE (satNat 32 x.outage)).showCkpt true).showAon
    s.showChg.setB F.PSU_AONSTAT_VBATUSED s.aon.vbatUsed
  else s.setAon { s.aon with valid := false }

/-- The checkpoint that a warm start uses. -/
def State.warmCkpt (s : State) : Option Ckpt := if s.seq.kind = some .warm then s.ckptAt s.store.slot else none

/-- Words that blocks keep in the configuration store return to their registers; the noise-floor reference sets NFVALID (R224). -/
def State.loadSaved (s : State) : State :=
  let nf := [F.GNSS_JNA.addr, F.GNSS_JNB.addr]
  let s := (s.store.saved.filter (fun p => !nf.contains p.1)).foldl (fun s p => s.wr p.1 p.2) s
  s.setB F.GNSS_STAT_NFVALID (s.store.saved.any (fun p => nf.contains p.1))

/-- Cold values that come from other registers (Table 5-8, Table 4-9): the model at its priors, the members' estimates, the steering code and
the frequency word. -/
def State.coldValues (s : State) : State :=
  let s := (List.range 8).foldl (fun s n => s.set (F.HOLD_MEMBER_SIGMA n) (s.get (F.HOLD_MEMBER_PRIOR n))) s
  let s := s.modelPriors.set F.HOLD_MDL_GEN 0
  (s.set F.HOLD_AOSC_CODE (s.get F.HOLD_AOSC_DACINIT)).set F.DPLL_FREQ (s.get F.DPLL_FRQINIT)

/-- Warm values that come from the checkpoint. -/
def State.warmValues (s : State) (c : Ckpt) : State :=
  let s := c.regs.foldl (fun s p => s.wr p.1 p.2) s
  let z := (List.range 8).filterMap (fun i => (s.slotEntity i).map (fun e =>
    (e, Noise.restored (s.get (F.HOLD_MEMBER_NSAMP i)) (s.get (F.HOLD_MEMBER_SIGMA i)) (s.get (F.HOLD_MEMBER_PRIOR i)) (max 1 (s.get F.HOLD_TAU)))))
  let s := s.setHold { s.hold with noise := (List.range 14).map (fun e => look {} z e) }
  s.setI F.DPLL_FREQ c.freq

/-- INTC runs: interrupts held before it are raised (R77, R411). -/
def State.intcStart (s : State) : State :=
  let l := s.intc.held
  l.foldl State.raise { s with intc := { s.intc with running := true, held := [] } }

/-- Safe configuration is entered in place of step 4 (R73). -/
def State.enterSafe (s : State) : State :=
  let s := s.setSeq { s.seq with st := .safe }
  let s := ((s.set F.SEQ_STARTINFO_KIND 2).set F.SEQ_STARTINFO_REASON 2).set F.SEQ_STARTINFO_CAUSE s.seq.cause
  (((s.fault 0 4).raise 6).ledgerCount 3).failUnavail

/-- Each copy of the image whose CRC is bad is reported (R65, Table 17-13). -/
def State.badCopies (s : State) : State :=
  let a := s.store.a.ok
  let b := s.store.b.ok
  let s := if a then s else s.fault 0 3 0
  if b then s else s.fault 0 3 1

/-- Load copy A, else copy B, what blocks saved, and the values of the kind of start (R74). -/
def State.loadStore (s : State) : State :=
  let s := (s.loadImage (if s.store.a.ok then s.store.a.image else s.store.b.image)).loadSaved
  match s.warmCkpt with
  | some c => s.warmValues c
  | none => s.coldValues

/-- The first cached views are what step 3 loaded (R45). -/
def State.firstViews (s : State) : State := { s with mgmt := { s.mgmt with cache := s.regs } }

/-- Step 3 ends: the configuration is loaded, keys and claims return, INTC and FCOL run (R65, R77, R314, R411, R433, R444). -/
def State.step3 (s : State) (x : StepDone) : State :=
  let s := s.badCopies
  if s.store.a.ok || s.store.b.ok then
    let s := (s.loadStore.authRestore x.badKeys).rdnStart.intcStart.fcolStart
    let s := s.setSeq { s.seq with step := 4 }
    (if s.seq.kind = some .safe then s.enterSafe else s).firstViews
  else s.startFail

/-- Step 5 ends: the stored TDC tables within ±5 °C of their temperature, else a calibration of both sets; an interpolator that
fails twice is reported and fails the step (R65, R198, R209). -/
def State.step5 (s : State) (x : StepDone) : State :=
  let s := s.setI F.PSU_TJ x.tj
  let tj := s.getI F.PSU_TJ
  match s.warmCkpt.filter (fun c => decide ((tj - c.tdcTemp).natAbs ≤ 40)) with
  | some c => (((s.setTic { s.tic with hits := c.tdc }).setB F.TIC_CALSTAT_VALID true).set (F.SEQ_STEPDUR 4) 0).setSeq { s.seq with step := 6 }
  | none =>
    let hits := retried x.hits x.again 64
    match (List.range 64).find? (fun i => !calPass (at' [] hits i)) with
    | none =>
      let s := (s.setTic { s.tic with hits := hits }).set F.TIC_CALTEMP (s.get F.PSU_TJ)
      ((s.setB F.TIC_CALSTAT_SET false).setB F.TIC_CALSTAT_VALID true).setSeq { s.seq with step := 6 }
    | some i => ((s.raise 65).fault 7 1 i).startFail

/-- The synthesis PLLs begin step 6 with their references. -/
def State.pllsBegin (s : State) (aosc : Bool) : State := (List.range 3).foldl State.pllRestart (s.setAosc aosc)

/-- Every enabled PLL has declared lock. -/
def State.pllsLocked (s : State) : Bool := (List.range 3).all (fun p => !s.on (F.APLL_PLL_CFG_ENABLE p) || s.on (F.APLL_PLL_LOCK_LOCKED p))

/-- The uncertainty of the AON load, ps (R64). -/
def aonUnc (a : Aon) : Nat := if a.src = 1 then [0, 200000, 100000, 50000].getD a.aoscFreq 0 else 20000

/-- The phase that a member of frequency `y` (10^-18) and ageing `d` (10^-18 per day) gains over a time, 2^-48 ns. -/
def gained (y d : Int) (t : Nat) : Int := (y * t) / 10 ^ 18 + (d * t * t) / (2 * 86400 * (SEC48 : Int) * 10 ^ 18)

/-- The model of slot `i` that charges the outage: that of the holdover oscillator, or priors (R64). -/
def State.outageModel (s : State) (i : Nat) : List Int :=
  if s.hosc = i then s.modelRegs else [0, s.get F.HOLD_DPRIOR, 0, s.get F.HOLD_CPRIOR, s.get (F.HOLD_MEMBER_PRIOR i), 0]

/-- The phase that AON's counting gained over `t` since the reset: AOSC_IN with its steering, the crystal, or one until a change to the other (R63, R156). -/
def State.outagePhase (s : State) (c : Ckpt) (t : Nat) : Int :=
  let age := (s.aon.time : Int) - c.start.at0
  let ph := fun (i : Nat) (f : Int) (t : Nat) =>
    let d := mdl (s.outageModel i) 0
    gained (f + d * age / (86400 * SEC48)) d t
  let fa := c.start.fAosc + s.getI F.HOLD_AOSC_SUM
  if s.aon.src = 1 then (if s.aon.srcChg then ph 1 c.start.fXtal (min s.aon.chgTime t) + ph 0 fa (t - s.aon.chgTime) else ph 0 fa t)
  else if s.aon.srcChg then ph 0 fa (min s.aon.chgTime t) + ph 1 c.start.fXtal (t - s.aon.chgTime)
  else ph 1 c.start.fXtal t

/-- The AON load of a warm start and the entry to holdover that goes with it (R64, R152, R156, R167). -/
def State.aonLoad (s : State) (c : Ckpt) (t : Nat) : State :=
  let slot := if s.aon.src = 1 then 0 else 1
  let m := s.outageModel slot
  let now := jump (s.aon.time + t) (-(s.outagePhase c t))
  let s := s.setTb { s.tb with time := now, setUnc := aonUnc s.aon }
  let s := ((s.setB F.TBASE_STAT_TIMESET true).set F.TBASE_STAT_SRC 3).setPvalid true
  let s := { s.set F.DPLL_STAT_MODE 3 with dpll := { s.dpll with integ := c.freq * 4294967296 } }
  let s := s.setHold { s.hold with
    te := c.start.te, tMs := (now - c.start.te) * 1000 / SEC48, sumTe := c.start.sum, tempTe := c.start.temp,
    dtMax := s.get F.HOLD_OUTTEMP * 8, frozen := some m, slot := slot, fe := c.start.fe }
  let s := ((s.setSat F.HOLD_B0 c.start.b0).setB F.HOLD_STAT_HOLDOVER true).bholdNow
  let s := s.setB F.EBND_STAT_TRACED (s.get F.HOLD_TRAINAGE ≠ 0)
  ({ s with gnss := { s.gnss with aonBound := s.get F.HOLD_BHOLD } }.raise 32).fault 4 1

/-- Step 6 ends: TBASE counts, from zero or from AON (R151, R167); the witness's frequency part is valid (R85); lanes are powered. -/
def State.step6 (s : State) (x : StepDone) : State :=
  let s := s.steerSend
  let ms := x.aon / (1000000 * NS48)
  let s := s.setSeq { s.seq with step := 7, sinceCkpt := min 100 (max s.seq.sinceCkpt (s.seq.sinceReset + ms)) }
  let s := (s.setTb { s.tb with counting := true, time := 0 }).setB F.RMON_WITNESS_FVALID true
  let s := match s.warmCkpt with
    | some c => (s.aonLoad c x.aon).setB F.HOLD_STAT_NOENS false
    | none => { s with dpll := { s.dpll with integ := s.freq * 4294967296 } }
  s.hoscEval.lanesOn.slavesOn

/-- Step 7 ends: memory training (R339), the hash keys of the start (R265, R325), the counters clear (R66), step 8 begins, and a start whose
time is set is complete (R67). -/
def State.step7 (s : State) (x : StepDone) : State :=
  let pass := x.trims % 256
  let full := s.warmCkpt.isNone || pass ≠ 255
  let (k1, s) := s.freeNat
  let (k2, s) := s.freeNat
  let (tr, s) := s.freeNat
  let trims := if full then tr else (s.warmCkpt.map (fun c => c.trims)).getD 0
  let s := { s with ctab := { s.ctab with hashKey := k1, trims := trims }, pkt := { s.pkt with anonKey := k2 } }
  let s := (s.set F.CTAB_TRAIN_PASS (if s.warmCkpt.isSome then pass else 0)).setB F.CTAB_TRAIN_FULL full
  let s := (s.set F.CTAB_STAT_TRAINED (if full then 1 else 2)).setB F.CTAB_STAT_READY true
  let s := if s.warmCkpt.isSome && full then s.fault 0x0D 6 else s
  let s := match s.warmCkpt with
    | some _ => (s.set F.GNSS_EPHAGE (satNat 16 x.ephAge)).set F.GNSS_ALMAGE (satNat 16 x.almAge)
    | none => s
  let s := (s.setStore { s.store with wfail := 0, cfail := 0 }).showFails
  let s := s.setSeq { s.seq with st := .setting, lastFailedCold := false }
  (s.gnssStart.startComplete).svcEval false

/-- The event records written since the checkpoint's pointer, or all (R438). -/
def State.replayed (s : State) : Nat :=
  match s.warmCkpt with
  | some c => (s.ledger.wp + 65536 - c.ledgerWp) % 65536
  | none => s.ledger.events.length

/-- Start step `n` finishes (R65, Table 2-6).  One that reports an error fails the start (R69), with the message of R339 where the memory's stored trims
failed first, and so does step 6 of a warm start whose AON time
was lost on the way.  From the end of step 6 the DPLL ticks count the time for R61. -/
def State.stepDone (s : State) (n : Nat) (x : StepDone) : State :=
  let s := (s.set (F.SEQ_STEPDUR (n - 1)) (satNat 16 x.ms)).ckptTime (if n ≤ 6 then x.ms else 0)
  if n ≥ 8 then s
  else if x.err then (if n = 7 && s.warmCkpt.isSome && x.trims % 256 ≠ 255 then s.fault 0x0D 6 else s).startFail
  else match n with
    | 1 => (s.decideKind x).setSeq { (s.decideKind x).seq with step := 2 }
    | 2 => s.setSeq { s.seq with step := 3 }
    | 3 => s.step3 x
    | 4 => (s.ledgerScan s.replayed).setSeq { s.seq with step := 5 }
    | 5 =>
      let s := s.step5 x
      if s.seq.st = .starting then s.pllsBegin x.aosc else s
    | 6 => if s.seq.kind = some .warm && !s.aon.valid then s.startFail else s.step6 x
    | _ => s.step7 x

end Sys2Proof.Machine
end

