-- ==== Sys2Proof/Machine/Seq.lean ====
section
/-! DEFINITION. The commands of SEQ and PSU (spec/02). -/
namespace Sys2Proof.Machine

/-- R55: VIN falls below 4.35 V in NORMAL. -/
def execVinWarningCrossing (s : State) : Res := if s.psu.sup = .normal then fin s.warn else .next s

/-- R56: VIN rises above 4.50 V in WARNING.  A die in reset then begins its start (Table 2-9). -/
def execVinRecovery (s : State) : Res :=
  if s.psu.sup = .warning then
    let s := s.setPsu { s.psu with sup := .normal }
    let s := ((s.inc F.PSU_DIPCNT).raise 2).ledgerCount 4
    fin (if s.seq.st = .idle then s.tryStart else s)
  else .next s

/-- R54, R62: VIN falls below 3.95 V; from NORMAL the actions of R55 come first. -/
def execVinResetCrossing (s : State) : Res :=
  match s.psu.sup with
  | .normal => fin s.warn.vinReset
  | .warning | .start => fin s.vinReset
  | _ => .next s

/-- R54: VIN rises above 4.10 V from OFF or BATTERY. -/
def execVinRiseStart (s : State) : Res :=
  if s.psu.sup = .off ∨ s.psu.sup = .battery then fin (s.setPsu { s.psu with sup := .start }) else .next s

/-- R52: VIN has been above 4.50 V for 100 µs in START. -/
def execVinStable (s : State) : Res :=
  if s.psu.sup = .start then fin (s.setPsu { s.psu with sup := .normal }).tryStart else .next s

/-- R54, R76: VBAT falls below 2.0 V; while VIN is present it is reported. -/
def execVbatLow (s : State) : Res :=
  if s.psu.vbatOk then
    let s := s.setPsu { s.psu with vbatOk := false }
    match s.psu.sup with
    | .battery => fin ((s.setPsu { s.psu with sup := .off }).setAon { s.aon with valid := false, src := 0 })
    | .off => fin s
    | _ => fin (((s.setB F.PSU_EVT_VBATLOW true).raise 5).fault 1 5)
  else .next s

/-- R54: VBAT rises above 2.0 V. -/
def execVbatValid (s : State) : Res :=
  let s := s.setPsu { s.psu with vbatOk := true }
  fin (if s.psu.sup = .off then s.setPsu { s.psu with sup := .battery } else s)

/-- R58: RST_N has been low for 1 µs.  A die that is in reset already (RETRY, or a supply not yet stable) has no reset of its own to come: the pin
only holds the next start back (log entry 28). -/
def execRstNAssert (s : State) : Res :=
  if s.seq.rstLow then .next s
  else
    let s := s.setSeq { s.seq with rstLow := true, rstWait := s.dieOn }
    fin (s.requestCkpt none)

/-- R58: 400 µs have passed since the falling edge and no checkpoint was started. -/
def execRstNResetTimeout (s : State) : Res := if s.seq.rstWait ∧ !s.seq.ckptRun then fin s.rstReset else .next s

/-- R58: RST_N rises. -/
def execRstNRelease (s : State) : Res :=
  if s.seq.rstLow then
    let s := s.setSeq { s.seq with rstLow := false }
    fin (if s.seq.st = .idle then s.tryStart else s)
  else .next s

/-- R53: a rail has been outside ±5 % for 5 µs.  Excursions of several rails that overlap count as one, which the first end ends: the spec does not say
(log entry 28). -/
def execRailFault (s : State) : Res :=
  if s.past 1 ∧ !s.psu.railExc then
    fin (((s.setPsu { s.psu with railExc := true }).setB F.PSU_EVT_RAILFLT true).fault 1 3)
  else .next s

/-- R53: a power stage exceeds 135 °C; overlapping excursions of several stages count as one (log entry 28). -/
def execPowerStageOvertemp (s : State) : Res :=
  if s.past 1 ∧ !s.psu.tempExc then
    fin (((s.setPsu { s.psu with tempExc := true }).setB F.PSU_EVT_OVERTEMP true).fault 1 4)
  else .next s

/-- R53: the rail excursion, or the over-temperature excursion, ends. -/
def execRailExcursionEnd (temp : Bool) (s : State) : Res :=
  fin (s.setPsu (if temp then { s.psu with tempExc := false } else { s.psu with railExc := false }))

/-- A SEQ_CHECKPOINT whose checkpoint fails ends FAILED; the spec names no status, which is open. -/
def State.ckptFailed (s : State) (h : WbHead) : State :=
  let (n, s) := s.freeNat
  s.failed h (([.blockUnavail, .genConflict, .busy, .notPermitted, .timeout, .dataError] : List Status).getD (n % 6) .dataError)

/-- A reset that waited for the checkpoint takes effect (R58, R62). -/
def State.ckptOver (s : State) : State :=
  if s.seq.rstWait then s.rstReset else if s.seq.deferredDue then s.deferReset else s

/-- R59, R61: a checkpoint ends after `us` microseconds, with its commit word written or failed. -/
def execCheckpointComplete (ok : Bool) (us : Nat) (s : State) : Res :=
  if s.seq.ckptRun then
    let ws := s.seq.ckptWait
    let s := s.setSeq { s.seq with ckptRun := false, ckptWait := [], sinceCkpt := if ok then 0 else s.seq.sinceCkpt }
    let s := (s.showCkpt ok).set F.SEQ_CKPTDUR (satNat 16 us)
    let s := if ok then
        let s := ((s.putCkpt s.ckptNow).raise 3).ledgerSummary
        ws.foldl (fun s h => s.done h [w16 s.store.seqNo, w16 (satNat 16 us)]) s
      else ws.foldl State.ckptFailed (s.raise 4)
    fin s.ckptOver
  else .next s

/-- R65: start step `n` finishes. -/
def execStartStepComplete (n : Nat) (x : StepDone) (s : State) : Res :=
  if (s.seq.st = .starting ∧ n = s.seq.step ∧ (n ≠ 6 ∨ x.err ∨ s.pllsLocked)) ∨ ((s.seq.st = .setting ∨ s.seq.st = .running) ∧ (n = 8 ∨ n = 9)) then
    fin (s.stepDone n x)
  else .next s

/-- R69: the step in progress exceeds its timeout. -/
def execStartStepTimeout (s : State) : Res := if s.seq.st = .starting then fin s.startFail else .next s

/-- R69, R70: the 100 ms of RETRY have elapsed. -/
def execStartRetry (s : State) : Res :=
  if s.seq.st = .retry then
    fin ((s.setSeq { s.seq with st := .idle }).ckptTime 100).tryStart
  else .next s

/-- R72, R78: 1 ms after the manifest or the write; a running checkpoint still holds the reset back (R62). -/
def execDeferredReset (s : State) : Res :=
  if s.seq.deferred.isSome then
    if s.seq.ckptRun then fin (s.setSeq { s.seq with deferredDue := true }) else fin s.deferReset
  else .next s

/-- R63: the ring's check of AON's counting sources while TBASE does not count: activity of AOSC_IN and of the crystal, VBAT, and the time
counted since the reset (2^-48 ns).  A source once left is not taken up again by itself (log entry 28). -/
def execAonRingCheck (aosc xtal vbat : Bool) (t : Nat) (s : State) : Res :=
  if s.tb.counting ∨ s.psu.sup = .off then .next s
  else
    let old := s.aon
    let a := old
    let a := if a.src = 1 && !aosc then (if xtal then { a with src := 2, srcChg := true, chgTime := t } else { a with src := 0, valid := false })
      else if a.src = 2 && !xtal then
        (if aosc && a.aoscFreq ≠ 0 then { a with src := 1, srcChg := true, chgTime := t } else { a with src := 0, valid := false })
      else a
    let s := s.setAon a
    let s := if s.seq.st = .starting && s.seq.kind = some .warm then (if a = old then s else s.showAon.showChg) else s
    if !vbat && s.psu.sup = .battery then execVbatLow s else fin s

/-- A reset 1 ms after an accepted request.  The start after a request to leave safe configuration is the one of R72 whatever else was asked for; of two
other requests the later one's cause and kind stand (log entry 28). -/
def State.requestReset (s : State) (c : Nat) (cold : Bool) : State :=
  if s.seq.deferred = some (5, true) then s else s.setSeq { s.seq with deferred := some (c, cold) }

/-- R78: SEQ_RESTART. -/
def execSeqRestart (h : WbHead) (ps : List Word) (s : State) : Res :=
  runOp 0x0000 false h ps s fun s =>
    let p := param s ps 0
    if 2 ≤ p then s.waybillErr 0 h else (s.done h).requestReset 4 (p = 1)

/-- R78: SEQ_CHECKPOINT. -/
def execSeqCheckpoint (h : WbHead) (ps : List Word) (s : State) : Res := runOp 0x0040 false h ps s fun s => s.requestCkpt (some h)

/-- Safe configuration is left: both counters clear and the reset is due (R72). -/
def State.safeLeave (s : State) : State :=
  ((s.setStore { s.store with wfail := 0, cfail := 0 }).showFails).setSeq { s.seq with deferred := some (5, true), lastFailedCold := false }

/-- R72, R78: SEQ_SAFECLEAR. -/
def execSeqSafeclear (h : WbHead) (ps : List Word) (s : State) : Res :=
  runOp 0x0080 false h ps s fun s => (if s.seq.st = .safe then s.safeLeave else s).done h

/-- R79: SEQ_CFGSAVE captures the image and begins to write copy A, which is bad until it is written; MGMT's milliseconds carry it on (log entry
68). -/
def execSeqCfgsave (h : WbHead) (ps : List Word) (s : State) : Res :=
  runOp 0x00C0 false h ps s fun s =>
    let c : CfgCopy := ⟨true, s.image⟩
    (s.setStore { s.store with a := { c with ok := false } }).setSeq { s.seq with saving := some (h, c, false) }

/-- R45: MGMT audits its cached views against the register file, every millisecond; SEQ_CFGSAVE's copies move on with it (R79, log entry 68). -/
def execMgmtAudit (s : State) : Res :=
  if s.intc.running then fin (if s.mgmtFenced then s.saveStep else s.saveStep.audit) else .next s

/-- R78: SEQ_STARTREPORT. -/
def execSeqStartreport (h : WbHead) (ps : List Word) (s : State) : Res :=
  runOp 0x0100 false h ps s fun s => s.doneRd h [F.SEQ_STARTINFO.run, F.SEQ_FAILCNT.run, ((F.SEQ_STEPDUR 0).addr, 9)]

/-- The live values of PSU are sampled: VIN, VBAT and the die temperature are the world's (Table 2-11); its state bits follow the supervisor. -/
def State.psuSample (s : State) : State :=
  let (a, s) := s.freeNat
  let (b, s) := s.freeNat
  let (c, s) := s.freeNat
  let s := ((s.set F.PSU_VIN a).set F.PSU_VBAT b).set F.PSU_TJ c
  ((s.setB F.PSU_STAT_WARN (s.psu.sup = .warning)).setB F.PSU_STAT_VBATOK s.psu.vbatOk).setB F.PSU_STAT_RAILOK (!s.psu.railExc)

/-- R78: PSU_READ. -/
def execPsuRead (h : WbHead) (ps : List Word) (s : State) : Res :=
  runOp 0x0800 false h ps s fun s =>
    let s := s.psuSample
    (s.done h ([F.PSU_VIN, F.PSU_VBAT, F.PSU_TJ, F.PSU_STAT, F.PSU_AONSTAT].map (fun f => s.rd f.addr)))

/-- SEQ_STATE as it reads (Table 2-10). -/
def State.showSeq (s : State) : State :=
  let (st, k) : Nat × Nat := match s.seq.st with
    | .idle => (0, 0)
    | .starting => (1, s.seq.step)
    | .setting => (2, 9)
    | .running => (3, if s.seq.kind = some .warm then 7 else 9)
    | .retry => (4, s.seq.step)
    | .safe => (5, 3)
  s.set F.SEQ_STATE (k + 16 * st)

/-- R72: a write of `v` to SEQ_SAFECLR.  Its bits read 0, so only the key in safe configuration has an effect. -/
def State.safeclrWrite (v : Nat) (s : State) : State := if v = 0xC1EA ∧ s.seq.st = .safe then s.safeLeave else s
def execSeqSafeclrWrite (v : Nat) (s : State) : Res := directWrite 0 s (State.safeclrWrite v)

end Sys2Proof.Machine
end

