-- ==== Sys2Proof/Machine/BusOps.lean ====
section
/-! DEFINITION. Register reads and writes as the paths make them (spec/00 R4 to R13, spec/03 R102, spec/06 R173, R174, spec/15 R383 to R385, R396).
Requesters: 0 PCIe, 1 the SPI target, 2 the console, 3 to 6 the MGMT cores. -/
namespace Sys2Proof.Machine

/-! ### Registers that follow the state -/

/-- EVT_OUTn's status registers (Table 6-5). -/
def State.showEvt (s : State) (n : Nat) : State :=
  let v := s.evt n
  let high := v.highUntil.any (fun t => s.now < t)
  let st := min 7 v.queue.length + (if v.cur.isSome then 8 else 0) + (if high then 16 else 0) + (if v.cur.any (fun e => e.cont) then 32 else 0)
  let s := s.set (F.TBASE_EVT_STAT n) st
  match v.cur with
  | some e => (s.set (F.TBASE_EVT_NEXT n) (time128 e.next)).setSat (F.TBASE_EVT_REMAIN n) (if e.cont then 0 else e.count - e.k)
  | none => (s.set (F.TBASE_EVT_NEXT n) 0).set (F.TBASE_EVT_REMAIN n) 0

/-- CLKOUTn's DRIVING and STOPPED (R181, R182). -/
def State.showClk (s : State) (n : Nat) : State :=
  let en := s.on (F.TBASE_CLK_CFG_EN n)
  (s.setB (F.TBASE_CLK_STAT_DRIVING n) (s.outputOn en)).setB (F.TBASE_CLK_STAT_STOPPED n) (en && s.on (F.APLL_PLL_LOCK_SQUELCH 2))

/-- The state whose register file is what a read of address `a` sees: fields that the hardware forms from its state are brought up to date. -/
def State.view (s : State) (a : Nat) : State :=
  let off := a % 0x10000
  match blockOf a with
  | 0 => s.showSeq.showFails
  | 1 => s.psuSample
  | 6 =>
    if 0x200 ≤ off ∧ off < 0x280 then s.showClk ((off - 0x200) / 0x20)
    else if 0x400 ≤ off ∧ off < 0x600 then s.showEvt ((off - 0x400) / 0x20)
    else if 0x600 ≤ off ∧ off < 0x700 then s.setSat (F.TBASE_CAP_FILL ((off - 0x600) / 0x20)) (s.cap ((off - 0x600) / 0x20)).fifo.length
    else s
  | 7 =>
    if 0x100 ≤ off ∧ off < 0x300 then s.setSat (F.TIC_CH_FILL ((off - 0x100) / 0x20)) (s.ticCh ((off - 0x100) / 0x20)).fifo.length
    else if 0x400 ≤ off ∧ off < 0x500 then
      s.setB (F.TIC_MEAS_STAT_RUNNING ((off - 0x400) / 0x40)) (s.get (F.TIC_MEAS_CFG_MODE ((off - 0x400) / 0x40)) ≠ 0)
    else s
  | 0x0A => if 0x100 ≤ off ∧ off < 0x380 then s.set (F.MTS_LANE_RMNEXT ((off - 0x100) / 0x40)) (s.rmNext ((off - 0x100) / 0x40)) else s
  | 0x0B =>
    if 0x100 ≤ off ∧ off < 0x200 then
      let p := (off - 0x100) / 0x20
      if s.nPorts ≤ p then (s.set (F.PKT_PORT_MAC p) 0).set (F.PKT_PORT_STAT p) 0 else s.showPort p
    else s
  | 0x11 => if off < 0x200 then s.showTarget false else if off < 0x400 then s.showTarget true else s.showPend
  | 0x12 => s.showFcol
  | 0x13 => s.showRdn
  | _ => s

/-! ### Reads -/

/-- The bits of the word at an address that belong to fields with an access code. -/
def accMask (acc : Access) (a : Nat) : Nat :=
  match regAt a with
  | none => 0
  | some (r, i) => (r.fields.foldl (fun m f => if f.acc = acc then m + (2 ^ f.wid - 1) * 2 ^ f.lo else m) 0)
      / 2 ^ (8 * (a % 0x10000 - r.off - i * r.stride)) % 65536

/-- Clear the bits of a mask in the word at an address. -/
def State.clearBits (s : State) (a m : Nat) : State := s.wr a (BitVec.ofNat 16 ((s.rd a).toNat &&& (0xFFFF ^^^ m)))

/-- Clear the RC fields of `k` words from an address (R12). -/
def State.clearRc (s : State) (a : Nat) : Nat → State
  | 0 => s
  | k + 1 => (if accMask .rc a = 0 then s else s.clearBits a (accMask .rc a)).clearRc (a + 2) k

/-- A read in TBASE_TIME's group from the requester's own latch, which an access to its first word loads. -/
def State.timeRead (s : State) (req a : Nat) : State × Word :=
  let s := if a = 0x060010 then s.loadTime req else s
  let g := look [] s.hif.timeLatch req
  let w := if a = 0x060022 then g.getD 9 0
    else if a = 0x060020 then w16 (putBits (s.rd a).toNat 4 1 (g.getD 8 0).toNat)
    else g.getD ((a - 0x060010) / 2) 0
  (s, w)

/-- A word whose read acts (R187, R206, R405): the POP of a capture or stamp channel; a claim, MGMT's only from a MGMT core (R412). -/
def State.actRead (s : State) (req a : Nat) : Option (State × Word) :=
  if 0x060608 ≤ a ∧ a < 0x060700 ∧ (a - 0x060608) % 0x20 = 0 then some (s.capPop ((a - 0x060608) / 0x20))
  else if 0x07010C ≤ a ∧ a < 0x070300 ∧ (a - 0x07010C) % 0x20 = 0 then some (s.ticPop ((a - 0x07010C) / 0x20))
  else if a = F.INTC_HOST_CLAIM.addr then some (s.claim false)
  else if a = F.INTC_MGMT_CLAIM.addr then some (if 3 ≤ req then s.claim true else (s, 0))
  else none

/-- The read of a word of the register `r` that lies at `base`: live or from the latch; its RC fields clear, whole ones with the least
significant word.  Reading a measurement's LAST clears NEW. -/
def State.plainRead (s : State) (req a base : Nat) (r : RegRow) : State × Word :=
  match s.latched req a with
  | some w => (s, w)
  | none =>
    let v := s.view a
    let s := { s with fresh := v.fresh }
    let s := if a = base ∧ 1 < r.words then s.loadLatch v req a r.words else s
    let s := s.clearRc a (if a = base then r.words else 1)
    let s := if 0x070400 ≤ a ∧ a < 0x070500 ∧ a % 0x40 = 0x0E then s.setB (F.TIC_MEAS_STAT_NEW ((a - 0x070400) / 0x40)) false else s
    (s, v.rd a)

/-- The 21-bit word address of an access (R5, R8). -/
def wordAddr (a : Nat) : Nat := a % 0x200000 / 2 * 2

/-- An address behind which no powered block stands (R6, R384). -/
def State.noBlock (s : State) (a : Nat) : Bool := 0x140000 ≤ a || (s.seq.st = .safe && unpowered.contains (blockOf a))

/-- A read of one word. -/
def State.busRead (s : State) (req a : Nat) : State × Word :=
  let a := wordAddr a
  if s.noBlock a then (s.incRaise F.HIF_UNMAPCNT 222, 0)
  else match regAt a with
    | none => (s, 0)
    | some (r, i) =>
      let s := s.lookedAt req (blockOf a)
      if 0x060010 ≤ a ∧ a < 0x060024 then s.timeRead req a
      else match s.actRead req a with
        | some x => x
        | none => s.plainRead req a (blockOf a * 0x10000 + r.off + i * r.stride) r

/-- A read of `n` words in ascending address order (R384). -/
def State.busReads (s : State) (req a : Nat) : Nat → State × List Word
  | 0 => (s, [])
  | n + 1 =>
    let x := s.busRead req a
    let y := x.1.busReads req (a + 2) n
    (y.1, x.2 :: y.2)

/-! ### Writes -/

/-- A value with what the register does not take from a write: bits that a member of a group reads as fixed. -/
def fixWrite (base v : Nat) : Nat :=
  let off := base % 0x10000
  if blockOf base = 2 ∧ 0x300 ≤ off ∧ off < 0x400 then
    (if off % 0x40 = 0 then putBits v 1 2 2 else if off % 0x40 = 2 then 1 else v)
  else if base = (F.APLL_PLL_CFG 0).addr ∨ base = (F.APLL_PLL_CFG 1).addr then putBits v 2 2 0
  else if blockOf base = 7 ∧ 0x200 ≤ off ∧ off < 0x300 ∧ off % 0x20 = 0 then putBits v 0 2 1
  else if blockOf base = 0x12 ∧ 0x800 ≤ off ∧ off < 0xA80 ∧ fixedClasses.contains ((off - 0x800) / 2) then putBits v 0 1 1
  else v

/-- A small field of a value holds a code that its table does not use (Table 14-9). -/
def unusedCode (fields : List FieldRow) (v : Nat) : Bool :=
  fields.any (fun f => f.acc = .rw && f.wid ≤ 3 && f.vmax < v / 2 ^ f.lo % 2 ^ f.wid)

/-- The host errors that the state after a direct write shows, for the register at `base`: paired limits (R88, R124), doubled references (R138), ALIGN
(R180) and AOSC_SPI's divider (R478).  No range is checked (R385). -/
def State.writeErr (s : State) (base : Nat) : Bool :=
  let off := base % 0x10000
  let p := (off - 0x100) / 0x40
  match blockOf base with
  | 2 => decide (0x100 ≤ off ∧ off < 0x400) && s.on (F.RMON_REF_CFG_ENABLE p) && decide ( s.get (F.RMON_REF_REJECT p) ≤ s.get (F.RMON_REF_ACCEPT p))
  | 4 =>
    let i := (off - 0x200) / 0x20
    let r := s.get (F.HOLD_MEMBER_CFG_SRC i)
    decide (base = F.HOLD_AOSC_CFG.addr ∧ s.get F.HOLD_AOSC_CFG_DIV < 7) || decide (0x240 ≤ off ∧ off < 0x300 ∧ off % 0x20 = 0) &&
      decide (r < 12) && (List.range 6).any (fun k => k + 2 ≠ i && s.get (F.HOLD_MEMBER_CFG_SRC (k + 2)) = r)
  | 5 =>
    decide (0x100 ≤ off ∧ off < 0x1C0 ∧ s.get (F.APLL_PLL_LOCKCFG_UNLOCKTOL p) ≤ s.get (F.APLL_PLL_LOCKCFG_LOCKTOL p))
  | 6 => decide (0x200 ≤ off ∧ off < 0x280) && s.on (F.TBASE_CLK_CFG_EN ((off - 0x200) / 0x20)) && s.badAlign ((off - 0x200) / 0x20)
  | _ => false

/-- What a change of the register at `base` brings with it, from the state before and the state after; the same as the waybill that sets it. -/
def writePost (base : Nat) (old s : State) : State :=
  let off := base % 0x10000
  match blockOf base with
  | 2 => if 0x100 ≤ off ∧ off < 0x400 then refPost ((off - 0x100) / 0x40) old s else s
  | 4 =>
    if base = F.HOLD_CTRL.addr then s.hoscEval
    else if 0x200 ≤ off ∧ off < 0x300 then
      let n := (off - 0x200) / 0x20
      ((match old.slotEntity n with | some e => s.weightZero e | none => s).slotRestart n).showSlot n
    else s
  | 5 => if base = F.APLL_AOSCFREQ.addr then s.hoscEval else if 0x100 ≤ off ∧ off < 0x1C0 then s.pllRestart ((off - 0x100) / 0x40) else s
  | 6 =>
    if 0x200 ≤ off ∧ off < 0x280 ∧ off % 0x20 = 0 then
      let n := (off - 0x200) / 0x20
      if !old.on (F.TBASE_CLK_CFG_EN n) && s.on (F.TBASE_CLK_CFG_EN n) && s.on (F.TBASE_CLK_CFG_ALIGN n) then
        s.realign n
      else s
    else s
  | 7 => if 0x400 ≤ off ∧ off < 0x500 ∧ off % 0x40 = 0 then measPost ((off - 0x400) / 0x40) old s else s
  | 8 =>
    if off < 0x40 then gnssPost old s else if off < 0x100 then posPost old s
    else if off < 0x180 then notchPost ((off - 0x100) / 0x10) old s else s
  | 9 => if 0x100 ≤ off ∧ off < 0x380 ∧ off % 0x40 = 0 then lanePost ((off - 0x100) / 0x40) old s else s
  | 0x0B =>
    if off < 0x20 then pktPost old s
    else if 0x400 ≤ off ∧ off < 0x500 then
      (if off % 0x80 < 0x10 then ptpPost ((off - 0x400) / 0x80) old s else slavePost ((off - 0x400) / 0x80) old s)
    else s
  | 0x12 => if off < 0x20 then fcolPost old s else s
  | _ => s

/-- W1C bits of a word are written: those that can clear do (R12, R53). -/
def State.writeW1c (s : State) (a v : Nat) : State :=
  let m := v &&& accMask .w1c a
  let m := if a = F.PSU_EVT.addr then
      m &&& (0xFFFF ^^^ ((if s.psu.railExc then 8 else 0) + (if s.psu.tempExc then 16 else 0)))
    else m
  if m = 0 then s else s.clearBits a m

/-- The RW fields of the register at `base` take a value; slots 0 and 1 of HOLD ignore writes to their CFG (Table 5-7).  A write of R44's exceptions has no generation to move. -/
def State.writeRw (s : State) (r : RegRow) (i base v : Nat) : State :=
  if base = (F.HOLD_MEMBER_CFG 0).addr ∨ base = (F.HOLD_MEMBER_CFG 1).addr then s else
  let v := fixWrite base v
  if unusedCode r.fields v then s.blockErr (blockOf base)
  else
    let t := s.putReg base v
    if t.writeErr base then s.blockErr (blockOf base) else writePost base s ((genOf r i (blockOf base)).elim t t.bump)

/-- MGMT firmware, which alone sets INTC_SRCs_MCFG (Table 16-4, R412), writes PRIO and EN; LEVEL ignores writes, and the bits above are reserved as those of
HCFG. -/
def State.mcfgWrite (s : State) (n v : Nat) : State :=
  if 64 ≤ v then s.blockErr 0x11 else s.set (F.INTC_SRC_MCFG n) (v % 32 + s.get (F.INTC_SRC_MCFG n) / 32 * 32)

/-- A word written to a register whose write is a command of its own, as that command has it; none for the other registers. -/
def State.actWrite (s : State) (req a : Nat) (w : Word) : Option State :=
  let v := w.toNat
  if a = F.SEQ_SAFECLR.addr then some (State.safeclrWrite v s)
  else if a = F.DPLL_MODE.addr then some (State.modeReq (if v % 2 = 1 then .openLoop none none else .closeLoop none none none) (v % 2) v s)
  else if a = F.DPLL_SWCMD.addr then some (if v % 2 = 1 then s.swcmdWrite else s)
  else if a = F.DPLL_SELMAN.addr then some (State.selmanWrite v s)
  else if a = F.FCOL_DOMCLR.addr then some (State.domclrWrite v s)
  else if a = F.FCOL_CRIT.addr then some (State.critWrite v s)
  else if a = F.INTC_HOST_COMPLETE.addr then some ((s.complete false v))
  else if a = F.INTC_MGMT_COMPLETE.addr then some ((if 3 ≤ req then s.complete true v else s))
  else if 3 ≤ req ∧ 0x111200 ≤ a ∧ a < 0x111400 then some (s.mcfgWrite ((a - 0x111200) / 2) v)
  else if 0x110400 ≤ a ∧ a < 0x110420 then some (if a = 0x110400 ∧ v % 2 = 1 then s.blockErr 0x11 else s.clearPend ((a - 0x110400) / 2) v)
  else if a = F.LANE_MODE.addr then some (s)
  else if a = F.HIF_ACCESS.addr ∧ req ≠ 0 then some (s)
  else if 0x080100 ≤ a ∧ a < 0x080180 ∧ (a % 0x10 = 2 ∨ a % 0x10 = 4) ∧ s.get (F.GNSS_NOTCH_CFG_MODE ((a - 0x080100) / 0x10)) = 1 then some (s)
  else if 0x100100 ≤ a ∧ a < 0x100140 then
    let r := (a - 0x100100) / 0x20
    if a % 0x20 = 0 then some ((s.ringCfg r v))
    else if a % 0x20 = 0x12 then some (s.ringProd r v)
    else if 2 ≤ a % 0x20 ∧ a % 0x20 < 0x12 ∧ s.on (F.HIF_RING_CFG_EN r) then some (s)
    else none
  else if 0x100200 ≤ a ∧ a < 0x100240 then
    let q := (a - 0x100200) / 0x20
    if a % 0x20 = 0 then some ((s.queueCfg q v))
    else if a % 0x20 = 0x0A then some ((s.queueProd q v []))
    else none
  else if a = (F.HIF_DMA_CTRL 0).addr ∨ a = (F.HIF_DMA_CTRL 1).addr then some ((s.dmaCtrl ((a - (F.HIF_DMA_CTRL 0).addr) / 0x20) v))
  else none

/-- The value that a write of the most significant word completes: its lower words as written before it, or as they stand (R174, R384). -/
def State.wholeValue (s : State) (base a : Nat) (w : Word) : Nat → Nat
  | 0 => 0
  | n + 1 =>
    (if base = a then w else ((s.hif.shadow.find? (fun p => p.1 = base)).map Prod.snd).getD (s.rd base)).toNat + 65536 * s.wholeValue (base + 2) a w n

/-- A write of one word that passed the window's check.  Reserved bits must be 0 (R13). -/
def State.regWrite (s : State) (req a : Nat) (w : Word) (r : RegRow) (i : Nat) : State :=
  let base := blockOf a * 0x10000 + r.off + i * r.stride
  if w.toNat &&& accMask .res a ≠ 0 then s.blockErr (blockOf a)
  else match s.actWrite req a w with
    | some x => x
    | none =>
      let s := s.writeW1c a w.toNat
      if !r.fields.any (fun f => f.acc = .rw) then s
      else if a + 2 < base + 2 * r.words then (s.setHif { s.hif with shadow := Machine.insertKey s.hif.shadow a w })
      else
        let v := s.wholeValue base a w r.words
        let s := s.setHif { s.hif with shadow := s.hif.shadow.filter (fun p => p.1 < base || base + 2 * r.words ≤ p.1) }
        s.writeRw r i base v

/-- A write of one word. -/
def State.busWrite (s : State) (req a : Nat) (w : Word) : State :=
  let a := wordAddr a
  if s.noBlock a then (s.incRaise F.HIF_UNMAPCNT 222)
  else match regAt a with
    | none => s
    | some (r, i) => s.regWrite req a w r i

/-- A write of several words in ascending address order (R384). -/
def State.busWrites (s : State) (req a : Nat) : List Word → State
  | [] => s
  | w :: r => (s.busWrite req a w).busWrites req (a + 2) r

/-! ### The paths -/

/-- A requester can make accesses: HIF runs from the end of step 3 (R387); PCIe needs its link; a fenced MGMT core is cut off (R430). -/
def State.pathUp (s : State) (req : Nat) : Bool :=
  s.intc.running && (match req with
    | 0 => s.on F.HIF_STAT_LINKUP
    | 1 | 2 => true
    | 3 | 4 | 5 | 6 => !s.bit F.FCOL_FENCEMAP (req - 3)
    | _ => false)

/-- A path may write registers and send waybills (R396). -/
def State.mayWrite (s : State) (req : Nat) : Bool :=
  if req = 1 then s.on F.HIF_ACCESS_SPIWR else if req = 2 then s.on F.HIF_ACCESS_CONWR else true

/-- The key of SEQ_SAFECLR, accepted on every path (R396). -/
def isKey (a : Nat) (w : Word) : Bool := wordAddr a = F.SEQ_SAFECLR.addr && w.toNat = 0xC1EA

/-- The words of a write that a path without the right to write still passes on: the key. -/
def State.keyWrites (s : State) (req a : Nat) (ws : List Word) : State :=
  if (List.range ws.length).any (fun k => isKey (a + 2 * k) (ws.getD k 0)) then s.busWrite req F.SEQ_SAFECLR.addr 0xC1EA else s

/-- A write of several words by a path, with its rights. -/
def State.pathWrites (s : State) (req a : Nat) (ws : List Word) : State := if s.mayWrite req then s.busWrites req a ws else s.keyWrites req a ws

/-- A read of one word by a path, answered to it. -/
def pathRead (req a : Nat) (s : State) : Res :=
  if s.pathUp req then
    let x := s.busRead req a
    fin (x.1.reply req [x.2])
  else .next s

/-- A write of one word by a path. -/
def pathWrite (req : Nat) (s : State) (f : State → State) : Res :=
  if s.pathUp req && s.mayWrite req then fin (f s) else .next s

end Sys2Proof.Machine
end

