-- ==== Sys2Proof/Machine/Bus.lean ====
section
/-! DEFINITION. Direct register accesses (spec/15 R383 to R398, with the reads and writes of the other chapters that act).  `req` is the requester. -/
namespace Sys2Proof.Machine

/-- R102: a read that loads the requester's latch, where `a` is the least significant word of a multi-word register; any other word is read as it
stands or from the latch. -/
def execLswLatchRead (req a : Nat) (s : State) : Res := pathRead req a s

/-- R173: a read of TBASE_TIME at 0x0010. -/
def execTbaseTimeRead (req : Nat) (s : State) : Res := pathRead req F.TBASE_TIME.addr s

/-- R12: a read of a word with an RC field. -/
def execRcFieldRead (req a : Nat) (s : State) : Res := pathRead req a s

/-- R187: a read of CAPn_POP. -/
def execTbaseCapPop (req n : Nat) (s : State) : Res := if n < 8 then pathRead req (0x060608 + n * 0x20) s else .next s

/-- R206: a read of a TIC channel's POP. -/
def execTicChPop (req n : Nat) (s : State) : Res := if n < 16 then pathRead req (0x07010C + n * 0x20) s else .next s

/-- R405: a read of INTC_HOST_CLAIM or INTC_MGMT_CLAIM. -/
def execIntcClaim (req : Nat) (mgmt : Bool) (s : State) : Res := pathRead req (if mgmt then F.INTC_MGMT_CLAIM.addr else F.INTC_HOST_CLAIM.addr) s

/-- R406: a write of `w` to INTC_HOST_COMPLETE or INTC_MGMT_COMPLETE. -/
def execIntcComplete (req : Nat) (mgmt : Bool) (w : Word) (s : State) : Res :=
  pathWrite req s fun s => s.busWrite req (if mgmt then F.INTC_MGMT_COMPLETE.addr else F.INTC_HOST_COMPLETE.addr) w

/-- R391: a write to PROD of ring `r`. -/
def execHifRingDoorbell (req r : Nat) (w : Word) (s : State) : Res :=
  if r < 2 then pathWrite req s fun s => s.busWrite req (F.HIF_RING_PROD r).addr w else .next s

/-- R390: a write to CFG of ring `r`. -/
def execHifRingEnable (req r : Nat) (w : Word) (s : State) : Res :=
  if r < 2 then pathWrite req s fun s => s.busWrite req (F.HIF_RING_CFG r).addr w else .next s

/-- R397: a write to PROD of queue `q`; `frames` are the ports and lengths of the transmit descriptors it hands over. -/
def execHifQueueProdWrite (req q : Nat) (w : Word) (frames : List (Nat × Nat)) (s : State) : Res :=
  if q < 2 then pathWrite req s fun s => s.queueProd q w.toNat (frames.map (fun p => ⟨p.1, p.2⟩)) else .next s

/-- R398: START is written to DMA channel `c`. -/
def execHifDmaStart (req c : Nat) (s : State) : Res :=
  if c < 2 then pathWrite req s fun s => s.dmaStart c else .next s

/-- R398: ABORT is written to DMA channel `c`. -/
def execHifDmaAbort (req c : Nat) (s : State) : Res :=
  if c < 2 then pathWrite req s fun s => s.dmaAbort c else .next s

/-- R385: a direct write.  Over PCIe, one that enables only one byte of the word is discarded and counted (R384), and a poisoned one is discarded
(R386). -/
def execRegisterWrite (req a : Nat) (w : Word) (how : BusWrite) (s : State) : Res :=
  if !s.pathUp req then .next s
  else if how = .oneByte && req = 0 then fin (s.incRaise F.HIF_PARTCNT 222)
  else if how = .poisoned && req = 0 then .next s
  else fin (s.pathWrites req a [w])

end Sys2Proof.Machine
end

