-- ==== Sys2Proof/Machine/Ebnd.lean ====
section
/-! DEFINITION. The commands of EBND (spec/13). -/
namespace Sys2Proof.Machine

/-- R348: a SYNTH, STAMP or HOLD term has risen between ticks: EBND republishes, and PKT withdraws the slots that closed on older bounds. -/
def execEbndAsyncRepublish (s : State) : Res :=
  if s.past 6 && s.termsRose then
    fin <|
      let s := (s.showTerms).ebndPublish.boundEdges
      let s := (s.inc F.EBND_ASYNCCNT).raise 194
      ((s.svcEval false).classEval).withdrawOld
  else .next s

/-- A configuration operation waits for the next tick (R358). -/
def State.ebndLater (s : State) (h : WbHead) (given : Nat) (regs : List (Nat × Nat)) : State :=
  s.setEbnd { s.ebnd with cfgs := s.ebnd.cfgs ++ [⟨h, given, regs, .plain⟩] }

/-- R358: EBND_CFG. -/
def execEbndCfg (h : WbHead) (ps : List Word) (s : State) : Res :=
  runOp 0x7000 false h ps s fun s =>
    let l := cfgValues s ps 1 [F.EBND_CTRL.addr, F.EBND_SERVELIM.addr, F.EBND_LIM248.addr, F.EBND_UNKACC.addr, F.EBND_ANONASYM.addr,
      F.EBND_NTPEFTYPE.addr, F.EBND_PTPORG.addr, F.EBND_OSLV.addr, F.EBND_OSLVHOLD.addr]
    s.ebndLater h (param s ps 0) l

/-- R358: EBND_REFUNCCFG. -/
def execEbndRefunccfg (h : WbHead) (ps : List Word) (s : State) : Res :=
  runOp 0x7040 false h ps s fun s =>
    let n := param s ps 0
    if 12 ≤ n then s.waybillErr 0xe h else s.ebndLater h (param s ps 1) (cfgValues s ps 2 [(F.EBND_REFUNC n).addr])

/-- R358: EBND_REPORT. -/
def execEbndReport (h : WbHead) (ps : List Word) (s : State) : Res :=
  runOp 0x7080 false h ps s fun s =>
    s.doneRd h [F.EBND_STAT.run, F.EBND_COMMON.run, ((F.EBND_COMP 0).addr, 18), F.EBND_SEQ.run]

/-- R358: EBND_PORTREPORT. -/
def execEbndPortreport (h : WbHead) (ps : List Word) (s : State) : Res :=
  runOp 0x70C0 false h ps s fun s =>
    let n := param s ps 1
    if 8 ≤ param s ps 0 ∨ 8 < param s ps 0 1 + n then s.waybillErr 0xe h
    else s.doneRd h [((F.EBND_PORT (param s ps 0 2)).addr, 2 * n)]

/-- The largest bound of port `p` in the second `k` seconds ago, ps; 0 where none is kept. -/
def State.boundOfSecond (s : State) (p k : Nat) : Nat := ((s.histNow p).getD k (0, [])).1

/-- R350: EBND_HISTORY. -/
def execEbndHistory (h : WbHead) (ps : List Word) (s : State) : Res :=
  runOp 0x7100 false h ps s fun s =>
    let n := param s ps 2
    if 8 ≤ param s ps 0 ∨ 4096 ≤ param s ps 1 ∨ 64 < n ∨ 4096 < param s ps 1 1 + n then s.waybillErr 0xe h
    else s.done h ((List.range n).map (fun k => w16 (satNat 16 (ceilDiv (s.boundOfSecond (param s ps 0 1) (param s ps 1 2 + k)) 100))))

end Sys2Proof.Machine
end

