-- ==== Sys2Proof/Machine/Hif.lean ====
section
/-! DEFINITION. The commands of HIF (spec/15) beside the register accesses of Bus, and the taking of waybills (spec/14 R369). -/
namespace Sys2Proof.Machine

/-- R369 to R372, R391: MGMT takes the next waybill of a ring.  `words` are what its memory read of ring 0 or 1 brings; the mailboxes of rings 2 and
3 hold theirs. -/
def execWaybillTake (ring : Nat) (words : List Word) (s : State) : Res :=
  if !s.mayTake || !s.ringTurn ring then .next s
  else if ring < 2 then
    if s.ringReady ring then
      let slot := s.get (F.HIF_RING_CONS ring) % s.ringDepth ring
      if (s.takenAt ring slot).isSome then fin ((s.bump (F.HIF_RING_CONS ring)).waybillErr 0x0F ⟨ring, slot, words.getD 1 0, 0⟩)
      else fin ((s.bump (F.HIF_RING_CONS ring)).takeWords ring slot words)
    else .next s
  else match s.hif.bells.find? (fun b => b.1 = ring) with
    | none => .next s
    | some (_, slot) =>
      let t := s.setHif { s.hif with bells := s.hif.bells.erase (ring, slot) }
      fin (t.takeWords ring slot (look [] s.hif.mailbox (ring * 256 + slot)))

/-- R387: the link trains after step 2 with PCIE_PERST_N high: speed code 1 to 4 and width 1, 2 or 4 as trained, and what the host then enables by
configuration writes.  Transmit descriptors that waited for bus mastering are read (R397). -/
def execPcieLinkTrain (speed width : Nat) (busMaster msix : Bool) (s : State) : Res :=
  if s.past 2 && decide (1 ≤ speed ∧ speed ≤ 4) && (width = 1 || width = 2 || width = 4) then
    let up := s.on F.HIF_STAT_LINKUP
    let s := s.setHif { s.hif with perstLow := false }
    let s := ((s.setB F.HIF_STAT_LINKUP true).set F.HIF_STAT_SPEED speed).set F.HIF_STAT_WIDTH width
    let s := (s.setB F.HIF_STAT_BUSMASTER busMaster).setB F.HIF_STAT_MSIXEN msix
    fin ((s.raiseIf (!up) 216).txFetch)
  else .next s

/-- R388: a function-level reset (`flr`), or PCIE_PERST_N low, with which the link goes down. -/
def execPcieReset (flr : Bool) (s : State) : Res :=
  if !s.past 2 then .next s
  else if flr then fin s.endpointReset
  else
    let s := s.linkDown.endpointReset
    fin (s.setHif { s.hif with perstLow := true })

/-- R400: the link goes down, or AER reports an uncorrectable error, or both. -/
def execPcieLinkLoss (what : LinkEvent) (s : State) : Res :=
  if s.on F.HIF_STAT_LINKUP then
    let s := if what = .down then s else s.fault 0x10 2
    fin (if what = .aer then s else s.linkDown)
  else .next s

/-- R398: a transfer ends: channel 0 has written `data`, the host's bytes with the first as the least significant; on channel 1 `bad` is an
uncorrectable memory error. -/
def execDmaComplete (c data : Nat) (bad : Bool) (s : State) : Res :=
  if c < 2 && s.on (F.HIF_DMA_STAT_BUSY c) && s.hostMem && !s.bit F.FCOL_FENCEMAP (4 + c) then
    if bad && c = 1 then fin (s.dmaEnd 1 4)
    else
      let r := s.dmaRange c
      let s := if c = 0 then s.memPut r.1 r.2 (data % 256 ^ r.2) else s
      fin (s.dmaEnd c 0)
  else .next s

/-! ### The SPI target (R392 to R394) -/

/-- The reply of a frame: status, data, and their CRC. -/
def State.spiReply (s : State) (status : Nat) (data : List Word) : State :=
  s.reply 1 (w16 status :: data ++ [w16 (crc16 (wordBytes (w16 status :: data)))])

/-- The data words that a frame's reply has, whatever its status (Table 15-3). -/
def spiData (op n : Nat) : Nat := if op = 1 ∨ op = 4 then n else 0

/-- A frame with status 1 or 3 has no effect and is counted (Table 15-8); the `n` data words of its reply are open. -/
def State.spiBad (s : State) (status : Nat) (n : Nat := 0) : State :=
  let (x, s) := (s.incRaise F.HIF_SPIERR 221).freeNat
  s.spiReply status (wordsOf x n)

/-- A frame with a host error: its status and data are open (R377). -/
def State.spiOpen (s : State) : State :=
  let (x, s) := s.freeNat
  s.spiReply (x % 65536) (wordsOf (x / 65536) (x / 65536 % 2049))

/-- A read frame whose data come too late: status 2, data 0, and no effect beyond the latches (R393). -/
def State.spiLate (s : State) (a n : Nat) : State :=
  let t := (s.busReads 1 a n).1
  (s.setHif { s.hif with latches := t.hif.latches, timeLatch := t.hif.timeLatch }).spiReply 2 (List.replicate n 0)

/-- Operation 2: a register write; without the right to write, status 3, and only the key of SEQ_SAFECLR passes (R396). -/
def State.spiWrite (s : State) (a : Nat) (ws : List Word) : State :=
  let t := s.pathWrites 1 a ws
  if s.mayWrite 1 || (List.range ws.length).all (fun k => isKey (a + 2 * k) (ws.getD k 0)) then t.spiReply 0 [] else t.spiBad 3

/-- Operation 3: a waybill into a ring 2 slot. -/
def State.spiWaybill (s : State) (slot : Nat) (ws : List Word) : State :=
  if !s.mayWrite 1 then s.spiBad 3
  else if 4 ≤ slot ∨ 64 < ws.length then (s.blockErr 0x10).spiOpen
  else if s.slotBusy 2 slot then (s.blockErr 0x0F).spiReply 0 []
  else ((s.mailboxPut 2 slot ws).spiReply 0 [])

/-- A whole frame after its CRC has passed. -/
def State.spiRun (s : State) (op n a : Nat) (data : List Word) (late : Bool) : State :=
  if op = 0 ∨ 5 ≤ op ∨ 2048 < n then s.spiBad 3 (spiData op n)
  else if op = 1 then
    if late then s.spiLate a n
    else
      let x := s.busReads 1 a n
      x.1.spiReply 0 x.2
  else if op = 2 then s.spiWrite a data
  else if op = 3 then s.spiWaybill a data
  else
    let x := s.manifestWords 2 (a / 65536) (a % 65536) n
    x.2.spiReply 0 x.1

/-- R393: CSN rises within a frame. -/
def execSpiFrameCut (s : State) : Res := if s.pathUp 1 then fin (s.incRaise F.HIF_SPIERR 221) else .next s

/-- R392 to R394: a complete frame of MOSI words; `late`: the read data of operation 1 are not complete when the status word begins.  A frame of
fewer words than its command asks for has been cut short. -/
def execSpiFrame (ws : List Word) (late : Bool) (s : State) : Res :=
  if !s.pathUp 1 then .next s
  else
    let op := (ws.getD 0 0).toNat / 4096
    let n := (ws.getD 0 0).toNat % 4096
    let k := if op = 2 ∨ op = 3 then n else 0
    let a := (ws.getD 1 0).toNat + 65536 * ((ws.getD 2 0).toNat % 32)
    if ws.length < 4 + k then fin (s.incRaise F.HIF_SPIERR 221)
    else if crc16 (wordBytes (ws.take (3 + k))) ≠ (ws.getD (3 + k) 0).toNat then fin (s.spiBad 1 (spiData op n))
    else fin (s.spiRun op n a ((ws.drop 3).take k) late)

/-! ### The console (R395, R396) -/

/-- The value of a hexadecimal digit. -/
def hexDigit (c : Nat) : Option Nat :=
  if 48 ≤ c ∧ c ≤ 57 then some (c - 48) else if 65 ≤ c ∧ c ≤ 70 then some (c - 55) else if 97 ≤ c ∧ c ≤ 102 then some (c - 87) else none

/-- A hexadecimal number; none for an empty or malformed one. -/
def hexNum (cs : List Nat) : Option Nat :=
  if cs.isEmpty then none else cs.foldl (fun a c => a.bind (fun v => (hexDigit c).map (fun d => v * 16 + d))) (some 0)

/-- A line cut at its spaces. -/
def tokens : List Nat → List Nat → List (List Nat)
  | [], cur => if cur.isEmpty then [] else [cur]
  | c :: r, cur => if c = 32 then (if cur.isEmpty then tokens r [] else cur :: tokens r []) else tokens r (cur ++ [c])

/-- Every token as a number below a limit. -/
def hexAll (lim : Nat) (ts : List (List Nat)) : Option (List Nat) :=
  ts.foldr (fun t a => a.bind (fun l => (hexNum t).bind (fun v => if v < lim then some (v :: l) else none))) (some [])

/-- Four digits of a word, and words as the console writes them: each after a space. -/
def hexChar (d : Nat) : Nat := if d < 10 then 48 + d else 55 + d
def hexWord (w : Word) : List Nat := [hexChar (w.toNat / 4096), hexChar (w.toNat / 256 % 16), hexChar (w.toNat / 16 % 16), hexChar (w.toNat % 16)]

/-- The console answers with a line: ok, ?, or = and words. -/
def State.conLine (s : State) (cs : List Nat) : State := s.setHif { s.hif with console := cs }
def State.conOk (s : State) : State := s.conLine [111, 107]
def State.conNo (s : State) : State := s.conLine [63]
def State.conWords (s : State) (ws : List Word) : State := (s.reply 2 ws).conLine (61 :: ws.flatMap (fun w => 32 :: hexWord w))

/-- Command r: read words. -/
def State.conRead (s : State) (a n : Nat) : State :=
  if 0x200000 ≤ a ∨ n = 0 ∨ 64 < n then s.conNo
  else
    let x := s.busReads 2 a n
    (x.1.conWords x.2)

/-- Command w: write words; without the right to write the answer is ?, and only the key of SEQ_SAFECLR passes. -/
def State.conWrite (s : State) (a : Nat) (ws : List Word) : State :=
  if 0x200000 ≤ a ∨ ws.isEmpty ∨ 64 < ws.length then s.conNo
  else
    let t := s.pathWrites 2 a ws
    if s.mayWrite 2 || (List.range ws.length).all (fun k => isKey (a + 2 * k) (ws.getD k 0)) then t.conOk else t.conNo

/-- Command b: a waybill into ring 3. -/
def State.conWaybill (s : State) (ws : List Word) : State :=
  if !s.mayWrite 2 || decide (ws.length < 4 ∨ 64 < ws.length) then s.conNo
  else if s.slotBusy 3 0 then (s.blockErr 0x0F).conOk
  else ((s.mailboxPut 3 0 ws).conOk)

/-- Command m: words of the ring 3 manifest. -/
def State.conManifest (s : State) (first n : Nat) : State :=
  if 16384 ≤ first ∨ 64 < n then s.conNo
  else
    let x := s.manifestWords 3 0 first n
    (x.2.conWords x.1)

/-- The command of a line (Table 15-5). -/
def State.conRun (s : State) (line : List Nat) : State :=
  match tokens line [] with
  | [114] :: ts => match hexAll 0x200000 ts with
    | some [a] => s.conRead a 1
    | some [a, n] => s.conRead a n
    | _ => s.conNo
  | [119] :: t :: ts => match hexNum t, hexAll 0x10000 ts with
    | some a, some ws => s.conWrite a (ws.map w16)
    | _, _ => s.conNo
  | [98] :: ts => match hexAll 0x10000 ts with
    | some ws => s.conWaybill (ws.map w16)
    | none => s.conNo
  | [109] :: ts => match hexAll 0x10000 ts with
    | some [] => s.conManifest 0 1
    | some [a] => s.conManifest a 1
    | some [a, n] => s.conManifest a n
    | _ => s.conNo
  | _ => s.conNo

/-- R395: a line of characters, without what ends it. -/
def execConsoleLine (line : List Nat) (s : State) : Res :=
  if !s.pathUp 2 then .next s else if 600 < line.length then fin s.conNo else fin (s.conRun line)

/-! ### Waybills (Table 15-11) -/

/-- R401: HIF_CFG. -/
def execHifCfg (h : WbHead) (ps : List Word) (s : State) : Res :=
  runOp 0x8000 false h ps s fun s =>
    cfgOp F.HIF_GEN (param s ps 0) (cfgValues s ps 1 [F.HIF_ACCESS.addr, F.HIF_CONCFG.addr, F.HIF_SPIWAIT.addr]) noPost h s

/-- R401: HIF_REPORT, its counters read as RC. -/
def execHifReport (h : WbHead) (ps : List Word) (s : State) : Res :=
  runOp 0x8040 false h ps s fun s =>
    let r := s.report [(F.HIF_STAT, false), (F.HIF_UNMAPCNT, true), (F.HIF_PARTCNT, true), (F.HIF_SPIERR, true), (F.HIF_Q_DROP 0, true), (F.HIF_Q_DROP 1, true)]
    r.2.done h r.1

end Sys2Proof.Machine
end

