-- ==== Sys2Proof/Machine/Intc.lean ====
section
/-! DEFINITION. The commands of INTC (spec/16), beside the register accesses of Bus. -/
namespace Sys2Proof.Machine

/-- R402: an event of an edge source, or a change of a level source's input. -/
def execIntcSourceEvent (src : Nat) (s : State) : Res :=
  if unusedSource src || levelSources.contains src then fin s else fin (s.raise src)

/-- R389: the host unmasks vector 0. -/
def execMsixUnmask (s : State) : Res :=
  let i := s.intc
  let send := i.msixPending && i.host.line && s.on F.HIF_STAT_MSIXEN
  fin { s with intc := { i with msixMasked := false, msixPending := false, msixSent := i.msixSent + (if send then 1 else 0) } }

/-- R414: INTC_SRCCFG. -/
def execIntcSrccfg (h : WbHead) (ps : List Word) (s : State) : Res :=
  runOp 0x8800 false h ps s fun s =>
    let a := param s ps 1
    let n := param s ps 2
    genCheck F.INTC_GEN (param s ps 0) h s fun s =>
    if a = 0 ∨ 255 < a ∨ 57 < n ∨ 256 < a + n then s.waybillErr 0x11 h
    else if n = 0 then s.done h (s.fw F.INTC_GEN)
    else cfgOp F.INTC_GEN (s.get F.INTC_GEN) (cfgValues s ps 3 ((List.range n).map (fun k => (F.INTC_SRC_HCFG (a + k)).addr))) noPost h s

/-- R414: INTC_REPORT, its counters read as RC. -/
def execIntcReport (h : WbHead) (ps : List Word) (s : State) : Res :=
  runOp 0x8840 false h ps s fun s =>
    let r := (((s.showTarget false).showTarget true).showPend).report
      ([(F.INTC_HOST_STAT, false), (F.INTC_HOST_SPUR, true), (F.INTC_HOST_COMPERR, true), (F.INTC_HOST_REBUILD, true), (F.INTC_MGMT_STAT, false)]
        ++ (List.range 16).map (fun w => (F.INTC_HOST_PEND w, false)))
    r.2.done h r.1

end Sys2Proof.Machine
end

