-- ==== Sys2Proof/Machine/Steps.lean ====
section
/-! DEFINITION. The millisecond of the time path, the time load and the authorised step (spec/04 R111, spec/06 R168 to R171). -/
namespace Sys2Proof.Machine

/-- What a jump of TBASE by `d` (2^-48 ns) brings with it beyond TBASE: measurement units clear (R205), the dead times go on in elapsed time (R186,
R194), requests that straddle it are dropped (R272), leap seconds and CLKOUTs follow the new time (R175, R180). -/
def State.jumped (s : State) (d : Int) : State := ((((s.ticClear).stampsMoved d).stepDrop).leapCheck).realignAll

/-- A reference after a time load: what was measured in the time before it is gone (log entry 31). -/
def Ref.loaded (r : Ref) : Ref := { r with meas := none, last := none, lastEdge := none, base := none, win := [], secSum := 0, secCnt := 0 }

/-- The load `l` is made: time takes its value, and everything that follows from a time set (R168, R169). -/
def State.loadMade (s : State) (l : Load) : State :=
  let t : Nat := match l.edge with
    | some e => jump (s.now + l.goal) (-(e : Int))
    | none => l.goal
  let d : Int := (t : Int) - s.now
  let s := (s.rebase d).announceMade
  let s := s.setTb { s.tb with time := t, setUnc := l.unc, pps := s.tb.pps.moved d }
  let s := ((s.setB F.TBASE_STAT_TIMESET true).set F.TBASE_STAT_SRC l.src).bump F.TBASE_GEN
  let s := if l.src = 1 then s.setB F.EBND_STAT_TRACED true else s
  let s := s.setHold { s.hold with scales := s.hold.scales.map (fun c => { c with e := 0, hf := [] }) }
  let s := (List.range 12).foldl (fun s n => s.modRef n Ref.loaded) s
  let s := ((s.jumped d).setPvalid true).raise 49
  let s := s.fault 6 4 (min (ceilDiv l.unc 1000) (2 ^ 30 - 1) + l.src * 2 ^ 30)
  let s := l.wb.elim s (fun h => s.done h (s.fw F.TBASE_GEN ++ timeWords t))
  (s.startComplete).svcEval false

/-- The announced load `l` is made at T_s, unless TBASE_GEN has moved since its waybill read it (R46, R374); then its announcement is withdrawn. -/
def State.timeLoad (s : State) (l : Load) : State :=
  let s := s.setTb { s.tb with load := none }
  match l.wb, l.gen with
  | some h, some g =>
    if s.get F.TBASE_GEN = g then s.loadMade l else s.announceOff.failed h .genConflict
  | _, _ => s.loadMade l

/-- R168, R169: T_s of an announced load is reached. -/
def execTimeLoad (s : State) : Res :=
  match s.tb.load with
  | none => .next s
  | some l =>
    if s.on F.TBASE_STAT_TIMESET || !l.ts.any (fun t => t ≤ s.now) then .next s else hwAfter 7 s fun s => s.timeLoad l

/-- R171: an accepted authorised step is announced at order 3 of a DPLL tick, T_s lying 64 ticks ahead, and the slot is free again where it is not
permitted any more. -/
def State.stepAnnounce (s : State) (a : AuthStep) : State :=
  let free := s.setTb { s.tb with astep := none }
  if s.get F.DPLL_GEN ≠ a.gen then a.wb.elim free (fun h => free.failed h .genConflict)
  else if s.mode ≠ 2 then a.wb.elim free (fun h => free.failed h .notPermitted)
  else
    let d : Int := -s.getI F.TBASE_HELD * 4294967296
    let ts := s.tsFrom s.now
    (s.setTb { s.tb with astep := some { a with ann := some (d, ts) } }).announce d ts

/-- R171: the step of `d` (2^-48 ns) is made at T_s, at order 7 with the increment write, and the DPLL enters TRACKING (log entry 39). -/
def State.stepMake (s : State) (wb : Option WbHead) (d : Int) : State :=
  let held := -d / 4294967296
  let s := (s.rebase d).announceMade
  let s := s.set F.TBASE_INCR (incrOf s.freq s.dpll.adding)
  let s := s.setTb { s.tb with astep := none, time := jump s.now d, pps := s.tb.pps.moved d }
  let s := (s.setI F.TBASE_LASTSTEP (-held)).bump F.TBASE_STEPCNT
  let s := ((s.setHeld 0).setMode 1).slewEnd
  let s := (List.range 12).foldl (fun s n => s.modRef n (fun r =>
    { r with meas := r.meas.map (· + toPs d), last := r.last.map (· + toPs d), lastEdge := r.lastEdge.map (fun t => ((t : Int) + toPs d).toNat) })) s
  let moves := (List.range 16).any s.evtMoves
  let s := (List.range 16).foldl (State.evtStep d) (s.shiftScales d)
  let s := if moves then s.bump F.TBASE_GEN else s
  let s := ((s.jumped d).raise 50).ledgerCount 5
  let ns := satSigned 32 (roundDiv (-held) 65536)
  let s := s.fault 6 3 (ofSigned 32 (max ns (-2147483647)))
  wb.elim s (fun h => s.done h (s.fw F.DPLL_GEN ++ s.fw F.TBASE_LASTSTEP ++ s.fw F.TBASE_STEPCNT))

/-- A step still announced when the next tick comes is made first: no DPLL tick lies between order 3 and T_s (R171). -/
def State.stepDue (s : State) : State :=
  match s.tb.astep with
  | some ⟨wb, _, some (d, _)⟩ => s.stepMake wb d
  | _ => s

/-- R111, R347: one DPLL tick, and the work of the millisecond that follows it; `miss` are the blocks whose terms did not reach EBND (R349). -/
def execDpllTick (miss : List Nat) (s : State) : Res :=
  hwAfter 6 s fun s =>
    let s := s.stepDue.dpllTick
    let s := if s.mode = 1 || s.mode = 2 then s.setPkt { s.pkt with refTime := s.now } else s
    (((((s.mtsTick.ebndTick miss).fcolTick).ckptTime 1).calTick.rotTick).slavesTick).showRdn

/-- R171: order 3 of a DPLL tick announces the accepted step; at T_s, at least 64 TCORE ticks later, it is made. -/
def execAuthstepApply (s : State) : Res :=
  match s.tb.astep with
  | none => .next s
  | some a => hwAfter 7 s fun s =>
    match a.ann with
    | none => s.stepAnnounce a
    | some (d, ts) => if ts ≤ s.now then s.stepMake a.wb d else s

/-- R24, R25, R27: island `i` loads the beacon in flight `cycles` local cycles after its last one and is time-valid; the service state follows
(R287). -/
def execBeaconReceive (i cycles : Nat) (s : State) : Res :=
  let x := at' ({} : Island) s.tb.islands i
  if i < 5 ∧ x.flight.isSome then
    hwAfter 6 s fun s =>
      ((s.setIslands (modAt s.tb.islands i (fun x => x.load i cycles s.tb.ticks))).setBit F.TBASE_BCNSTAT_VALID i true).svcEval false
  else .next s

/-- R27: island `i` has received no beacon for 1638.4 ns; the service state follows (R287). -/
def execBeaconLoss (i : Nat) (s : State) : Res :=
  if i < 5 ∧ !(at' ({} : Island) s.tb.islands i).lost then
    hwAfter 6 s fun s =>
      let s := (s.setIslands (modAt s.tb.islands i (fun x => { x with lost := true }))).setBit F.TBASE_BCNSTAT_VALID i false
      let s := s.raiseIf (!s.bit F.TBASE_BCNSTAT_LOST i) 63
      (((s.setBit F.TBASE_BCNSTAT_LOST i true).inc F.TBASE_BCNLOSS).fault 6 1).svcEval false
  else .next s

end Sys2Proof.Machine
end

