-- ==== Sys2Proof/Machine/Tbase.lean ====
section
/-! DEFINITION. The commands of TBASE: counting, beacons, pins, captures and the waybills of Table 6-9. -/
namespace Sys2Proof.Machine

/-- R165: TBASE adds the increment. -/
def execTcoreTick (s : State) : Res := hwAfter 6 s fun s => s.tick.reportLosses

/-- R175: a pending leap is applied once SECONDS has reached LEAPSEC. -/
def execLeapApply (s : State) : Res := hwAfter 6 s State.leapCheck

/-- R23: each beacon-fed island is sent the time of Table 6-1, whose fraction has 32 bits (R165), and its local rate word. -/
def execBeaconSend (s : State) : Res :=
  hwAfter 6 s fun s =>
    s.setIslands ((List.range 5).map (fun i => (at' ({} : Island) s.tb.islands i).send (s.now / 2 ^ 16 * 2 ^ 16) (rateWord s.incr i)))

/-- R26: island `i`'s local time reaches the announced T_s. -/
def execStepBeaconApply (i : Nat) (s : State) : Res :=
  let x := at' ({} : Island) s.tb.islands i
  match x.step with
  | some (d, ts) =>
    if ts ≤ x.local i s.tb.ticks then hwAfter 6 s fun s => s.setIslands (modAt s.tb.islands i (fun x => x.apply i s.tb.ticks d)) else .next s
  | none => .next s

/-- R177, R178: counting crosses a whole second plus OFFSET. -/
def execPpsEdge (s : State) : Res := hwAfter 6 s State.ppsEdge

/-- R180: the once-per-second measurement of CLKOUTn, `ps` late; made while it is enabled, aligned and running. -/
def execClkoutAlignCheck (n : Nat) (ps : Int) (s : State) : Res :=
  if n < 4 ∧ s.on (F.TBASE_CLK_CFG_EN n) ∧ s.on (F.TBASE_CLK_CFG_ALIGN n) ∧ !s.on (F.APLL_PLL_LOCK_SQUELCH 2) ∧ !s.clkWaits n then
    hwAfter 6 s fun s => s.clkCheck n ps
  else .next s

/-- R184: the next queued entry of EVT_OUTn reaches TCORE and arms. -/
def execEvtArm (n : Nat) (s : State) : Res := if n < 16 then hwAfter 6 s fun s => s.evtArm n else .next s

/-- R183: the time of the next edge of EVT_OUTn is reached. -/
def execEvtEdge (n : Nat) (s : State) : Res := if n < 16 then hwAfter 6 s fun s => s.evtEdge n else .next s

/-- R186: an edge on CAP_INn, sampled with fine code `c` at the tick whose TBASE time is `tick` (2^-48 ns); interpolator index 24 + n (R196). -/
def execCapEdge (n : Nat) (rise : Bool) (tick c : Nat) (s : State) : Res :=
  if n < 8 then hwAfter 6 s fun s => s.capEdge n rise (s.edgeAt 32 (24 + n) tick c) else .next s

/-- R169: no edge has come within 2 s of a mode 1 TBASE_SETTIME. -/
def execSettimeEdgeTimeout (s : State) : Res :=
  match s.tb.load with
  | some ⟨_, 1, _, _, none, _, _, some h, _⟩ => fin ((s.setTb { s.tb with load := none }).failed h .timeout)
  | _ => .next s

/-- R168, R169: TBASE_SETTIME.  One that comes while a GNSS solution's load is announced waits for it. -/
def execTbaseSettime (h : WbHead) (ps : List Word) (s : State) : Res :=
  runOp 0x3000 false h ps s fun s =>
    if s.tb.load.isSome && !s.on F.TBASE_STAT_TIMESET then s.putBack h else genCheck F.TBASE_GEN (param s ps 0) h s fun s =>
      let mode := param s ps 1
      let ns := paramN s ps 7 2
      if 2 ≤ mode ∨ (mode = 1 ∧ 8 ≤ param s ps 2) ∨ (mode = 0 ∧ 1000000000 ≤ ns) then s.waybillErr 6 h
      else if s.on F.TBASE_STAT_TIMESET then (s.failed h .notPermitted)
      else
        let goal := paramN s ps 3 4 * SEC48 + (if mode = 0 then ns * NS48 else 0)
        let ts := if mode = 0 then some (s.tsFrom s.now) else none
        (s.requestLoad ⟨2, mode, param s ps 2 1, goal, none, ts, paramN s ps 9 2 * 1000, some h, some (param s ps 0 1)⟩)

/-- R171: TBASE_AUTHSTEP is accepted in PHASEHOLD with the held step as read; it is applied by AUTHSTEP_APPLY. -/
def execTbaseAuthstep (h : WbHead) (ps : List Word) (s : State) : Res :=
  runOp 0x3040 false h ps s fun s =>
    genCheck F.DPLL_GEN (param s ps 0) h s fun s =>
      if s.get F.DPLL_STAT_MODE ≠ 2 ∨ s.get F.TBASE_HELD ≠ paramN s ps 1 5 ∨ s.tb.astep.isSome then (s.failed h .notPermitted)
      else s.setTb { s.tb with astep := some { wb := some h, gen := param s ps 0 1 } }

/-- R175: TBASE_LEAPCFG. -/
def execTbaseLeapcfg (h : WbHead) (ps : List Word) (s : State) : Res :=
  runOp 0x3080 false h ps s fun s =>
    cfgOp F.TBASE_GEN (param s ps 0) (cfgValues s ps 1 [F.TBASE_UTCOFF.addr, F.TBASE_LEAP.addr, F.TBASE_LEAPSEC.addr]) noPost h s

/-- R183, R185: TBASE_EVTSCHED. -/
def execTbaseEvtsched (h : WbHead) (ps : List Word) (s : State) : Res :=
  runOp 0x30C0 false h ps s fun s =>
    genCheck F.TBASE_GEN (param s ps 1) h s fun s =>
      let n := param s ps 0
      let start := paramN s ps 2 8
      let period := paramN s ps 10 3
      let width := paramN s ps 15 2
      if 16 ≤ n ∨ 2 ≤ param s ps 17 ∨ 1000000000 ≤ start / 2 ^ 32 % 2 ^ 32 ∨ width < 4 ∨ period ≤ width * 65536 then s.waybillErr 6 h
      else if 4 ≤ (s.evt n).queue.length then (s.failed h .busy)
      else if !s.on F.TBASE_STAT_TIMESET then (s.failed h .notPermitted)
      else
        let e : EvtEntry := { start := ofTime128 start, period := period, count := paramN s ps 13 2, width := width, cont := param s ps 17 1 = 1 }
        let v := s.evt n
        let s := (s.setEvt n { v with queue := v.queue ++ [e] }).bump F.TBASE_GEN
        (s.done h [w16 (s.get F.TBASE_GEN), w16 (s.evt n).queue.length])

/-- R190: TBASE_EVTCANCEL.  A pulse in progress completes its width; a cancelled CONT entry completes (R183). -/
def execTbaseEvtcancel (h : WbHead) (ps : List Word) (s : State) : Res :=
  runOp 0x3100 false h ps s fun s =>
    genCheck F.TBASE_GEN (param s ps 1) h s fun s =>
      let n := param s ps 0
      if 16 ≤ n ∨ 2 ≤ param s ps 2 then s.waybillErr 6 h
      else
        let v := s.evt n
        let emitted := (v.cur.map EvtEntry.emitted).getD 0
        let all := param s ps 2 1 = 0
        let contDone := all && (v.cur.any (fun e => e.cont))
        let s := s.setEvt n { v with queue := [], cur := if all then none else v.cur }
        let s := (s.raiseIf (contDone && s.on (F.TBASE_EVT_CFG_DONEIRQ n)) 54).bump F.TBASE_GEN
        s.done h (w16 (s.get F.TBASE_GEN) :: wordsOf emitted 2)

/-- Pop `k` capture stamps: the words POP, STAMP of each, oldest first. -/
def State.capRead (n : Nat) : Nat → State → State × List Word
  | 0, s => (s, [])
  | k + 1, s =>
    if (s.cap n).fifo.isEmpty then (s, [])
    else
      let (s, p) := s.capPop n
      let (s, st) := s.mgmtRead (F.TBASE_CAP_STAMP n).addr (F.TBASE_CAP_STAMP n).words
      let (s, r) := State.capRead n k s
      (s, p :: st ++ r)

/-- R190: TBASE_CAPREAD. -/
def execTbaseCapread (h : WbHead) (ps : List Word) (s : State) : Res :=
  runOp 0x3140 false h ps s fun s =>
    if 8 ≤ param s ps 0 ∨ 28 < param s ps 1 then s.waybillErr 6 h
    else
      let (t, ws) := State.capRead (param s ps 0 1) (param s ps 1 1) s
      t.done h ws

/-- R190: TBASE_REPORT; the time is of the tick at which it runs, and TSETLAT goes with it (R173). -/
def execTbaseReport (h : WbHead) (ps : List Word) (s : State) : Res :=
  runOp 0x3180 false h ps s fun s =>
    (s.loadTime 3).doneRd h [F.TBASE_HELD.run, F.TBASE_UTCOFF.run]
      (timeWords s.now ++ [w16 (putBits (s.rd F.TBASE_STAT.addr).toNat 4 1 (s.get F.TBASE_STAT_TIMESET)), s.rd F.TBASE_STEPCNT.addr])

end Sys2Proof.Machine
end

