-- ==== Sys2Proof/Machine/Waybill.lean ====
section
/-! DEFINITION. The index of operations (spec/14 Table 14-16) and the start of a taken waybill (R370, R374). -/
namespace Sys2Proof.Machine

/-- An operation: its word, and its meaning for a head and parameters. -/
abbrev OpRow := Nat × (WbHead → List Word → State → Res)

/-- The operations of SEQ. -/
def opsSeq : List OpRow :=
  [(0x0000, execSeqRestart), (0x0040, execSeqCheckpoint), (0x0080, execSeqSafeclear), (0x00C0, execSeqCfgsave),
   (0x0100, execSeqStartreport)]

/-- The operations of PSU. -/
def opsPsu : List OpRow :=
  [(0x0800, execPsuRead)]

/-- The operations of RMON. -/
def opsRmon : List OpRow :=
  [(0x1000, execRmonRefcfg), (0x1040, execRmonStatus), (0x1080, execRmonRequal), (0x10C0, execRmonHistory)]

/-- The operations of DPLL. -/
def opsDpll : List OpRow :=
  [(0x1800, execDpllLoopcfg), (0x1840, execDpllOpen), (0x1880, execDpllClose), (0x18C0, execDpllSetfreq),
   (0x1900, execDpllLoopreport), (0x1940, execDpllPhlog), (0x1A00, execDpllSelect), (0x1A40, execDpllResolve),
   (0x1A80, execDpllSelreport)]

/-- The operations of HOLD. -/
def opsHold : List OpRow :=
  [(0x2000, execHoldCfg), (0x2040, execHoldMembercfg), (0x2080, execHoldAosccfg), (0x20C0, execHoldModelreport),
   (0x2100, execHoldRetrain)]

/-- The operations of APLL. -/
def opsApll : List OpRow :=
  [(0x2800, execApllCfg), (0x2840, execApllRelock), (0x2880, execApllSpurscan), (0x28C0, execApllReport)]

/-- The operations of TBASE. -/
def opsTbase : List OpRow :=
  [(0x3000, execTbaseSettime), (0x3040, execTbaseAuthstep), (0x3080, execTbaseLeapcfg), (0x30C0, execTbaseEvtsched),
   (0x3100, execTbaseEvtcancel), (0x3140, execTbaseCapread), (0x3180, execTbaseReport)]

/-- The operations of TIC. -/
def opsTic : List OpRow :=
  [(0x3800, execTicCfg), (0x3840, execTicChcfg), (0x3880, execTicMeascfg), (0x38C0, execTicStatrun),
   (0x3900, execTicStatstop), (0x3940, execTicStampread), (0x3980, execTicCalrun), (0x39C0, execTicCalreport),
   (0x3A00, execTicXtalreport)]

/-- The operations of GNSS. -/
def opsGnss : List OpRow :=
  [(0x4000, execGnssCfg), (0x4040, execGnssAcquire), (0x4080, execGnssAcqstop), (0x40C0, execGnssPoscfg),
   (0x4100, execGnssObsread), (0x4140, execGnssNavread), (0x4180, execGnssNfcal), (0x41C0, execGnssNotchcfg),
   (0x4200, execGnssReport)]

/-- The operations of LANE. -/
def opsLane : List OpRow :=
  [(0x4800, execLaneModeset), (0x4840, execLaneLanecfg), (0x4880, execLaneRestart), (0x48C0, execLaneReport)]

/-- The operations of MTS. -/
def opsMts : List OpRow :=
  [(0x5000, execMtsCfg), (0x5040, execMtsLanecfg), (0x5080, execMtsMeterreport)]

/-- The operations of PKT. -/
def opsPkt : List OpRow :=
  [(0x5800, execPktCfg), (0x5840, execPktLimitcfg), (0x5880, execPktAddrcfg), (0x58C0, execPktPortcfg),
   (0x5900, execPktPtpcfg), (0x5940, execPktSlavecfg), (0x5980, execPktRefidcfg), (0x59C0, execPktCountreport),
   (0x5A00, execPktStampreport), (0x5A40, execPktSlavereport), (0x5A80, execPktGrantclear), (0x5AC0, execPktSvcreport)]

/-- The operations of AUTH. -/
def opsAuth : List OpRow :=
  [(0x6000, execAuthCfg), (0x6040, execAuthKeyload), (0x6080, execAuthKeystate), (0x60C0, execAuthZeroise),
   (0x6100, execAuthRotate), (0x6140, execAuthRotstop), (0x6180, execAuthCookiemint), (0x61C0, execAuthKeyreport),
   (0x6200, execAuthCountreport), (0x6240, execAuthSelftest), (0x6280, execAuthMintstage)]

/-- The operations of CTAB. -/
def opsCtab : List OpRow :=
  [(0x6800, execCtabCfg), (0x6840, execCtabLoad), (0x6880, execCtabSweep), (0x68C0, execCtabDump),
   (0x6900, execCtabEntryread), (0x6940, execCtabLookup), (0x6980, execCtabMemreport)]

/-- The operations of EBND. -/
def opsEbnd : List OpRow :=
  [(0x7000, execEbndCfg), (0x7040, execEbndRefunccfg), (0x7080, execEbndReport), (0x70C0, execEbndPortreport),
   (0x7100, execEbndHistory)]

/-- The operations of MGMT. -/
def opsMgmt : List OpRow :=
  [(0x7800, execMgmtEcho), (0x7840, execMgmtList), (0x7880, execMgmtCancel), (0x78C0, execMgmtSuspend),
   (0x7900, execMgmtResume), (0x7940, execMgmtAuditreport), (0x7980, execMgmtVersion), (0x79C0, execMgmtCountreport)]

/-- The operations of HIF. -/
def opsHif : List OpRow :=
  [(0x8000, execHifCfg), (0x8040, execHifReport)]

/-- The operations of INTC. -/
def opsIntc : List OpRow :=
  [(0x8800, execIntcSrccfg), (0x8840, execIntcReport)]

/-- The operations of FCOL. -/
def opsFcol : List OpRow :=
  [(0x9000, execFcolCfg), (0x9040, execFcolFirstread), (0x9080, execFcolAck), (0x90C0, execFcolLogread),
   (0x9100, execFcolClear), (0x9140, execFcolCountreport), (0x9180, execFcolLedgerdump), (0x91C0, execFcolLedgerreport)]

/-- The operations of RDN. -/
def opsRdn : List OpRow :=
  [(0x9800, execRdnCfg), (0x9840, execRdnRelease), (0x9880, execRdnReport)]

/-- Table 14-16. -/
def opIndex : List OpRow :=
  opsSeq ++ opsPsu ++ opsRmon ++ opsDpll ++ opsHold ++ opsApll ++ opsTbase ++ opsTic ++ opsGnss ++ opsLane
    ++ opsMts ++ opsPkt ++ opsAuth ++ opsCtab ++ opsEbnd ++ opsMgmt ++ opsHif ++ opsIntc ++ opsFcol ++ opsRdn

/-- R370, R374: a taken waybill that may start is checked, and the operation that its word names runs with the head and the parameters its words
carry. -/
def execWaybillStart (ring slot : Nat) (s : State) : Res :=
  match s.takenAt ring slot with
  | none => .next s
  | some t =>
    if !s.intc.running || s.mgmtFenced || t.started || !s.mayStart t then .next s
    else match s.checkWords t.words with
      | some e => fin (s.checkFail t e)
      | none => match opIndex.find? (fun o => o.1 = t.w0.toNat / 64 * 64) with
        | some o => o.2 t.head t.params s
        | none => .next s

end Sys2Proof.Machine
end

