-- ==== Sys2Proof/Machine/Dispatch.lean ====
section
/-! DEFINITION. One arm per command: the direct call of its meaning, or its rejection by name. -/
namespace Sys2Proof.Machine

def exec (i : Instr) (s : State) : Host.Outcome State Fault Refusal :=
  match i with
  | .vinWarningCrossing => Sys2Proof.Machine.execVinWarningCrossing s
  | .vinRecovery => Sys2Proof.Machine.execVinRecovery s
  | .vinResetCrossing => Sys2Proof.Machine.execVinResetCrossing s
  | .vinRiseStart => Sys2Proof.Machine.execVinRiseStart s
  | .vinStable => Sys2Proof.Machine.execVinStable s
  | .vbatLow => Sys2Proof.Machine.execVbatLow s
  | .vbatValid => Sys2Proof.Machine.execVbatValid s
  | .rstNAssert => Sys2Proof.Machine.execRstNAssert s
  | .rstNResetTimeout => Sys2Proof.Machine.execRstNResetTimeout s
  | .railFault => Sys2Proof.Machine.execRailFault s
  | .powerStageOvertemp => Sys2Proof.Machine.execPowerStageOvertemp s
  | .railExcursionEnd temp => Sys2Proof.Machine.execRailExcursionEnd temp s
  | .checkpointComplete ok us => Sys2Proof.Machine.execCheckpointComplete ok us s
  | .startStepComplete n x => Sys2Proof.Machine.execStartStepComplete n x s
  | .startStepTimeout => Sys2Proof.Machine.execStartStepTimeout s
  | .startRetry => Sys2Proof.Machine.execStartRetry s
  | .deferredReset => Sys2Proof.Machine.execDeferredReset s
  | .aonRingCheck aosc xtal vbat t => Sys2Proof.Machine.execAonRingCheck aosc xtal vbat t s
  | .beaconSend => Sys2Proof.Machine.execBeaconSend s
  | .beaconReceive k cycles => Sys2Proof.Machine.execBeaconReceive k cycles s
  | .beaconLoss k => Sys2Proof.Machine.execBeaconLoss k s
  | .stepBeaconApply k => Sys2Proof.Machine.execStepBeaconApply k s
  | .pcsDelimiterReport id pos => Sys2Proof.Machine.execPcsDelimiterReport id pos s
  | .fcsRelease id => Sys2Proof.Machine.execFcsRelease id s
  | .lockedSlotCommit id pos => Sys2Proof.Machine.execLockedSlotCommit id pos s
  | .lockedSlotTimeout id => Sys2Proof.Machine.execLockedSlotTimeout id s
  | .speculationTimeout id => Sys2Proof.Machine.execSpeculationTimeout id s
  | .mgmtAudit => Sys2Proof.Machine.execMgmtAudit s
  | .refEdge n tick c => Sys2Proof.Machine.execRefEdge n tick c s
  | .refActivityLoss n => Sys2Proof.Machine.execRefActivityLoss n s
  | .dpllTick miss => Sys2Proof.Machine.execDpllTick miss s
  | .qualTimerExpiry n => Sys2Proof.Machine.execQualTimerExpiry n s
  | .rmonSlopeFit => Sys2Proof.Machine.execRmonSlopeFit s
  | .witnessPhaseReturn => Sys2Proof.Machine.execWitnessPhaseReturn s
  | .voteExpiry => Sys2Proof.Machine.execVoteExpiry s
  | .slewComplete => Sys2Proof.Machine.execSlewComplete s
  | .phlockTimer => Sys2Proof.Machine.execPhlockTimer s
  | .apllLockWindow p count lost => Sys2Proof.Machine.execApllLockWindow p count lost s
  | .apllRefLoss p lost => Sys2Proof.Machine.execApllRefLoss p lost s
  | .ebndAsyncRepublish => Sys2Proof.Machine.execEbndAsyncRepublish s
  | .apllReturnExpiry p lost => Sys2Proof.Machine.execApllReturnExpiry p lost s
  | .apllOutSquelchClear => Sys2Proof.Machine.execApllOutSquelchClear s
  | .aoscReturn => Sys2Proof.Machine.execAoscReturn s
  | .crystalStop => Sys2Proof.Machine.execCrystalStop s
  | .holdSecond aosc xtal tj => Sys2Proof.Machine.execHoldSecond aosc xtal tj s
  | .holdModelTrain => Sys2Proof.Machine.execHoldModelTrain s
  | .trainage24h => Sys2Proof.Machine.execTrainage24h s
  | .aoscSteer => Sys2Proof.Machine.execAoscSteer s
  | .aoscSteerComp => Sys2Proof.Machine.execAoscSteerComp s
  | .aoscAckReceive byte => Sys2Proof.Machine.execAoscAckReceive byte s
  | .aoscAckTimeout => Sys2Proof.Machine.execAoscAckTimeout s
  | .holdContractExpiry => Sys2Proof.Machine.execHoldContractExpiry s
  | .tcoreTick => Sys2Proof.Machine.execTcoreTick s
  | .leapApply => Sys2Proof.Machine.execLeapApply s
  | .ppsEdge => Sys2Proof.Machine.execPpsEdge s
  | .clkoutAlignCheck n ps => Sys2Proof.Machine.execClkoutAlignCheck n ps s
  | .evtArm n => Sys2Proof.Machine.execEvtArm n s
  | .evtEdge n => Sys2Proof.Machine.execEvtEdge n s
  | .capEdge n rise tick c => Sys2Proof.Machine.execCapEdge n rise tick c s
  | .timeLoad => Sys2Proof.Machine.execTimeLoad s
  | .settimeEdgeTimeout => Sys2Proof.Machine.execSettimeEdgeTimeout s
  | .authstepApply => Sys2Proof.Machine.execAuthstepApply s
  | .ticEdge ch rise tick c => Sys2Proof.Machine.execTicEdge ch rise tick c s
  | .ticStopDecide u => Sys2Proof.Machine.execTicStopDecide u s
  | .ticGateClose u => Sys2Proof.Machine.execTicGateClose u s
  | .statrunTimeout u => Sys2Proof.Machine.execStatrunTimeout u s
  | .ticCalTempTrigger tj => Sys2Proof.Machine.execTicCalTempTrigger tj s
  | .ticCalComplete hits again => Sys2Proof.Machine.execTicCalComplete hits again s
  | .ticCalSwap => Sys2Proof.Machine.execTicCalSwap s
  | .xtalWitness y => Sys2Proof.Machine.execXtalWitness y s
  | .xtalTrim => Sys2Proof.Machine.execXtalTrim s
  | .gnssEpoch t obs fix => Sys2Proof.Machine.execGnssEpoch t obs fix s
  | .gnssElasticSlip fill => Sys2Proof.Machine.execGnssElasticSlip fill s
  | .gnssPortClockLoss portB => Sys2Proof.Machine.execGnssPortClockLoss portB s
  | .gnssPortClockReturn portB ephAge almAge => Sys2Proof.Machine.execGnssPortClockReturn portB ephAge almAge s
  | .prnSearchDone x => Sys2Proof.Machine.execPrnSearchDone x s
  | .gnssChannelLock c => Sys2Proof.Machine.execGnssChannelLock c s
  | .gnssNavSync c => Sys2Proof.Machine.execGnssNavSync c s
  | .gnssPullinTimeout c => Sys2Proof.Machine.execGnssPullinTimeout c s
  | .gnssLossOfLock c => Sys2Proof.Machine.execGnssLossOfLock c s
  | .gnssReacqTimeout c => Sys2Proof.Machine.execGnssReacqTimeout c s
  | .signalBHandover c locked => Sys2Proof.Machine.execSignalBHandover c locked s
  | .gnssSpectrum band pre post lines => Sys2Proof.Machine.execGnssSpectrum band pre post lines s
  | .navUnitDecoded c sigB words leap => Sys2Proof.Machine.execNavUnitDecoded c sigB words leap s
  | .surveyComplete x y z => Sys2Proof.Machine.execSurveyComplete x y z s
  | .laneLoss n det bad => Sys2Proof.Machine.execLaneLoss n det bad s
  | .laneDetectorRestore n det bad arrivals => Sys2Proof.Machine.execLaneDetectorRestore n det bad arrivals s
  | .deskewTimeout p => Sys2Proof.Machine.execDeskewTimeout p s
  | .plinkBitSlip n bad => Sys2Proof.Machine.execPlinkBitSlip n bad s
  | .plinkLockTimeout n => Sys2Proof.Machine.execPlinkLockTimeout n s
  | .rateMatchEvent n pos fill nxt => Sys2Proof.Machine.execRateMatchEvent n pos fill nxt s
  | .rateMatchUnscheduled n pos fill nxt => Sys2Proof.Machine.execRateMatchUnscheduled n pos fill nxt s
  | .meterLock n rx word time period resid => Sys2Proof.Machine.execMeterLock n rx word time period resid s
  | .meterUnlock n rx resid => Sys2Proof.Machine.execMeterUnlock n rx resid s
  | .fecSecond n corr unc => Sys2Proof.Machine.execFecSecond n corr unc s
  | .frameReceive p f m busy => Sys2Proof.Machine.execFrameReceive p f m busy s
  | .ctabDecisionReturn id => Sys2Proof.Machine.execCtabDecisionReturn id s
  | .authVerdictReturn id => Sys2Proof.Machine.execAuthVerdictReturn id s
  | .requestTimeout id => Sys2Proof.Machine.execRequestTimeout id s
  | .convoyClose plans => Sys2Proof.Machine.execConvoyClose plans s
  | .ptpScheduledMessage g type => Sys2Proof.Machine.execPtpScheduledMessage g type s
  | .grantStreamMessage n type => Sys2Proof.Machine.execGrantStreamMessage n type s
  | .grantExpiry n type => Sys2Proof.Machine.execGrantExpiry n type s
  | .slaveSyncMeasurement g => Sys2Proof.Machine.execSlaveSyncMeasurement g s
  | .slaveDelayReqSend g => Sys2Proof.Machine.execSlaveDelayReqSend g s
  | .slaveGrantRenew g => Sys2Proof.Machine.execSlaveGrantRenew g s
  | .slaveAnnounceTimeout g => Sys2Proof.Machine.execSlaveAnnounceTimeout g s
  | .slaveSyncTimeout g => Sys2Proof.Machine.execSlaveSyncTimeout g s
  | .svcholdExpiry => Sys2Proof.Machine.execSvcholdExpiry s
  | .missSecond => Sys2Proof.Machine.execMissSecond s
  | .authVerifyJob => Sys2Proof.Machine.execAuthVerifyJob s
  | .authTagJob => Sys2Proof.Machine.execAuthTagJob s
  | .authTagLate id => Sys2Proof.Machine.execAuthTagLate id s
  | .authCancel id => Sys2Proof.Machine.execAuthCancel id s
  | .authFailSecond => Sys2Proof.Machine.execAuthFailSecond s
  | .drbgReseed ok => Sys2Proof.Machine.execDrbgReseed ok s
  | .keyStateEffect => Sys2Proof.Machine.execKeyStateEffect s
  | .zeroiseComplete n => Sys2Proof.Machine.execZeroiseComplete n s
  | .keystoreEccError n double => Sys2Proof.Machine.execKeystoreEccError n double s
  | .rotationActivate n => Sys2Proof.Machine.execRotationActivate n s
  | .rotationRetire n => Sys2Proof.Machine.execRotationRetire n s
  | .mintStageExpiry n => Sys2Proof.Machine.execMintStageExpiry n s
  | .lookupDecide id held => Sys2Proof.Machine.execLookupDecide id held s
  | .ctabCommit held => Sys2Proof.Machine.execCtabCommit held s
  | .leaseRelease n => Sys2Proof.Machine.execLeaseRelease n s
  | .leaseExpiry n => Sys2Proof.Machine.execLeaseExpiry n s
  | .leaseReread n ecc => Sys2Proof.Machine.execLeaseReread n ecc s
  | .forcedRelease => Sys2Proof.Machine.execForcedRelease s
  | .patrolScrub n => Sys2Proof.Machine.execPatrolScrub n s
  | .eccUncorrectable a => Sys2Proof.Machine.execEccUncorrectable a s
  | .indexRebuildDone => Sys2Proof.Machine.execIndexRebuildDone s
  | .loadRecordApply held => Sys2Proof.Machine.execLoadRecordApply held s
  | .dqsTrack => Sys2Proof.Machine.execDqsTrack s
  | .zqRecal => Sys2Proof.Machine.execZqRecal s
  | .waybillTake ring words => Sys2Proof.Machine.execWaybillTake ring words s
  | .waybillStart ring slot => Sys2Proof.Machine.execWaybillStart ring slot s
  | .seqRestart h ps => Sys2Proof.Machine.execSeqRestart h ps s
  | .seqCheckpoint h ps => Sys2Proof.Machine.execSeqCheckpoint h ps s
  | .seqSafeclear h ps => Sys2Proof.Machine.execSeqSafeclear h ps s
  | .seqCfgsave h ps => Sys2Proof.Machine.execSeqCfgsave h ps s
  | .seqStartreport h ps => Sys2Proof.Machine.execSeqStartreport h ps s
  | .psuRead h ps => Sys2Proof.Machine.execPsuRead h ps s
  | .rmonRefcfg h ps => Sys2Proof.Machine.execRmonRefcfg h ps s
  | .rmonStatus h ps => Sys2Proof.Machine.execRmonStatus h ps s
  | .rmonRequal h ps => Sys2Proof.Machine.execRmonRequal h ps s
  | .rmonHistory h ps => Sys2Proof.Machine.execRmonHistory h ps s
  | .dpllLoopcfg h ps => Sys2Proof.Machine.execDpllLoopcfg h ps s
  | .dpllOpen h ps => Sys2Proof.Machine.execDpllOpen h ps s
  | .dpllClose h ps => Sys2Proof.Machine.execDpllClose h ps s
  | .dpllSetfreq h ps => Sys2Proof.Machine.execDpllSetfreq h ps s
  | .dpllLoopreport h ps => Sys2Proof.Machine.execDpllLoopreport h ps s
  | .dpllPhlog h ps => Sys2Proof.Machine.execDpllPhlog h ps s
  | .dpllSelect h ps => Sys2Proof.Machine.execDpllSelect h ps s
  | .dpllResolve h ps => Sys2Proof.Machine.execDpllResolve h ps s
  | .dpllSelreport h ps => Sys2Proof.Machine.execDpllSelreport h ps s
  | .holdCfg h ps => Sys2Proof.Machine.execHoldCfg h ps s
  | .holdMembercfg h ps => Sys2Proof.Machine.execHoldMembercfg h ps s
  | .holdAosccfg h ps => Sys2Proof.Machine.execHoldAosccfg h ps s
  | .holdModelreport h ps => Sys2Proof.Machine.execHoldModelreport h ps s
  | .holdRetrain h ps => Sys2Proof.Machine.execHoldRetrain h ps s
  | .apllCfg h ps => Sys2Proof.Machine.execApllCfg h ps s
  | .apllRelock h ps => Sys2Proof.Machine.execApllRelock h ps s
  | .apllSpurscan h ps => Sys2Proof.Machine.execApllSpurscan h ps s
  | .apllReport h ps => Sys2Proof.Machine.execApllReport h ps s
  | .tbaseSettime h ps => Sys2Proof.Machine.execTbaseSettime h ps s
  | .tbaseAuthstep h ps => Sys2Proof.Machine.execTbaseAuthstep h ps s
  | .tbaseLeapcfg h ps => Sys2Proof.Machine.execTbaseLeapcfg h ps s
  | .tbaseEvtsched h ps => Sys2Proof.Machine.execTbaseEvtsched h ps s
  | .tbaseEvtcancel h ps => Sys2Proof.Machine.execTbaseEvtcancel h ps s
  | .tbaseCapread h ps => Sys2Proof.Machine.execTbaseCapread h ps s
  | .tbaseReport h ps => Sys2Proof.Machine.execTbaseReport h ps s
  | .ticCfg h ps => Sys2Proof.Machine.execTicCfg h ps s
  | .ticChcfg h ps => Sys2Proof.Machine.execTicChcfg h ps s
  | .ticMeascfg h ps => Sys2Proof.Machine.execTicMeascfg h ps s
  | .ticStatrun h ps => Sys2Proof.Machine.execTicStatrun h ps s
  | .ticStatstop h ps => Sys2Proof.Machine.execTicStatstop h ps s
  | .ticStampread h ps => Sys2Proof.Machine.execTicStampread h ps s
  | .ticCalrun h ps => Sys2Proof.Machine.execTicCalrun h ps s
  | .ticCalreport h ps => Sys2Proof.Machine.execTicCalreport h ps s
  | .ticXtalreport h ps => Sys2Proof.Machine.execTicXtalreport h ps s
  | .gnssCfg h ps => Sys2Proof.Machine.execGnssCfg h ps s
  | .gnssAcquire h ps => Sys2Proof.Machine.execGnssAcquire h ps s
  | .gnssAcqstop h ps => Sys2Proof.Machine.execGnssAcqstop h ps s
  | .gnssPoscfg h ps => Sys2Proof.Machine.execGnssPoscfg h ps s
  | .gnssObsread h ps => Sys2Proof.Machine.execGnssObsread h ps s
  | .gnssNavread h ps => Sys2Proof.Machine.execGnssNavread h ps s
  | .gnssNfcal h ps => Sys2Proof.Machine.execGnssNfcal h ps s
  | .gnssNotchcfg h ps => Sys2Proof.Machine.execGnssNotchcfg h ps s
  | .gnssReport h ps => Sys2Proof.Machine.execGnssReport h ps s
  | .laneModeset h ps => Sys2Proof.Machine.execLaneModeset h ps s
  | .laneLanecfg h ps => Sys2Proof.Machine.execLaneLanecfg h ps s
  | .laneRestart h ps => Sys2Proof.Machine.execLaneRestart h ps s
  | .laneReport h ps => Sys2Proof.Machine.execLaneReport h ps s
  | .mtsCfg h ps => Sys2Proof.Machine.execMtsCfg h ps s
  | .mtsLanecfg h ps => Sys2Proof.Machine.execMtsLanecfg h ps s
  | .mtsMeterreport h ps => Sys2Proof.Machine.execMtsMeterreport h ps s
  | .pktCfg h ps => Sys2Proof.Machine.execPktCfg h ps s
  | .pktLimitcfg h ps => Sys2Proof.Machine.execPktLimitcfg h ps s
  | .pktAddrcfg h ps => Sys2Proof.Machine.execPktAddrcfg h ps s
  | .pktPortcfg h ps => Sys2Proof.Machine.execPktPortcfg h ps s
  | .pktPtpcfg h ps => Sys2Proof.Machine.execPktPtpcfg h ps s
  | .pktSlavecfg h ps => Sys2Proof.Machine.execPktSlavecfg h ps s
  | .pktRefidcfg h ps => Sys2Proof.Machine.execPktRefidcfg h ps s
  | .pktCountreport h ps => Sys2Proof.Machine.execPktCountreport h ps s
  | .pktStampreport h ps => Sys2Proof.Machine.execPktStampreport h ps s
  | .pktSlavereport h ps => Sys2Proof.Machine.execPktSlavereport h ps s
  | .pktGrantclear h ps => Sys2Proof.Machine.execPktGrantclear h ps s
  | .pktSvcreport h ps => Sys2Proof.Machine.execPktSvcreport h ps s
  | .authCfg h ps => Sys2Proof.Machine.execAuthCfg h ps s
  | .authKeyload h ps => Sys2Proof.Machine.execAuthKeyload h ps s
  | .authKeystate h ps => Sys2Proof.Machine.execAuthKeystate h ps s
  | .authZeroise h ps => Sys2Proof.Machine.execAuthZeroise h ps s
  | .authRotate h ps => Sys2Proof.Machine.execAuthRotate h ps s
  | .authRotstop h ps => Sys2Proof.Machine.execAuthRotstop h ps s
  | .authCookiemint h ps => Sys2Proof.Machine.execAuthCookiemint h ps s
  | .authKeyreport h ps => Sys2Proof.Machine.execAuthKeyreport h ps s
  | .authCountreport h ps => Sys2Proof.Machine.execAuthCountreport h ps s
  | .authSelftest h ps => Sys2Proof.Machine.execAuthSelftest h ps s
  | .authMintstage h ps => Sys2Proof.Machine.execAuthMintstage h ps s
  | .ctabCfg h ps => Sys2Proof.Machine.execCtabCfg h ps s
  | .ctabLoad h ps => Sys2Proof.Machine.execCtabLoad h ps s
  | .ctabSweep h ps => Sys2Proof.Machine.execCtabSweep h ps s
  | .ctabDump h ps => Sys2Proof.Machine.execCtabDump h ps s
  | .ctabEntryread h ps => Sys2Proof.Machine.execCtabEntryread h ps s
  | .ctabLookup h ps => Sys2Proof.Machine.execCtabLookup h ps s
  | .ctabMemreport h ps => Sys2Proof.Machine.execCtabMemreport h ps s
  | .ebndCfg h ps => Sys2Proof.Machine.execEbndCfg h ps s
  | .ebndRefunccfg h ps => Sys2Proof.Machine.execEbndRefunccfg h ps s
  | .ebndReport h ps => Sys2Proof.Machine.execEbndReport h ps s
  | .ebndPortreport h ps => Sys2Proof.Machine.execEbndPortreport h ps s
  | .ebndHistory h ps => Sys2Proof.Machine.execEbndHistory h ps s
  | .mgmtEcho h ps => Sys2Proof.Machine.execMgmtEcho h ps s
  | .mgmtList h ps => Sys2Proof.Machine.execMgmtList h ps s
  | .mgmtCancel h ps => Sys2Proof.Machine.execMgmtCancel h ps s
  | .mgmtSuspend h ps => Sys2Proof.Machine.execMgmtSuspend h ps s
  | .mgmtResume h ps => Sys2Proof.Machine.execMgmtResume h ps s
  | .mgmtAuditreport h ps => Sys2Proof.Machine.execMgmtAuditreport h ps s
  | .mgmtVersion h ps => Sys2Proof.Machine.execMgmtVersion h ps s
  | .mgmtCountreport h ps => Sys2Proof.Machine.execMgmtCountreport h ps s
  | .hifCfg h ps => Sys2Proof.Machine.execHifCfg h ps s
  | .hifReport h ps => Sys2Proof.Machine.execHifReport h ps s
  | .intcSrccfg h ps => Sys2Proof.Machine.execIntcSrccfg h ps s
  | .intcReport h ps => Sys2Proof.Machine.execIntcReport h ps s
  | .fcolCfg h ps => Sys2Proof.Machine.execFcolCfg h ps s
  | .fcolFirstread h ps => Sys2Proof.Machine.execFcolFirstread h ps s
  | .fcolAck h ps => Sys2Proof.Machine.execFcolAck h ps s
  | .fcolLogread h ps => Sys2Proof.Machine.execFcolLogread h ps s
  | .fcolClear h ps => Sys2Proof.Machine.execFcolClear h ps s
  | .fcolCountreport h ps => Sys2Proof.Machine.execFcolCountreport h ps s
  | .fcolLedgerdump h ps => Sys2Proof.Machine.execFcolLedgerdump h ps s
  | .fcolLedgerreport h ps => Sys2Proof.Machine.execFcolLedgerreport h ps s
  | .rdnCfg h ps => Sys2Proof.Machine.execRdnCfg h ps s
  | .rdnRelease h ps => Sys2Proof.Machine.execRdnRelease h ps s
  | .rdnReport h ps => Sys2Proof.Machine.execRdnReport h ps s
  | .seqSafeclrWrite v => Sys2Proof.Machine.execSeqSafeclrWrite v s
  | .dpllSwcmdApply => Sys2Proof.Machine.execDpllSwcmdApply s
  | .dpllModeOpenWrite v => Sys2Proof.Machine.execDpllModeOpenWrite v s
  | .dpllModeCloseWrite v => Sys2Proof.Machine.execDpllModeCloseWrite v s
  | .dpllSelmanWrite v => Sys2Proof.Machine.execDpllSelmanWrite v s
  | .lswLatchRead req a => Sys2Proof.Machine.execLswLatchRead req a s
  | .tbaseTimeRead req => Sys2Proof.Machine.execTbaseTimeRead req s
  | .rcFieldRead req a => Sys2Proof.Machine.execRcFieldRead req a s
  | .tbaseCapPop req n => Sys2Proof.Machine.execTbaseCapPop req n s
  | .ticChPop req n => Sys2Proof.Machine.execTicChPop req n s
  | .intcClaim req mgmt => Sys2Proof.Machine.execIntcClaim req mgmt s
  | .intcComplete req mgmt w => Sys2Proof.Machine.execIntcComplete req mgmt w s
  | .fcolDomclrWrite v => Sys2Proof.Machine.execFcolDomclrWrite v s
  | .fcolCritLatchClear v => Sys2Proof.Machine.execFcolCritLatchClear v s
  | .hifRingDoorbell req r w => Sys2Proof.Machine.execHifRingDoorbell req r w s
  | .hifRingEnable req r w => Sys2Proof.Machine.execHifRingEnable req r w s
  | .hifQueueProdWrite req q w frames => Sys2Proof.Machine.execHifQueueProdWrite req q w frames s
  | .hifDmaStart req c => Sys2Proof.Machine.execHifDmaStart req c s
  | .hifDmaAbort req c => Sys2Proof.Machine.execHifDmaAbort req c s
  | .msixUnmask => Sys2Proof.Machine.execMsixUnmask s
  | .registerWrite req a w part => Sys2Proof.Machine.execRegisterWrite req a w part s
  | .pcieLinkTrain speed width busMaster msix => Sys2Proof.Machine.execPcieLinkTrain speed width busMaster msix s
  | .pcieReset flr => Sys2Proof.Machine.execPcieReset flr s
  | .pcieLinkLoss aer => Sys2Proof.Machine.execPcieLinkLoss aer s
  | .spiFrame ws late => Sys2Proof.Machine.execSpiFrame ws late s
  | .spiFrameCut => Sys2Proof.Machine.execSpiFrameCut s
  | .consoleLine line => Sys2Proof.Machine.execConsoleLine line s
  | .dmaComplete c data bad => Sys2Proof.Machine.execDmaComplete c data bad s
  | .intcSourceEvent src => Sys2Proof.Machine.execIntcSourceEvent src s
  | .faultMessage k => Sys2Proof.Machine.execFaultMessage k s
  | .quietExpiry d => Sys2Proof.Machine.execQuietExpiry d s
  | .critPulseExpiry => Sys2Proof.Machine.execCritPulseExpiry s
  | .masterStall m case wbs => Sys2Proof.Machine.execMasterStall m case wbs s
  | .fenceForcedRelease isl => Sys2Proof.Machine.execFenceForcedRelease isl s
  | .ledgerWrite good => Sys2Proof.Machine.execLedgerWrite good s
  | .ledgerSummary => Sys2Proof.Machine.execLedgerSummary s
  | .claimFrameSend => Sys2Proof.Machine.execClaimFrameSend s
  | .claimFrameReceive frame => Sys2Proof.Machine.execClaimFrameReceive frame s
  | .claimSilence => Sys2Proof.Machine.execClaimSilence s
  | .arbGntDecode g => Sys2Proof.Machine.execArbGntDecode g s
  | .heartbeatSend a b => Sys2Proof.Machine.execHeartbeatSend a b s
  | .heartbeatReceive k hb m => Sys2Proof.Machine.execHeartbeatReceive k hb m s
  | .heartbeatTimeout => Sys2Proof.Machine.execHeartbeatTimeout s
  | .grantMirrorReceive k type record => Sys2Proof.Machine.execGrantMirrorReceive k type record s
  | .arbReqPulseEnd => Sys2Proof.Machine.execArbReqPulseEnd s
  | .handoverTime => Sys2Proof.Machine.execHandoverTime s
  | .handoverWithdraw ended => Sys2Proof.Machine.execHandoverWithdraw ended s
  | .networkAnnounce => Sys2Proof.Machine.execNetworkAnnounce s
  | .autoReleaseBound => Sys2Proof.Machine.execAutoReleaseBound s
  | .arbiterRequestChange u ev => Sys2Proof.Machine.execArbiterRequestChange u ev s
  | .arbiterQualify q0 q1 => Sys2Proof.Machine.execArbiterQualify q0 q1 s
  | .arbiterHandoverTimeout => Sys2Proof.Machine.execArbiterHandoverTimeout s
  | .rstNRelease => Sys2Proof.Machine.execRstNRelease s
  | .linkFaultOrderedSets n loc remote => Sys2Proof.Machine.execLinkFaultOrderedSets n loc remote s
  | .signalBLoss c => Sys2Proof.Machine.execSignalBLoss c s
  | .memoryDieTemperature hot => Sys2Proof.Machine.execMemoryDieTemperature hot s
  | .nfcalComplete a b => Sys2Proof.Machine.execNfcalComplete a b s
  | .sweepEntryVisit => Sys2Proof.Machine.execSweepEntryVisit s
  | .dumpItemCopy => Sys2Proof.Machine.execDumpItemCopy s
  | .ledgerDumpRecord => Sys2Proof.Machine.execLedgerDumpRecord s
  | .modelReportStep ring slot => Sys2Proof.Machine.execModelReportStep ring slot s

end Sys2Proof.Machine
end

