-- ==== Sys2Proof/Safety.lean ====
section
/-! DEFINITION. The notions that claims are stated in: that a command completes and how, which commands stand for waybills, what one needs to run at once, what its manifest
then shows, and the forms every state of the machine keeps. -/
namespace Sys2Proof

/-! ### Waybills as such (Table 14-16) -/

/-- The operation word, the head and the parameters of a command that stands for a waybill (Table 14-16). -/
def Instr.waybill : Instr → Option (Nat × WbHead × List Word)
  | .seqRestart h ps => some (0x0000, h, ps)
  | .seqCheckpoint h ps => some (0x0040, h, ps)
  | .seqSafeclear h ps => some (0x0080, h, ps)
  | .seqCfgsave h ps => some (0x00C0, h, ps)
  | .seqStartreport h ps => some (0x0100, h, ps)
  | .psuRead h ps => some (0x0800, h, ps)
  | .rmonRefcfg h ps => some (0x1000, h, ps)
  | .rmonStatus h ps => some (0x1040, h, ps)
  | .rmonRequal h ps => some (0x1080, h, ps)
  | .rmonHistory h ps => some (0x10C0, h, ps)
  | .dpllLoopcfg h ps => some (0x1800, h, ps)
  | .dpllOpen h ps => some (0x1840, h, ps)
  | .dpllClose h ps => some (0x1880, h, ps)
  | .dpllSetfreq h ps => some (0x18C0, h, ps)
  | .dpllLoopreport h ps => some (0x1900, h, ps)
  | .dpllPhlog h ps => some (0x1940, h, ps)
  | .dpllSelect h ps => some (0x1A00, h, ps)
  | .dpllResolve h ps => some (0x1A40, h, ps)
  | .dpllSelreport h ps => some (0x1A80, h, ps)
  | .holdCfg h ps => some (0x2000, h, ps)
  | .holdMembercfg h ps => some (0x2040, h, ps)
  | .holdAosccfg h ps => some (0x2080, h, ps)
  | .holdModelreport h ps => some (0x20C0, h, ps)
  | .holdRetrain h ps => some (0x2100, h, ps)
  | .apllCfg h ps => some (0x2800, h, ps)
  | .apllRelock h ps => some (0x2840, h, ps)
  | .apllSpurscan h ps => some (0x2880, h, ps)
  | .apllReport h ps => some (0x28C0, h, ps)
  | .tbaseSettime h ps => some (0x3000, h, ps)
  | .tbaseAuthstep h ps => some (0x3040, h, ps)
  | .tbaseLeapcfg h ps => some (0x3080, h, ps)
  | .tbaseEvtsched h ps => some (0x30C0, h, ps)
  | .tbaseEvtcancel h ps => some (0x3100, h, ps)
  | .tbaseCapread h ps => some (0x3140, h, ps)
  | .tbaseReport h ps => some (0x3180, h, ps)
  | .ticCfg h ps => some (0x3800, h, ps)
  | .ticChcfg h ps => some (0x3840, h, ps)
  | .ticMeascfg h ps => some (0x3880, h, ps)
  | .ticStatrun h ps => some (0x38C0, h, ps)
  | .ticStatstop h ps => some (0x3900, h, ps)
  | .ticStampread h ps => some (0x3940, h, ps)
  | .ticCalrun h ps => some (0x3980, h, ps)
  | .ticCalreport h ps => some (0x39C0, h, ps)
  | .ticXtalreport h ps => some (0x3A00, h, ps)
  | .gnssCfg h ps => some (0x4000, h, ps)
  | .gnssAcquire h ps => some (0x4040, h, ps)
  | .gnssAcqstop h ps => some (0x4080, h, ps)
  | .gnssPoscfg h ps => some (0x40C0, h, ps)
  | .gnssObsread h ps => some (0x4100, h, ps)
  | .gnssNavread h ps => some (0x4140, h, ps)
  | .gnssNfcal h ps => some (0x4180, h, ps)
  | .gnssNotchcfg h ps => some (0x41C0, h, ps)
  | .gnssReport h ps => some (0x4200, h, ps)
  | .laneModeset h ps => some (0x4800, h, ps)
  | .laneLanecfg h ps => some (0x4840, h, ps)
  | .laneRestart h ps => some (0x4880, h, ps)
  | .laneReport h ps => some (0x48C0, h, ps)
  | .mtsCfg h ps => some (0x5000, h, ps)
  | .mtsLanecfg h ps => some (0x5040, h, ps)
  | .mtsMeterreport h ps => some (0x5080, h, ps)
  | .pktCfg h ps => some (0x5800, h, ps)
  | .pktLimitcfg h ps => some (0x5840, h, ps)
  | .pktAddrcfg h ps => some (0x5880, h, ps)
  | .pktPortcfg h ps => some (0x58C0, h, ps)
  | .pktPtpcfg h ps => some (0x5900, h, ps)
  | .pktSlavecfg h ps => some (0x5940, h, ps)
  | .pktRefidcfg h ps => some (0x5980, h, ps)
  | .pktCountreport h ps => some (0x59C0, h, ps)
  | .pktStampreport h ps => some (0x5A00, h, ps)
  | .pktSlavereport h ps => some (0x5A40, h, ps)
  | .pktGrantclear h ps => some (0x5A80, h, ps)
  | .pktSvcreport h ps => some (0x5AC0, h, ps)
  | .authCfg h ps => some (0x6000, h, ps)
  | .authKeyload h ps => some (0x6040, h, ps)
  | .authKeystate h ps => some (0x6080, h, ps)
  | .authZeroise h ps => some (0x60C0, h, ps)
  | .authRotate h ps => some (0x6100, h, ps)
  | .authRotstop h ps => some (0x6140, h, ps)
  | .authCookiemint h ps => some (0x6180, h, ps)
  | .authKeyreport h ps => some (0x61C0, h, ps)
  | .authCountreport h ps => some (0x6200, h, ps)
  | .authSelftest h ps => some (0x6240, h, ps)
  | .authMintstage h ps => some (0x6280, h, ps)
  | .ctabCfg h ps => some (0x6800, h, ps)
  | .ctabLoad h ps => some (0x6840, h, ps)
  | .ctabSweep h ps => some (0x6880, h, ps)
  | .ctabDump h ps => some (0x68C0, h, ps)
  | .ctabEntryread h ps => some (0x6900, h, ps)
  | .ctabLookup h ps => some (0x6940, h, ps)
  | .ctabMemreport h ps => some (0x6980, h, ps)
  | .ebndCfg h ps => some (0x7000, h, ps)
  | .ebndRefunccfg h ps => some (0x7040, h, ps)
  | .ebndReport h ps => some (0x7080, h, ps)
  | .ebndPortreport h ps => some (0x70C0, h, ps)
  | .ebndHistory h ps => some (0x7100, h, ps)
  | .mgmtEcho h ps => some (0x7800, h, ps)
  | .mgmtList h ps => some (0x7840, h, ps)
  | .mgmtCancel h ps => some (0x7880, h, ps)
  | .mgmtSuspend h ps => some (0x78C0, h, ps)
  | .mgmtResume h ps => some (0x7900, h, ps)
  | .mgmtAuditreport h ps => some (0x7940, h, ps)
  | .mgmtVersion h ps => some (0x7980, h, ps)
  | .mgmtCountreport h ps => some (0x79C0, h, ps)
  | .hifCfg h ps => some (0x8000, h, ps)
  | .hifReport h ps => some (0x8040, h, ps)
  | .intcSrccfg h ps => some (0x8800, h, ps)
  | .intcReport h ps => some (0x8840, h, ps)
  | .fcolCfg h ps => some (0x9000, h, ps)
  | .fcolFirstread h ps => some (0x9040, h, ps)
  | .fcolAck h ps => some (0x9080, h, ps)
  | .fcolLogread h ps => some (0x90C0, h, ps)
  | .fcolClear h ps => some (0x9100, h, ps)
  | .fcolCountreport h ps => some (0x9140, h, ps)
  | .fcolLedgerdump h ps => some (0x9180, h, ps)
  | .fcolLedgerreport h ps => some (0x91C0, h, ps)
  | .rdnCfg h ps => some (0x9800, h, ps)
  | .rdnRelease h ps => some (0x9840, h, ps)
  | .rdnReport h ps => some (0x9880, h, ps)
  | _ => none

/-- The operations of Table 14-16 marked L or L+S. -/
def Instr.isLong : Instr → Bool
  | .holdModelreport .. | .ticStatrun .. | .ticCalrun .. | .gnssAcquire .. | .authRotate .. | .ctabLoad .. | .ctabSweep .. | .ctabDump .. | .fcolLedgerdump .. => true
  | _ => false

open Machine in
/-- The generation register of the unit that a waybill changes, and the generation it carries (R46); none for a waybill that carries none, for a
unit that does not exist, and for a parameter list too short to hold them. -/
def Instr.unitGen : Instr → Option (Field × Word)
  | .rmonRefcfg _ (n :: g :: _) => if n.toNat < 12 then some ((F.RMON_REF_GEN n.toNat), g) else none
  | .rmonRequal _ (n :: g :: _) => if n.toNat < 12 then some ((F.RMON_REF_GEN n.toNat), g) else none
  | .dpllLoopcfg _ (g :: _) => some (F.DPLL_GEN, g)
  | .dpllSetfreq _ (g :: _) => some (F.DPLL_GEN, g)
  | .dpllSelect _ (g :: _) => some (F.DPLL_SELGEN, g)
  | .dpllResolve _ (g :: _) => some (F.DPLL_SELGEN, g)
  | .holdCfg _ (g :: _) => some (F.HOLD_GEN, g)
  | .holdMembercfg _ (n :: g :: _) => if 2 ≤ n.toNat ∧ n.toNat < 8 then some ((F.HOLD_MEMBER_GEN n.toNat), g) else none
  | .holdAosccfg _ (g :: _) => some (F.HOLD_AOSC_GEN, g)
  | .holdRetrain _ (g :: _) => some (F.HOLD_GEN, g)
  | .apllCfg _ (n :: g :: _) => if n.toNat < 3 then some ((F.APLL_PLL_GEN n.toNat), g) else none
  | .apllRelock _ (n :: g :: _) => if n.toNat < 3 then some ((F.APLL_PLL_GEN n.toNat), g) else none
  | .tbaseSettime _ (g :: _) => some (F.TBASE_GEN, g)
  | .tbaseAuthstep _ (g :: _) => some (F.DPLL_GEN, g)
  | .tbaseLeapcfg _ (g :: _) => some (F.TBASE_GEN, g)
  | .tbaseEvtsched _ (_ :: g :: _) => some (F.TBASE_GEN, g)
  | .tbaseEvtcancel _ (_ :: g :: _) => some (F.TBASE_GEN, g)
  | .ticCfg _ (g :: _) => some (F.TIC_GEN, g)
  | .ticChcfg _ (n :: g :: _) => if n.toNat < 16 then some (F.TIC_GEN, g) else none
  | .ticMeascfg _ (n :: g :: _) => if n.toNat < 4 then some (F.TIC_GEN, g) else none
  | .gnssCfg _ (g :: _) => some (F.GNSS_GEN, g)
  | .gnssPoscfg _ (g :: _) => some (F.GNSS_GEN, g)
  | .gnssNfcal _ (g :: _) => some (F.GNSS_GEN, g)
  | .gnssNotchcfg _ (b :: n :: g :: _) => if b.toNat < 2 ∧ n.toNat < 4 then some (F.GNSS_GEN, g) else none
  | .laneModeset _ (g :: _) => some (F.LANE_GEN, g)
  | .laneLanecfg _ (n :: g :: _) => if n.toNat < 10 then some (F.LANE_GEN, g) else none
  | .laneRestart _ (g :: _) => some (F.LANE_GEN, g)
  | .mtsCfg _ (g :: _) => some (F.MTS_GEN, g)
  | .mtsLanecfg _ (n :: g :: _) => if n.toNat < 10 then some (F.MTS_GEN, g) else none
  | .pktCfg _ (g :: _) => some (F.PKT_GEN, g)
  | .pktLimitcfg _ (g :: _) => some (F.PKT_GEN, g)
  | .pktAddrcfg _ (n :: g :: _) => if n.toNat < 8 then some (F.PKT_GEN, g) else none
  | .pktPortcfg _ (n :: g :: _) => if n.toNat < 8 then some (F.PKT_GEN, g) else none
  | .pktPtpcfg _ (n :: g :: _) => if n.toNat < 2 then some (F.PKT_GEN, g) else none
  | .pktSlavecfg _ (n :: g :: _) => if n.toNat < 2 then some (F.PKT_GEN, g) else none
  | .pktRefidcfg _ (g :: n :: _) => if n.toNat < 13 then some (F.PKT_GEN, g) else none
  | .pktGrantclear _ (g :: k :: _) => if k.toNat < 3 then some (F.PKT_GEN, g) else none
  | .authCfg _ (g :: _) => some (F.AUTH_GEN, g)
  | .authKeyload _ (_ :: g :: _) => some (F.AUTH_GEN, g)
  | .authKeystate _ (_ :: g :: _) => some (F.AUTH_GEN, g)
  | .authZeroise _ (g :: _) => some (F.AUTH_GEN, g)
  | .authRotate _ (g :: _) => some (F.AUTH_GEN, g)
  | .ctabCfg _ (g :: _) => some (F.CTAB_GEN, g)
  | .ebndCfg _ (g :: _) => some (F.EBND_GEN, g)
  | .ebndRefunccfg _ (n :: g :: _) => if n.toNat < 12 then some (F.EBND_GEN, g) else none
  | .hifCfg _ (g :: _) => some (F.HIF_GEN, g)
  | .intcSrccfg _ (g :: a :: n :: _) =>
    if 1 ≤ a.toNat ∧ a.toNat < 256 ∧ n.toNat ≤ 57 ∧ a.toNat + n.toNat ≤ 256 then some (F.INTC_GEN, g) else none
  | .fcolCfg _ (g :: _ :: _ :: _ :: _ :: c :: n :: _) => if c.toNat < 320 ∧ n.toNat ≤ 50 ∧ c.toNat + n.toNat ≤ 320 then some (F.FCOL_GEN, g) else none
  | .rdnCfg _ (g :: m :: _) => if m.toNat % 4 ≠ 3 then some (F.RDN_GEN, g) else none
  | .rdnRelease _ (g :: _) => some (F.RDN_GEN, g)
  | _ => none

/-- The waybills whose change waits for the next convoy close (R292). -/
def Instr.atClose : Instr → Bool
  | .pktCfg .. | .pktLimitcfg .. | .pktAddrcfg .. | .pktPortcfg .. | .pktPtpcfg .. | .pktSlavecfg .. | .pktRefidcfg .. | .pktGrantclear .. => true
  | _ => false

/-- The waybills whose change waits for the next tick (R358). -/
def Instr.atTick : Instr → Bool
  | .ebndCfg .. | .ebndRefunccfg .. => true
  | _ => false

/-! ### Which commands may change which part of the state -/

/-- The commands that may change the in-package memory. -/
def Instr.mayMem : Instr → Bool
  | .vinResetCrossing | .rstNResetTimeout | .checkpointComplete .. | .startStepComplete .. | .startStepTimeout | .deferredReset | .lookupDecide ..
  | .ctabCommit .. | .leaseRelease .. | .leaseExpiry .. | .leaseReread .. | .eccUncorrectable .. | .indexRebuildDone | .loadRecordApply ..
  | .hifDmaAbort .. | .registerWrite .. | .pcieReset .. | .spiFrame .. | .consoleLine .. | .dmaComplete .. | .masterStall .. | .sweepEntryVisit
  | .dumpItemCopy | .ledgerDumpRecord => true
  | _ => false

/-- The commands that may change the supervisor. -/
def Instr.mayPsu : Instr → Bool
  | .vinWarningCrossing | .vinRecovery | .vinResetCrossing | .vinRiseStart | .vinStable | .vbatLow | .vbatValid | .rstNResetTimeout | .railFault
  | .powerStageOvertemp | .railExcursionEnd .. | .checkpointComplete .. | .startStepComplete .. | .startStepTimeout | .startRetry | .deferredReset
  | .aonRingCheck .. | .rstNRelease => true
  | _ => false

/-- The commands that may change the always-on island. -/
def Instr.mayAon : Instr → Bool
  | .vinResetCrossing | .vbatLow | .rstNResetTimeout | .checkpointComplete .. | .startStepComplete .. | .startStepTimeout | .deferredReset
  | .aonRingCheck .. => true
  | _ => false

/-- The commands that may change the sequencer. -/
def Instr.maySeq : Instr → Bool
  | .vinWarningCrossing | .vinRecovery | .vinResetCrossing | .vinStable | .rstNAssert | .rstNResetTimeout | .checkpointComplete ..
  | .startStepComplete .. | .startStepTimeout | .startRetry | .deferredReset | .dpllTick .. | .timeLoad | .seqRestart .. | .seqCfgsave ..
  | .mgmtAudit | .masterStall .. | .seqCheckpoint .. | .seqSafeclear .. | .seqSafeclrWrite .. | .registerWrite .. | .spiFrame .. | .consoleLine ..
  | .rstNRelease | .waybillStart .. => true
  | _ => false

/-- The commands that may change the reference monitors. -/
def Instr.mayRefs : Instr → Bool
  | .vinResetCrossing | .rstNResetTimeout | .checkpointComplete .. | .startStepComplete .. | .startStepTimeout | .deferredReset | .refEdge ..
  | .refActivityLoss .. | .dpllTick .. | .timeLoad | .qualTimerExpiry .. | .rmonSlopeFit | .voteExpiry | .holdSecond .. | .authstepApply
  | .gnssEpoch .. | .slaveSyncMeasurement .. | .rmonRefcfg .. | .rmonRequal .. | .holdMembercfg .. | .registerWrite .. | .spiFrame ..
  | .consoleLine .. | .heartbeatReceive .. | .waybillStart .. => true
  | _ => false

/-- The commands that may change the DPLL. -/
def Instr.mayDpll : Instr → Bool
  | .vinResetCrossing | .rstNResetTimeout | .checkpointComplete .. | .startStepComplete .. | .startStepTimeout | .deferredReset | .frameReceive ..
  | .ctabDecisionReturn .. | .authVerdictReturn .. | .masterStall .. | .dpllTick .. | .voteExpiry | .slewComplete | .apllLockWindow ..
  | .apllRefLoss .. | .apllReturnExpiry .. | .aoscReturn | .aoscSteerComp | .authstepApply | .xtalTrim | .dpllOpen .. | .dpllClose ..
  | .dpllSetfreq .. | .dpllSelect .. | .dpllResolve .. | .apllCfg .. | .apllRelock .. | .dpllModeOpenWrite .. | .dpllModeCloseWrite ..
  | .dpllSelmanWrite .. | .registerWrite .. | .spiFrame .. | .consoleLine .. | .waybillStart .. => true
  | _ => false

/-- The commands that may change the synthesis PLLs. -/
def Instr.mayApll : Instr → Bool
  | .vinResetCrossing | .rstNResetTimeout | .checkpointComplete .. | .startStepComplete .. | .startStepTimeout | .deferredReset | .dpllTick ..
  | .holdSecond .. | .apllLockWindow .. | .apllRefLoss .. | .apllReturnExpiry .. | .aoscReturn | .apllCfg .. | .apllRelock .. | .registerWrite ..
  | .spiFrame .. | .consoleLine .. | .waybillStart .. => true
  | _ => false

/-- The commands that may change TBASE. -/
def Instr.mayTb : Instr → Bool
  | .vinResetCrossing | .rstNResetTimeout | .checkpointComplete .. | .startStepComplete .. | .startStepTimeout | .deferredReset | .beaconSend
  | .beaconReceive .. | .beaconLoss .. | .ppsEdge | .masterStall .. | .stepBeaconApply .. | .dpllTick .. | .apllOutSquelchClear | .tcoreTick
  | .clkoutAlignCheck .. | .evtArm .. | .evtEdge .. | .capEdge .. | .timeLoad | .settimeEdgeTimeout | .authstepApply | .gnssEpoch ..
  | .tbaseSettime .. | .tbaseAuthstep .. | .tbaseEvtsched .. | .tbaseEvtcancel .. | .tbaseCapread .. | .lswLatchRead .. | .rcFieldRead ..
  | .tbaseCapPop .. | .registerWrite .. | .spiFrame .. | .consoleLine .. | .waybillStart .. => true
  | _ => false

/-- The commands that may change EBND's own state. -/
def Instr.mayEbnd : Instr → Bool
  | .vinResetCrossing | .rstNResetTimeout | .checkpointComplete .. | .startStepComplete .. | .startStepTimeout | .deferredReset | .dpllTick ..
  | .ebndAsyncRepublish | .ebndCfg .. | .ebndRefunccfg .. | .masterStall .. | .waybillStart .. => true
  | _ => false

/-- The commands that may change the GNSS baseband. -/
def Instr.mayGnss : Instr → Bool
  | .vinResetCrossing | .rstNResetTimeout | .checkpointComplete .. | .startStepComplete .. | .startStepTimeout | .deferredReset | .fcolCfg ..
  | .fcolClear .. | .fcolDomclrWrite .. | .quietExpiry .. | .gnssEpoch .. | .gnssPortClockLoss .. | .gnssPortClockReturn .. | .prnSearchDone ..
  | .gnssChannelLock .. | .gnssNavSync .. | .gnssPullinTimeout .. | .gnssLossOfLock .. | .gnssReacqTimeout .. | .gnssSpectrum ..
  | .navUnitDecoded .. | .eccUncorrectable .. | .gnssCfg .. | .gnssAcquire .. | .gnssAcqstop .. | .gnssNfcal .. | .gnssNotchcfg ..
  | .mgmtCancel .. | .registerWrite .. | .spiFrame .. | .consoleLine .. | .masterStall .. | .nfcalComplete .. | .waybillStart .. => true
  | _ => false

/-- The commands that may change the medium stamps. -/
def Instr.mayMts : Instr → Bool
  | .vinResetCrossing | .rstNResetTimeout | .checkpointComplete .. | .startStepComplete .. | .startStepTimeout | .deferredReset | .dpllTick ..
  | .timeLoad | .authstepApply | .meterLock .. | .apllLockWindow .. | .apllRefLoss .. | .apllReturnExpiry .. | .aoscReturn | .laneLoss ..
  | .laneDetectorRestore .. | .rateMatchEvent .. | .rateMatchUnscheduled .. | .apllCfg .. | .apllRelock .. | .laneModeset .. | .laneLanecfg ..
  | .laneRestart .. | .registerWrite .. | .spiFrame .. | .consoleLine .. | .linkFaultOrderedSets .. | .waybillStart .. => true
  | _ => false

/-- The commands that may change RDN. -/
def Instr.mayRdn : Instr → Bool
  | .vinResetCrossing | .rstNResetTimeout | .checkpointComplete .. | .startStepComplete .. | .startStepTimeout | .deferredReset
  | .pcsDelimiterReport .. | .ptpScheduledMessage .. | .rdnRelease .. | .faultMessage .. | .claimFrameSend | .claimFrameReceive ..
  | .arbGntDecode .. | .heartbeatSend .. | .heartbeatReceive .. | .heartbeatTimeout | .arbReqPulseEnd | .handoverTime | .handoverWithdraw ..
  | .networkAnnounce | .autoReleaseBound | .waybillStart .. => true
  | _ => false

/-- The commands that may change the Ledger. -/
def Instr.mayLedger : Instr → Bool
  | .vinRecovery | .vinResetCrossing | .rstNResetTimeout | .checkpointComplete .. | .startStepComplete .. | .startStepTimeout | .deferredReset
  | .dpllTick .. | .timeLoad | .authstepApply | .faultMessage .. | .ledgerWrite .. | .ledgerSummary => true
  | _ => false

end Sys2Proof

namespace Sys2Proof.Machine

/-- Command `c` completes in state `s`: `exec` answers a next state, and `p` holds of it. -/
def Answers (c : Instr) (s : State) (p : State → Prop) : Prop := ∃ t, exec c s = .next t ∧ p t

/-- If command `c` answers a next state, `p` holds of it. -/
def Leaves (c : Instr) (s : State) (p : State → Prop) : Prop := ∀ t, exec c s = .next t → p t

/-- Edge source `n` is pending for both targets of INTC (R402). -/
def Raised (n : Nat) (t : State) : Prop := n ∈ t.intc.host.pend ∧ n ∈ t.intc.mgmt.pend

/-- A word that a latch may hold (R102): an upper word of a register of several words, PKT_PORTn_LASTST, or EBND's components and sequence number. -/
def latchable (a : Nat) : Bool :=
  (match regAt a with
    | some (r, i) => decide (a ≠ blockOf a * 0x10000 + r.off + i * r.stride)
    | none => false)
    || decide (0x0B0100 ≤ a ∧ a < 0x0B0200 ∧ a % 0x20 = 0x18) || a = F.EBND_SEQ.addr || decide ((F.EBND_COMP 0).addr ≤ a ∧ a < (F.EBND_COMP 9).addr)

/-- The latches hold only words that a latch may hold. -/
def State.latchesWf (s : State) : Bool := s.hif.latches.all (fun l => l.words.all (fun p => latchable p.1))

/-- The row of a waybill is taken up by MGMT in this state and nothing taken earlier holds it back: INTC and MGMT running, its slot holding no taken
waybill, no short waybill still running, a FENCE finding every waybill of its ring final, MGMT with room, and the latches as every step leaves
them. -/
structure Takes (h : WbHead) (s : State) : Prop where
  intc : s.intc.running = true
  cores : s.mgmtFenced = false
  free : s.takenAt h.ring h.slot = none
  shorts : ∀ x ∈ s.mgmt.taken, x.long = true
  fence : h.flags / 2 % 2 = 1 → ∀ x ∈ s.mgmt.taken, x.ring ≠ h.ring
  room : s.mgmt.taken.length < 64
  latches : s.latchesWf = true

/-- A waybill that MGMT takes up in this state runs at once: it has its flags within Table 14-2, the start is complete and its manifest can be
written. -/
structure Ready (h : WbHead) (s : State) : Prop extends Takes h s where
  flags : h.flags < 8
  up : s.seq.st = .running
  slot : s.canWrite h.ring h.slot = true

/-- The manifest slot of a waybill holds a header with this state, status and results (Tables 14-3 to 14-5). -/
def Shows (h : WbHead) (t : State) (st : ManSt) (e : Status) (rs : List Word) : Prop :=
  ∃ m, t.manifestAt h.ring h.slot = some m ∧ m.tag = h.tag ∧ m.state = st ∧ m.status = e.code ∧ m.results = rs

/-- A waybill completed DONE with these results. -/
def Completed (h : WbHead) (t : State) (rs : List Word) : Prop := Shows h t .done .ok rs

/-- A waybill completed FAILED with this status. -/
def Failed (h : WbHead) (t : State) (e : Status) : Prop := Shows h t .failed e []

/-- A long operation has been accepted: its header reads RUNNING and MGMT counts it as long (R364). -/
def Accepted (h : WbHead) (t : State) : Prop :=
  Shows h t .running .ok [] ∧ ∃ e, t.takenAt h.ring h.slot = some e ∧ e.long = true

/-- The canonical form of the in-package memory: addresses rise strictly and no cell holds 0, which is what an unlisted address reads as. -/
def Memory.wf (m : List Host.Cell) : Bool := canon (fun _ => 0) m

/-- The canonical form of the register file. -/
def State.regsWf (s : State) : Bool := canon regDefault s.regs

/-- The priorities on a target's stack fall strictly from the top, and each is one of 0 to 15 (R403, R407). -/
def Target.nested (t : Target) : Prop := (t.stack.map StackEnt.prio).Pairwise (· > ·) ∧ ∀ e ∈ t.stack, e.prio < 16

/-- The tables of the state have the lengths that the spec gives them: references, PLLs, event outputs, captures, islands, stamp channels,
measurement units, lanes, groups, ports, domains. -/
def State.shaped (s : State) : Bool :=
  s.refs.length = 12 && s.apll.runs.length = 3 && s.tb.evts.length = 16 && s.tb.caps.length = 8 && s.tb.islands.length = 5 && s.tb.realign.length = 4
    && s.tic.chans.length = 16 && s.tic.units.length = 4 && s.ebnd.hist.length = 8 && s.rdn.lanes.length = 2 && s.fcol.doms.length = 4
    && s.ledger.starts.length = 6 && s.ledger.episodes.length = 4 && s.pkt.epoch.length = 2 && s.pkt.slaves.length = 2

/-- Two fields of different registers. -/
def Field.apart (f g : Field) : Bool := decide (g.addr + 2 * g.words ≤ f.addr ∨ f.addr + 2 * f.words ≤ g.addr)

/-- Two fields of one register with no bit in common. -/
def Field.beside (f g : Field) : Bool :=
  decide (f.addr = g.addr ∧ (f.lo + f.wid ≤ g.lo ∨ g.lo + g.wid ≤ f.lo) ∧ g.words ≤ f.words)

/-- Two fields with no bit in common. -/
def Field.disj (f g : Field) : Bool := f.apart g || f.beside g

/-- The registers that a waybill's taking and end may change: MGMT_TAKEN, MGMT_WBSTAT.LONG, MGMT_MANFAIL and FCOL_LOST. -/
def Field.offManifest (g : Field) : Bool :=
  F.MGMT_TAKEN.disj g && F.FCOL_LOST.disj g && F.MGMT_MANFAIL.disj g && F.MGMT_WBSTAT_LONG.disj g

/-- No register changes but those of the fields of a list and the four that a waybill's taking and end or a lost message may change. -/
def OnlyRegs (fs : List Field) (s t : State) : Prop :=
  ∀ g : Field, g.offManifest = true → (∀ f ∈ fs, f.disj g = true) → t.get g = s.get g

/-- A configuration waybill of PKT, which waits: it changes nothing but PKT's list of those that wait, and the convoy close that follows leaves `p`
(R292). -/
def AtClose (c : Instr) (s : State) (p : State → Prop) : Prop :=
  Answers c s fun t => t.pkt = { s.pkt with cfgs := t.pkt.cfgs } ∧ OnlyRegs [] s t ∧ Answers (.convoyClose []) t p

end Sys2Proof.Machine
end

