-- ==== Sys2Proof/Certificates/Slice0/Obligations.lean ====
section
/-! DEFINITION. The statements for the provers, by chapter of the spec. -/
open Sys2Proof Sys2Proof.Machine

/-! ### Power and start (spec/02) -/

/-- Each crossing of VIN moves the supervisor (Table 2-4, R54 to R56); a recovered dip resets nothing.
VBAT below and above 2.0 V (R54), and the ring's check of AON (R63).
Completes by a next state: vinWarningCrossing, vinRecovery, vinResetCrossing, vinRiseStart, vinStable, vbatLow, vbatValid, aonRingCheck. -/
def Obligations.Supervisor : Prop :=
  (∀ s : State,
  (s.psu.sup = .normal → Answers .vinWarningCrossing s fun t =>
    t.psu.sup = .warning ∧ t.fresh = s.fresh ∧ t.mem = s.mem ∧ t.get F.PSU_EVT_WARN = 1 ∧
    (s.intc.running = true → Raised 1 t) ∧ (s.intc.running = false → 1 ∈ t.intc.held)) ∧
  (s.psu.sup = .warning → Answers .vinRecovery s fun t =>
    t.psu.sup = .normal ∧ t.ledger.starts = modAt s.ledger.starts 4 (· + 1) ∧
    t.get F.PSU_DIPCNT = satNat 16 (s.get F.PSU_DIPCNT + 1) ∧ (s.intc.running = true → Raised 2 t) ∧
    (s.seq.st ≠ .idle → t.seq = s.seq ∧ ∀ g : Field, F.PSU_DIPCNT.disj g = true → t.get g = s.get g) ∧
    (s.seq.st = .idle → s.seq.rstLow = false → t.seq.st = .starting ∧ t.seq.step = 1)) ∧
  (s.psu.sup = .normal ∨ s.psu.sup = .warning ∨ s.psu.sup = .start → Answers .vinResetCrossing s fun t =>
    t.psu.sup = (if s.psu.vbatOk then .battery else .off) ∧ t.regs = [] ∧ t.mem = [] ∧ t.seq.st = .idle ∧ t.seq.cause = 1 ∧
    (s.psu.vbatOk = false → t.aon.valid = false) ∧ t.pending = s.pending) ∧
  (s.psu.sup = .off ∨ s.psu.sup = .battery → Answers .vinRiseStart s fun t => t.psu = { s.psu with sup := .start } ∧ t.seq = s.seq) ∧
  (s.psu.sup = .start → Answers .vinStable s fun t =>
    t.psu.sup = .normal ∧ (s.seq.rstLow = false → t.seq.st = .starting ∧ t.seq.step = 1))) ∧
  (∀ (s : State),
  (s.psu.vbatOk = true → Answers .vbatLow s fun t =>
    t.psu.vbatOk = false ∧
    (s.psu.sup = .battery → t.psu.sup = .off ∧ t.aon.valid = false) ∧
    (s.psu.sup ≠ .battery → s.psu.sup ≠ .off → t.psu.sup = s.psu.sup ∧ t.aon = s.aon ∧ t.get F.PSU_EVT_VBATLOW = 1 ∧
      (s.intc.running = true → Raised 5 t))) ∧
  (Answers .vbatValid s fun t => t.psu.vbatOk = true ∧ t.psu.sup = (if s.psu.sup = .off then .battery else s.psu.sup)) ∧
  (∀ aosc xtal t0, s.tb.counting = false → s.psu.sup ≠ .off → Answers (.aonRingCheck aosc xtal true t0) s fun t =>
    (s.aon.src = 1 → aosc = false → xtal = true → t.aon = { s.aon with src := 2, srcChg := true, chgTime := t0 }) ∧
    (s.aon.src = 1 → aosc = true → t.aon = s.aon) ∧ (s.aon.src = 2 → xtal = true → t.aon = s.aon) ∧
    (s.aon.src = 2 → aosc = true → xtal = false → s.aon.aoscFreq ≠ 0 → t.aon = { s.aon with src := 1, srcChg := true, chgTime := t0 }) ∧
    (s.aon.src = 2 → xtal = false → s.aon.aoscFreq = 0 → t.aon.valid = false) ∧
    (s.aon.src ≤ 2 → aosc = false → xtal = false → s.aon.src ≠ 0 → t.aon.valid = false ∧ t.aon.src = 0)))

/-- R53: a rail or power-stage excursion sets its bit, raises source 7 and sends its message once; its bit cannot be cleared while it lasts; it ends; a
later one is a new event.
Completes by a next state: railFault, powerStageOvertemp, railExcursionEnd, registerWrite. -/
def Obligations.RailExcursions : Prop := ∀ (s : State) (req : Nat) (w : Word),
  (s.past 1 = true → s.psu.railExc = false → Answers .railFault s fun t =>
    t.psu = { s.psu with railExc := true } ∧ t.get F.PSU_EVT_RAILFLT = 1 ∧ t.levelIn 7 = true ∧
    (s.intc.running = true → s.intc.host.stack.any (fun e => e.src = 7) = false → 7 ∈ t.intc.host.pend) ∧
    (s.fcol.running = true → s.queued 1 < 8 → t.fcol.inflight = s.fcol.inflight ++ [{ src := 1, kind := 3, sent := s.tb.ticks }])) ∧
  (s.past 1 = true → s.psu.tempExc = false → Answers .powerStageOvertemp s fun t =>
    t.psu = { s.psu with tempExc := true } ∧ t.get F.PSU_EVT_OVERTEMP = 1 ∧ t.levelIn 7 = true ∧
    (s.intc.running = true → s.intc.host.stack.any (fun e => e.src = 7) = false → 7 ∈ t.intc.host.pend) ∧
    (s.fcol.running = true → s.queued 1 < 8 → t.fcol.inflight = s.fcol.inflight ++ [{ src := 1, kind := 4, sent := s.tb.ticks }])) ∧
  (s.psu.railExc = true → Answers .railFault s fun t => t = s) ∧ (s.psu.tempExc = true → Answers .powerStageOvertemp s fun t => t = s) ∧
  (Answers (.railExcursionEnd false) s fun t => t.psu = { s.psu with railExc := false } ∧ t.regs = s.regs) ∧
  (Answers (.railExcursionEnd true) s fun t => t.psu = { s.psu with tempExc := false } ∧ t.regs = s.regs) ∧
  (s.pathUp req = true → s.mayWrite req = true → w.toNat < 32 → Answers (.registerWrite req F.PSU_EVT.addr w .whole) s fun t =>
    t.get F.PSU_EVT_RAILFLT = (if w.toNat / 8 % 2 = 1 ∧ s.psu.railExc = false then 0 else s.get F.PSU_EVT_RAILFLT) ∧
    t.get F.PSU_EVT_OVERTEMP = (if w.toNat / 16 % 2 = 1 ∧ s.psu.tempExc = false then 0 else s.get F.PSU_EVT_OVERTEMP) ∧ OnlyRegs [F.PSU_EVT] s t)

/-- RST_N requests a checkpoint and resets the die without a supply warning; the next start waits for the pin to rise (R58).
A checkpoint request begins one, joins the one that runs, or is skipped (R61); a checkpoint ends complete or failed (R59).
Completes by a next state: rstNAssert, rstNResetTimeout, rstNRelease, seqCheckpoint, checkpointComplete. -/
def Obligations.ResetsAndCheckpoints : Prop :=
  (∀ s : State,
  (s.seq.rstLow = false → Answers .rstNAssert s fun t =>
    t.seq.rstLow = true ∧ t.seq.rstWait = s.dieOn ∧ t.psu = s.psu ∧ t.get F.PSU_EVT_WARN = s.get F.PSU_EVT_WARN ∧ t.fcol = s.fcol ∧
    (s.seq.st = .running → s.seq.ckptRun = false → 100 ≤ s.seq.sinceCkpt → t.seq.ckptRun = true)) ∧
  (s.seq.rstWait = true → s.seq.ckptRun = false → Answers .rstNResetTimeout s fun t =>
    t.seq.cause = 2 ∧ t.psu.sup = s.psu.sup ∧ t.seq.rstWait = false ∧ t.mem = [] ∧
    (s.seq.rstLow = true → t.seq.st = .idle ∧ t.regs = []) ∧
    (s.seq.rstLow = false → s.psu.sup = .normal → t.seq.st = .starting ∧ t.seq.step = 1)) ∧
  (s.seq.rstLow = true → Answers .rstNRelease s fun t =>
    t.seq.rstLow = false ∧ (s.seq.st = .idle → s.psu.sup = .normal → t.seq.st = .starting ∧ t.seq.step = 1) ∧ (s.seq.st ≠ .idle → t.regs = s.regs))) ∧
  (∀ (s : State) (h : WbHead) (ps : List Word) (us : Nat),
  (Ready h s → s.seq.ckptRun = false → 100 ≤ s.seq.sinceCkpt → Answers (.seqCheckpoint h ps) s fun t =>
    t.seq.ckptRun = true ∧ h ∈ t.seq.ckptWait ∧ t.store.seqNo = (s.store.seqNo + 1) % 65536 ∧ (t.ckptAt t.store.slot).all (fun c => !c.complete)) ∧
  (Ready h s → s.seq.ckptRun = true → Answers (.seqCheckpoint h ps) s fun t =>
    t.seq.ckptWait = s.seq.ckptWait ++ [h] ∧ t.store = s.store ∧ t.mgmt.manifests = s.mgmt.manifests ∧ (t.takenAt h.ring h.slot).isSome = true ∧
      OnlyRegs [] s t) ∧
  (Ready h s → 2 ≤ h.ring → s.seq.ckptRun = false → s.seq.sinceCkpt < 100 → Answers (.seqCheckpoint h ps) s fun t =>
    Failed h t .busy ∧ t.get F.SEQ_CKPT_SKIPS = satNat 9 (s.get F.SEQ_CKPT_SKIPS + 1) ∧ Raised 4 t ∧ t.seq = s.seq) ∧
  (s.seq.ckptRun = true → s.seq.rstWait = false → s.seq.deferredDue = false → s.intc.running = true →
    Answers (.checkpointComplete true us) s fun t =>
      t.seq.ckptRun = false ∧ t.seq.ckptWait = [] ∧ t.seq.sinceCkpt = 0 ∧ t.get F.SEQ_CKPT_VALID = 1 ∧ t.get F.SEQ_CKPTDUR = satNat 16 us ∧
      t.get F.SEQ_CKPTSEQ = s.store.seqNo % 65536 ∧ (t.ckptAt s.store.slot).any (fun c => c.complete) = true ∧ Raised 3 t) ∧
  (s.seq.ckptRun = true → s.seq.rstWait = false → s.seq.deferredDue = false → s.intc.running = true →
    Answers (.checkpointComplete false us) s fun t =>
      t.seq.ckptRun = false ∧ t.seq.sinceCkpt = s.seq.sinceCkpt ∧ t.get F.SEQ_CKPT_VALID = 0 ∧ Raised 4 t ∧ t.store.ckpts = s.store.ckpts) ∧
  (s.seq.ckptRun = true → s.seq.ckptWait = [h] → 2 ≤ h.ring → (s.entryOf h).suspReqs = [] → s.seq.rstWait = false → s.seq.deferredDue = false →
    Answers (.checkpointComplete true us) s fun t => Completed h t [w16 s.store.seqNo, w16 (satNat 16 us)]) ∧
  (s.seq.ckptRun = true → s.seq.rstWait = true → s.seq.rstLow = true → Answers (.checkpointComplete true us) s fun t =>
    t.seq.cause = 2 ∧ t.seq.st = .idle ∧ t.regs = []))

/-- SEQ makes a warm start only if every condition of Table 2-7 holds (R68, R70).
The start steps in order (Table 2-6): the next step begins, and step 3 fails only if neither copy of the image is good.
A step that exceeds its timeout fails the start: the counter of the start's kind, the reset of every island but AON, a new start after 100 ms
(R69, R70); a reset asked for 1 ms ahead (R72, R78).
Completes by a next state: startStepComplete, startStepTimeout, startRetry, deferredReset. -/
def Obligations.Starts : Prop :=
  (∀ (s : State) (x : StepDone),
  s.seq.st = .starting → s.seq.step = 1 → x.err = false → Answers (.startStepComplete 1 x) s fun t =>
    t.seq.st = .starting ∧ t.seq.step = 2 ∧ t.get (F.SEQ_STEPDUR 0) = satNat 16 x.ms ∧
    (2 ≤ s.store.cfail → t.seq.kind = some .safe) ∧
    (s.store.cfail < 2 → t.seq.kind = some .warm ∨ t.seq.kind = some .cold) ∧
    (s.store.cfail < 2 → (t.seq.kind = some .warm ↔
      s.storedField F.SEQ_CTRL ≠ 1 ∧ s.seq.wantCold = false ∧ s.seq.lastFailedCold = false ∧ s.store.wfail < 3 ∧
      (∃ c, s.ckptAt s.store.slot = some c ∧ c.complete = true ∧ c.format = s.store.design) ∧ s.aon.valid = true ∧
      x.outage < s.storedField F.SEQ_WARMMAX * 60)) ∧
    (t.seq.kind = some .warm → t.seq.reason = 0 ∧ t.aon = s.aon) ∧
    (t.seq.kind = some .cold → 1 ≤ t.seq.reason ∧ t.seq.reason ≤ 6 ∧ t.aon.valid = false)) ∧
  (∀ (s : State) (x : StepDone),
  (s.seq.st = .starting → s.seq.step = 2 → x.err = false → Answers (.startStepComplete 2 x) s fun t =>
    t.seq.st = .starting ∧ t.seq.step = 3 ∧ t.get (F.SEQ_STEPDUR 1) = satNat 16 x.ms) ∧
  (s.seq.st = .starting → s.seq.step = 3 → x.err = false → (s.store.a.ok || s.store.b.ok) = true → s.seq.kind ≠ some .safe →
    Answers (.startStepComplete 3 x) s fun t =>
      t.seq.st = .starting ∧ t.seq.step = 4 ∧ t.intc.running = true ∧ t.intc.held = [] ∧ t.fcol.running = true ∧ t.store.held = []) ∧
  (s.seq.st = .starting → s.seq.step = 3 → x.err = false → (s.store.a.ok || s.store.b.ok) = true → s.seq.kind = some .safe →
    Answers (.startStepComplete 3 x) s fun t => t.seq.st = .safe ∧ Raised 6 t ∧ t.get F.SEQ_STARTINFO_KIND = 2 ∧ t.get F.SEQ_STARTINFO_REASON = 2) ∧
  (s.seq.st = .starting → s.seq.step = 3 → (s.store.a.ok || s.store.b.ok) = false → Answers (.startStepComplete 3 x) s fun t => t.seq.st = .retry) ∧
  (s.seq.st = .starting → s.seq.step = 4 → x.err = false → Answers (.startStepComplete 4 x) s fun t => t.seq.st = .starting ∧ t.seq.step = 5) ∧
  (s.seq.st = .starting → s.seq.step = 5 → x.err = false → (List.range 64).all (fun i => calPass (at' [] x.hits i)) = true →
    Answers (.startStepComplete 5 x) s fun t => t.seq.st = .starting ∧ t.seq.step = 6 ∧ t.get F.TIC_CALSTAT_VALID = 1) ∧
  (∀ i, i < 64 → s.seq.st = .starting → s.seq.step = 5 → x.err = false → s.seq.kind ≠ some .warm → calPass (at' [] x.hits i) = false →
    calPass (at' [] x.again i) = false → Answers (.startStepComplete 5 x) s fun t => t.seq.st = .retry) ∧
  (s.seq.st = .starting → s.seq.step = 6 → s.seq.kind ≠ some .warm → s.pllsLocked = true → x.err = false →
    Answers (.startStepComplete 6 x) s fun t => t.seq.step = 7 ∧ t.tb.counting = true ∧ t.tb.time = 0) ∧
  (s.seq.st = .starting → s.seq.step = 7 → x.err = false → Answers (.startStepComplete 7 x) s fun t =>
    (t.seq.st = .setting ∨ t.seq.st = .running) ∧ t.store.wfail = 0 ∧ t.store.cfail = 0 ∧ t.get F.CTAB_STAT_READY = 1) ∧
  (∀ n, 1 ≤ n → n ≤ 7 → s.seq.st = .starting → s.seq.step = n → x.err = true → Answers (.startStepComplete n x) s fun t => t.seq.st = .retry) ∧
  (∀ n, n = 8 ∨ n = 9 → s.seq.st = .running → Answers (.startStepComplete n x) s fun t =>
    t.get (F.SEQ_STEPDUR (n - 1)) = satNat 16 x.ms ∧ t.seq.st = s.seq.st)) ∧
  (∀ s : State,
  (s.seq.st = .starting → Answers .startStepTimeout s fun t =>
    t.seq.st = .retry ∧ t.seq.cause = 3 ∧ t.regs = [] ∧ t.mem = [] ∧
    t.store.wfail = (if s.seq.kind = some .warm then min 3 (s.store.wfail + 1) else s.store.wfail) ∧
    t.store.cfail = (if s.seq.kind = some .cold then min 2 (s.store.cfail + 1) else s.store.cfail)) ∧
  (s.seq.st = .retry → s.psu.sup = .normal → s.seq.rstLow = false → Answers .startRetry s fun t => t.seq.st = .starting ∧ t.seq.step = 1) ∧
  (s.seq.deferred.isSome = true → s.seq.ckptRun = true → Answers .deferredReset s fun t => t.seq = { s.seq with deferredDue := true }) ∧
  (∀ c cold, s.seq.deferred = some (c, cold) → s.seq.ckptRun = false → s.seq.st = .running ∨ s.seq.st = .safe → Answers .deferredReset s fun t =>
    t.seq.cause = c ∧ t.seq.wantCold = cold ∧ t.seq.deferred = none ∧ (s.psu.sup = .normal → s.seq.rstLow = false → t.seq.st = .starting)))

/-- The waybills of SEQ and PSU (Table 2-14), and the write of SEQ_SAFECLR (R72).
Completes by a next state: seqRestart, seqSafeclear, seqCfgsave, mgmtAudit, seqStartreport, psuRead, seqSafeclrWrite. -/
def Obligations.SeqWaybills : Prop := ∀ (s : State) (h : WbHead) (p v : Word) (ps : List Word),
  (Ready h s → p.toNat < 2 → Answers (.seqRestart h [p]) s fun t =>
    Completed h t [] ∧ t.seq = { s.seq with deferred := if s.seq.deferred = some (5, true) then some (5, true) else some (4, decide (p.toNat = 1)) }) ∧
  (Ready h s → 2 ≤ p.toNat → Answers (.seqRestart h [p]) s fun t => t.seq = s.seq ∧ t.store = s.store ∧ (t.manifestAt h.ring h.slot).isSome = true) ∧
  (Ready h s → Answers (.seqSafeclear h ps) s fun t => Completed h t [] ∧ t.seq = s.seq ∧ t.store = s.store) ∧
  (Takes h s → h.flags < 8 → s.seq.st = .safe → Answers (.seqSafeclear h ps) s fun t =>
    t.store.wfail = 0 ∧ t.store.cfail = 0 ∧ t.seq.deferred = some (5, true)) ∧
  (Ready h s → s.seq.saving = none → Answers (.seqCfgsave h ps) s fun t => t.store = { s.store with a := ⟨false, s.image⟩ } ∧
    t.seq = { s.seq with saving := some (h, ⟨true, s.image⟩, false) } ∧ t.mgmt.manifests = s.mgmt.manifests ∧ (t.takenAt h.ring h.slot).isSome = true ∧
      OnlyRegs [] s t) ∧
  (∀ c, s.intc.running = true → s.seq.saving = some (h, c, false) → Answers .mgmtAudit s fun t =>
    t.store = { s.store with a := c, b := { c with ok := false } } ∧ t.seq = { s.seq with saving := some (h, c, true) }) ∧
  (∀ c, s.intc.running = true → s.canWrite h.ring h.slot = true → s.seq.saving = some (h, c, true) → Answers .mgmtAudit s fun t =>
    t.store.a = s.store.a ∧ t.store.b = c ∧ t.seq = { s.seq with saving := none } ∧
    (2 ≤ h.ring → (s.entryOf h).suspReqs = [] → (t.manifestAt h.ring h.slot).any (fun m => m.state = .done && m.results.length = 2) = true)) ∧
  (Ready h s → Answers (.seqStartreport h ps) s fun t =>
    Completed h t (s.fw F.SEQ_STARTINFO ++ s.fw F.SEQ_FAILCNT ++ s.rdWords (F.SEQ_STEPDUR 0).addr 9)) ∧
  (Ready h s → Answers (.psuRead h ps) s fun t =>
    Completed h t [t.rd F.PSU_VIN.addr, t.rd F.PSU_VBAT.addr, t.rd F.PSU_TJ.addr, t.rd F.PSU_STAT.addr, t.rd F.PSU_AONSTAT.addr] ∧
    t.get F.PSU_STAT_WARN = (if s.psu.sup = .warning then 1 else 0) ∧ t.get F.PSU_STAT_VBATOK = (if s.psu.vbatOk then 1 else 0)) ∧
  (s.busUp 0 = true → s.seq.st = .safe → Answers (.seqSafeclrWrite 0xC1EA) s fun t =>
    t.store.wfail = 0 ∧ t.store.cfail = 0 ∧ t.seq.deferred = some (5, true)) ∧
  (s.busUp 0 = true → v.toNat ≠ 0xC1EA → Answers (.seqSafeclrWrite v.toNat) s fun t => t.regs = s.regs ∧ t.seq = s.seq ∧ t.store = s.store)

/-! ### References (spec/03) -/

/-- Activity and qualification of a reference (R80, R90, Table 3-2).
The vote's end: a trained model decides, else the host is asked (R100).
Completes by a next state: refEdge, refActivityLoss, qualTimerExpiry, rmonSlopeFit, witnessPhaseReturn, voteExpiry. -/
def Obligations.ReferenceMonitoring : Prop :=
  (∀ (s : State) (n t0 c : Nat),
  (n < 8 → s.refs.length = 12 → s.on (F.RMON_REF_CFG_ENABLE n) = true → s.past 6 = true → Answers (.refEdge n t0 c) s fun t =>
    (t.ref n).lastEdge = some (s.edgeAt 32 (16 + n) t0 c * 1000 / 2 ^ 32) ∧ ((s.ref n).lastEdge = none → (t.ref n).run = 1) ∧ (4 ≤ (t.ref n).run →
      t.get (F.RMON_REF_STATE_ACT n) = 1) ∧
    t.qual n = s.qual n ∧ t.dpll = s.dpll ∧ ∀ m, m < 12 → m ≠ n → t.ref m = s.ref m) ∧
  (n < 8 → s.on (F.RMON_REF_CFG_ENABLE n) = false → Answers (.refEdge n t0 c) s fun t => t = s) ∧
  (n < 12 → s.on (F.RMON_REF_STATE_ACT n) = true → s.past 6 = true → s.intc.running = true → Answers (.refActivityLoss n) s fun t =>
    t.get (F.RMON_REF_STATE_ACT n) = 0 ∧ t.bit F.RMON_ACTMAP n = false ∧
    (2 ≤ s.qual n → t.qual n = 1 ∧ t.get (F.RMON_REF_LOSCNT n) = satNat 16 (s.get (F.RMON_REF_LOSCNT n) + 1) ∧ Raised (8 + n) t ∧
      t.get (F.RMON_REF_GEN n) = (s.get (F.RMON_REF_GEN n) + 1) % 65536) ∧
    (2 ≤ s.qual n → s.active = n → Raised 21 t) ∧ (s.qual n < 2 → t.qual n = s.qual n)) ∧
  (n < 12 → s.qual n = 2 → s.on F.RMON_WITNESS_PVALID = true → s.on (F.RMON_REF_STATE_FWOK n) = true → s.past 6 = true → s.intc.running = true →
    (s.getI (F.RMON_REF_OFFSET n)).natAbs < s.get (F.RMON_REF_ACCEPT n) → Answers (.qualTimerExpiry n) s fun t =>
      t.qual n = 3 ∧ t.bit F.RMON_QUALMAP n = true ∧ t.get (F.RMON_REF_QREMAIN n) = 0 ∧ Raised (8 + n) t) ∧
  (n < 12 → s.refs.length = 12 → s.past 6 = true → 2 ≤ s.qual n → Answers .rmonSlopeFit s fun t =>
    (t.ref n).win = (if (s.ref n).secCnt = 0 then (s.ref n).win else ((s.ref n).secSum / (s.ref n).secCnt :: (s.ref n).win).take 1000) ∧
    (t.ref n).secSum = 0 ∧ (t.ref n).rate = (s.ref n).freshSec ∧ (100 ≤ (t.ref n).win.length → t.get (F.RMON_REF_STATE_SLOPEVALID n) = 1)) ∧
  (s.on F.TBASE_STAT_TIMESET = true → s.on F.HOLD_STAT_NOENS = false → s.past 6 = true → n < 12 → Answers .witnessPhaseReturn s fun t =>
    t.get F.RMON_WITNESS_PVALID = 1 ∧ t.get (F.RMON_REF_STATE_PHVALID n) = 1)) ∧
  (∀ s : State, s.past 6 = true → s.intc.running = true →
  (s.on F.DPLL_SELSTAT_CONFLICT = true → s.on F.DPLL_SELSTAT_HOSTWAIT = false → s.get F.HOLD_TRAINAGE < 86400 → Answers .voteExpiry s fun t =>
    t.get F.DPLL_SELSTAT_HOSTWAIT = 1 ∧ t.get F.DPLL_SELSTAT_CONFLICT = 1 ∧ t.get F.DPLL_SELVREM = 0 ∧ Raised 28 t ∧ t.active = s.active) ∧
  (∀ n, n < 12 → s.on F.DPLL_SELSTAT_CONFLICT = true → s.on F.DPLL_SELSTAT_HOSTWAIT = false → 86400 ≤ s.get F.HOLD_TRAINAGE →
    s.bit F.DPLL_SELCONF_MAP n = true → s.qual n = 3 → Answers .voteExpiry s fun t =>
    t.get F.DPLL_SELSTAT_CONFLICT = 0 ∧ t.get F.DPLL_SELSTAT_REASON = 3 ∧ t.active < 12 ∧ s.qual t.active = 3 ∧ s.bit F.DPLL_SELCONF_MAP t.active = true ∧
    (s.getI (F.RMON_REF_FOFF t.active)).natAbs ≤ (s.getI (F.RMON_REF_FOFF n)).natAbs ∧ Raised 27 t) ∧
  (s.on F.DPLL_SELSTAT_CONFLICT = false → Answers .voteExpiry s fun t => t.regs = s.regs ∧ t.dpll = s.dpll))

/-- The waybills of RMON and of the selector, and the write of the manual choice (R96, R99, R107).
Completes by a next state: rmonRefcfg, rmonRequal, rmonStatus, rmonHistory, dpllSelect, dpllResolve, dpllSelreport, dpllSelmanWrite. -/
def Obligations.ReferenceWaybills : Prop := ∀ (s : State) (h : WbHead) (n cfg fnom qt acc rej sl fw dl k m : Nat), Ready h s →
  (n < 8 → cfg < 256 → 1 ≤ fnom → fnom ≤ 800000000 → 1 ≤ qt → qt < 65536 → acc < rej → rej < 4294967296 → sl < 65536 → 1 ≤ fw → fw < 65536 →
    dl < 4294967296 → Answers (.rmonRefcfg h ([w16 n, w16 (s.get (F.RMON_REF_GEN n)), w16 cfg] ++ wordsOf fnom 2 ++ [w16 qt] ++ wordsOf acc 2
      ++ wordsOf rej 2 ++ [w16 sl, w16 fw] ++ wordsOf dl 2)) s fun t =>
    t.get (F.RMON_REF_CFG_ENABLE n) = cfg % 2 ∧ t.get (F.RMON_REF_CFG_RANK n) = cfg / 16 % 16 ∧ t.get (F.RMON_REF_FNOM n) = fnom ∧
    t.get (F.RMON_REF_QUALTIME n) = qt ∧ t.get (F.RMON_REF_ACCEPT n) = acc ∧ t.get (F.RMON_REF_REJECT n) = rej ∧
    t.get (F.RMON_REF_SLOPELIM n) = sl ∧ t.get (F.RMON_REF_FWIN n) = fw ∧ t.get (F.RMON_REF_DELAY n) = dl ∧
    t.get (F.RMON_REF_GEN n) ≠ s.get (F.RMON_REF_GEN n) ∧ (cfg % 2 = 0 → t.qual n = 0) ∧
    (2 ≤ h.ring → Completed h t [w16 (t.get (F.RMON_REF_GEN n))])) ∧
  (n < 12 → k < 65536 → k ≠ s.get (F.RMON_REF_GEN n) → Answers (.rmonRequal h [w16 n, w16 k]) s fun t =>
    Failed h t .genConflict ∧ t.refs = s.refs ∧ OnlyRegs [] s t) ∧
  (n < 12 → Answers (.rmonStatus h [w16 n]) s fun t => Completed h t (s.rdWords (F.RMON_REF_STATE n).addr 9) ∧ OnlyRegs [] s t) ∧
  (n < 12 → Answers (.rmonRequal h [w16 n, w16 (s.get (F.RMON_REF_GEN n))]) s fun t =>
    t.qual n = 2 ∧ (2 ≤ h.ring → Completed h t []) ∧ (n < s.refs.length → (t.ref n).timer = 0 ∧
      (t.ref n).win.map (· - (t.ref n).win.headD 0) = (s.ref n).win.map (· - (s.ref n).win.headD 0))) ∧
  (n < 12 → k ≤ 999 → m ≤ 64 → Answers (.rmonHistory h [w16 n, w16 k, w16 m]) s fun t =>
    Completed h t ((((s.ref n).win.drop k).take m).map (fun p => wI (p / 100))) ∧ OnlyRegs [] s t) ∧
  (k < 32 → Answers (.dpllSelect h [w16 (s.get F.DPLL_SELGEN), w16 k]) s fun t =>
    t.get F.DPLL_SELMAN_MREF = k % 16 ∧ t.get F.DPLL_SELMAN_REVERT = k / 16 ∧ t.get F.DPLL_SELSTAT_FIRSTQUAL = 1 ∧
    t.get F.DPLL_SELSTAT_CONFLICT = 0 ∧ t.get F.DPLL_SELGEN = (s.get F.DPLL_SELGEN + 1) % 65536 ∧ t.active = s.active ∧
    (2 ≤ h.ring → Completed h t [])) ∧
  (n < 12 → s.on F.DPLL_SELSTAT_CONFLICT = true → s.qual n = 3 → s.bit F.DPLL_SELCONF_MAP n = true →
    Answers (.dpllResolve h [w16 (s.get F.DPLL_SELGEN), w16 n]) s fun t =>
      t.dpll.resolve = some n ∧ t.get F.DPLL_SELSTAT_CONFLICT = 0 ∧ Raised 27 t ∧ (2 ≤ h.ring → Completed h t [])) ∧
  (n < 12 → s.on F.DPLL_SELSTAT_CONFLICT = false → Answers (.dpllResolve h [w16 (s.get F.DPLL_SELGEN), w16 n]) s fun t =>
    Failed h t .notPermitted ∧ t.dpll = s.dpll) ∧
  (Answers (.dpllSelreport h []) s fun t => Completed h t [s.rd F.DPLL_SELMAN.addr, s.rd F.DPLL_SELSTAT.addr, s.rd F.DPLL_SELCONF.addr,
    s.rd F.DPLL_SELVREM.addr, s.rd F.RMON_QUALMAP.addr, s.rd F.RMON_DRIFTMAP.addr] ∧ OnlyRegs [] s t) ∧
  (k < 32 → Answers (.dpllSelmanWrite k) s fun t =>
    t.get F.DPLL_SELMAN_MREF = k % 16 ∧ t.get F.DPLL_SELMAN_REVERT = k / 16 ∧ t.get F.DPLL_SELSTAT_FIRSTQUAL = 1 ∧
    t.get F.DPLL_SELSTAT_CONFLICT = 0 ∧ t.get F.DPLL_SELGEN = (s.get F.DPLL_SELGEN + 1) % 65536)

/-! ### DPLL and synthesis (spec/04) -/

/-- One DPLL tick ends with the increment that the frequency word gives (R111), a phase number one higher (R109), 1 ms more toward the next
checkpoint; outside OPEN, APPLY then reads 0 (R119).
What happens to the loop between ticks: a slew ends, the phase lock declares (R115, R132), the words and mode changes the host asks for wait
for the next tick (R119, R120).
Completes by a next state: dpllTick, slewComplete, phlockTimer, dpllOpen, dpllClose, dpllSetfreq, dpllLoopreport, dpllPhlog, dpllSwcmdApply,
dpllModeOpenWrite, dpllModeCloseWrite. -/
def Obligations.LoopTicksAndRequests : Prop :=
  (∀ (s : State) (miss : List Nat), s.past 6 = true → Answers (.dpllTick miss) s fun t =>
  t.get F.DPLL_PHSEQ = (s.get F.DPLL_PHSEQ + 1) % 65536 ∧ t.seq.sinceCkpt = min 100 (s.seq.sinceCkpt + 1) ∧
  (s.dpll.lost = 0 → t.get F.TBASE_INCR = incrOf t.freq 0 % 2 ^ 56) ∧ (t.mode ≠ 4 → t.get F.DPLL_SWCMD = 0) ∧
    t.get F.DPLL_STAT_OSCCHG = (if s.dpll.lost = 0 then 0 else 1) ∧
  t.dpll.phlog.head? = some (t.getI F.DPLL_PHERR) ∧ t.pending = s.pending) ∧
  (∀ (s : State) (h : WbHead) (k v : Nat) (f : Nat) (ps : List Word),
  (s.on F.DPLL_STAT_SLEWING = true → s.past 6 = true → s.dpll.slewRem.natAbs ≤ s.dpll.slewNow → Answers .slewComplete s fun t =>
    t.get F.DPLL_STAT_SLEWING = 0 ∧ t.get F.HOLD_STAT_LONGSLEW = 0 ∧ t.dpll.slewRem = 0 ∧ t.mode = s.mode) ∧
  (s.past 6 = true → s.on F.DPLL_STAT_PHVALID = true → 10000 ≤ s.dpll.lockMs → (s.getI F.DPLL_PHERR).natAbs < s.get F.DPLL_LOCKTHR * 100 →
    Answers .phlockTimer s fun t => t.get F.DPLL_STAT_PHLOCK = 1) ∧
  (Ready h s → Answers (.dpllOpen h [w16 k]) s fun t =>
    t.dpll.reqs = s.dpll.reqs ++ [.openLoop (some h) (some (k % 65536))] ∧ t.mgmt.manifests = s.mgmt.manifests ∧ (t.takenAt h.ring h.slot).isSome = true ∧
      OnlyRegs [] s t) ∧
  (Ready h s → v < 2 → Answers (.dpllClose h [w16 k, w16 v]) s fun t =>
    t.dpll.reqs = s.dpll.reqs ++ [.closeLoop (some v) (some h) (some (k % 65536))] ∧
    t.mgmt.manifests = s.mgmt.manifests ∧ (t.takenAt h.ring h.slot).isSome = true ∧ OnlyRegs [] s t) ∧
  (Ready h s → s.mode = 4 → f < 2 ^ 48 → Answers (.dpllSetfreq h ([w16 (s.get F.DPLL_GEN)] ++ wordsOf f 3)) s fun t =>
    t.get F.DPLL_SWFREQ = f ∧ t.get F.DPLL_SWCMD = 1 ∧ t.dpll.reqs = s.dpll.reqs ++ [.applyWord h]) ∧
  (Ready h s → s.mode ≠ 4 → Answers (.dpllSetfreq h ([w16 (s.get F.DPLL_GEN)] ++ wordsOf f 3)) s fun t =>
    Failed h t .notPermitted ∧ t.get F.DPLL_SWFREQ = s.get F.DPLL_SWFREQ) ∧
  (Ready h s → Answers (.dpllLoopreport h ps) s fun t =>
    Completed h t (s.fw F.DPLL_STAT ++ s.fw F.DPLL_FREQ ++ s.fw F.DPLL_PHERR ++ s.fw F.DPLL_PHSEQ ++ s.fw F.DPLL_BWEFF ++ s.fw F.DPLL_GEN) ∧ OnlyRegs [] s t) ∧
  (Ready h s → k ≤ 1023 → v ≤ 64 → Answers (.dpllPhlog h [w16 k, w16 v]) s fun t =>
    Completed h t (((s.dpll.phlog.drop k).take v).map (fun p => wI (p / 100))) ∧ OnlyRegs [] s t) ∧
  (s.busUp 3 = true → s.mode = 4 → Answers .dpllSwcmdApply s fun t => t.get F.DPLL_SWCMD = 1 ∧ OnlyRegs [F.DPLL_SWCMD] s t) ∧
  (s.busUp 3 = true → s.mode ≠ 4 → Answers .dpllSwcmdApply s fun t => t.regs = s.regs) ∧
  (s.busUp 3 = true → k < 10 → Answers (.dpllModeOpenWrite (2 * k + 1)) s fun t =>
    t.dpll.reqs = s.dpll.reqs ++ [.openLoop none none] ∧ t.get F.DPLL_MODE_CLOSEBUMP = k % 2 ∧ t.get F.DPLL_MODE_DAMP = k / 2 ∧
    t.get F.DPLL_GEN = (s.get F.DPLL_GEN + 1) % 65536) ∧
  (s.busUp 3 = true → k < 10 → Answers (.dpllModeCloseWrite (2 * k)) s fun t =>
    t.dpll.reqs = s.dpll.reqs ++ [.closeLoop none none none] ∧ t.get F.DPLL_MODE_CLOSEBUMP = k % 2 ∧ t.get F.DPLL_MODE_DAMP = k / 2 ∧
    t.get F.DPLL_GEN = (s.get F.DPLL_GEN + 1) % 65536))

/-- Lock, loss and bypass of the synthesis PLLs (R124 to R129).
Completes by a next state: apllLockWindow, apllRefLoss, apllReturnExpiry, apllOutSquelchClear, aoscReturn, crystalStop. -/
def Obligations.SynthesisEvents : Prop := ∀ (s : State) (p c l : Nat), p < 3 → s.past 5 = true → s.apll.runs.length = 3 → s.intc.running = true →
  (s.on (F.APLL_PLL_LOCK_REFACT p) = false → Answers (.apllLockWindow p c l) s fun t => t.apll = s.apll ∧ t.regs = s.regs) ∧
  (s.on (F.APLL_PLL_LOCK_REFACT p) = true → s.on (F.APLL_PLL_CFG_ENABLE p) = true → s.on (F.APLL_PLL_LOCK_LOCKED p) = true →
    s.within p c (s.get (F.APLL_PLL_LOCKCFG_UNLOCKTOL p)) = false →
    Answers (.apllLockWindow p c l) s fun t => t.get (F.APLL_PLL_LOCK_LOCKED p) = 0 ∧
      t.get (F.APLL_PLL_LOSSCNT p) = satNat 16 (s.get (F.APLL_PLL_LOSSCNT p) + 1) ∧ Raised (40 + p) t) ∧
  (s.on (F.APLL_PLL_LOCK_REFACT p) = true → s.on (F.APLL_PLL_CFG_ENABLE p) = true → s.on (F.APLL_PLL_LOCK_LOCKED p) = false →
    s.within p c (s.get (F.APLL_PLL_LOCKCFG_LOCKTOL p)) = true →
    s.get (F.APLL_PLL_LOCKCFG_LOCKWIN p) ≤ s.apll.runs.getD p 0 + 1 →
    Answers (.apllLockWindow p c l) s fun t => t.get (F.APLL_PLL_LOCK_LOCKED p) = 1 ∧ Raised (40 + p) t) ∧
  (s.on (F.APLL_PLL_LOCK_REFACT p) = true → s.on (F.APLL_PLL_CFG_ENABLE p) = true → s.on (F.APLL_PLL_LOCK_LOCKED p) = false →
    s.within p c (s.get (F.APLL_PLL_LOCKCFG_LOCKTOL p)) = false →
    Answers (.apllLockWindow p c l) s fun t => t.apll.runs.getD p 0 = 0 ∧ t.regs = s.regs) ∧
  (Answers (.apllRefLoss p l) s fun t => t.get (F.APLL_PLL_LOCK_LOCKED p) = 0 ∧ (p < 2 → Raised 43 t)) ∧
  (p < 2 → s.on (F.APLL_PLL_LOCK_LOCKED p) = true → s.on (F.APLL_PLL_LOCK_BYPASS p) = true → Answers (.apllReturnExpiry p l) s fun t =>
    t.get (F.APLL_PLL_LOCK_BYPASS p) = 0 ∧ t.get F.APLL_BYPSTAT_MAP = s.get F.APLL_BYPSTAT_MAP &&& (0x7F ^^^ bypMask p)) ∧
  (s.on (F.APLL_PLL_LOCK_LOCKED 2) = true → Answers .apllOutSquelchClear s fun t => t.get (F.APLL_PLL_LOCK_SQUELCH 2) = 0) ∧
  (Answers .aoscReturn s fun t => t.apll.aoscAct = true) ∧
  (s.on F.APLL_BYPSTAT_XTALOK = true → Answers .crystalStop s fun t => t.get F.APLL_BYPSTAT_XTALOK = 0)

/-- DPLL_LOOPCFG writes its five registers, all but OPEN, where the generation agrees (R136, R46).
The waybills of APLL (R136, R130).
Completes by a next state: dpllLoopcfg, apllRelock, apllCfg, apllSpurscan, apllReport. -/
def Obligations.LoopAndSynthesisWaybills : Prop :=
  (∀ (s : State) (h : WbHead) (g m bw sl pl th : Nat), Ready h s → g < 65536 → m < 64 → m / 4 % 8 ≤ 4 →
  10 ≤ bw → bw ≤ 10000000 → 1 ≤ sl → sl < 65536 → 1 ≤ pl → pl ≤ 2000 → th < 65536 →
  Answers (.dpllLoopcfg h ([w16 g, w16 m] ++ wordsOf bw 2 ++ [w16 sl, w16 pl, w16 th])) s fun t =>
    (g = s.get F.DPLL_GEN →
      t.get F.DPLL_MODE_OPEN = s.get F.DPLL_MODE_OPEN ∧ t.get F.DPLL_MODE_CLOSEBUMP = m / 2 % 2 ∧ t.get F.DPLL_MODE_DAMP = m / 4 % 8 ∧
      t.get F.DPLL_MODE_SAMPIRQ = m / 32 ∧ t.get F.DPLL_BW = bw ∧ t.get F.DPLL_SLEWLIM = sl ∧ t.get F.DPLL_PULL = pl ∧ t.get F.DPLL_LOCKTHR = th ∧
      t.get F.DPLL_GEN = (g + 1) % 65536 ∧ (2 ≤ h.ring → Completed h t [w16 (g + 1)]) ∧
      OnlyRegs [F.DPLL_MODE, F.DPLL_BW, F.DPLL_SLEWLIM, F.DPLL_PULL, F.DPLL_LOCKTHR, F.DPLL_GEN] s t) ∧
    (g ≠ s.get F.DPLL_GEN → Failed h t .genConflict ∧ OnlyRegs [] s t)) ∧
  (∀ (s : State) (h : WbHead) (p g f : Nat) (ps : List Word), Ready h s →
  (p < 3 → g < 65536 → g = s.get (F.APLL_PLL_GEN p) → Answers (.apllRelock h [w16 p, w16 g]) s fun t =>
    t.get (F.APLL_PLL_LOCK_LOCKED p) = 0 ∧ t.get (F.APLL_PLL_GEN p) = (g + 1) % 65536 ∧ t.apll.runs.getD p 0 = 0 ∧
    (2 ≤ h.ring → Completed h t [w16 (g + 1)])) ∧
  (p < 3 → g < 65536 → g ≠ s.get (F.APLL_PLL_GEN p) → Answers (.apllRelock h [w16 p, w16 g]) s fun t => Failed h t .genConflict ∧ t.apll = s.apll) ∧
  (∀ cf ni nf pd lk lw ut rt, p < 3 → g < 65536 → g = s.get (F.APLL_PLL_GEN p) → cf < 64 → cf % 4 ≤ (if p = 2 then 2 else 1) → 16 ≤ ni → ni < 1024 →
    nf < 2 ^ 48 → (p < 2 → nf = 0) → 8 ≤ pd → pd < 256 → 1 ≤ lk → lk < 16 → lk < ut → ut < 64 → 1 ≤ lw → lw < 16 → 1 ≤ rt → rt < 65536 →
    Answers (.apllCfg h ([w16 p, w16 g, w16 cf, w16 ni] ++ wordsOf nf 3 ++ [w16 pd, w16 (lk + 16 * ut + 1024 * lw), w16 rt])) s fun t =>
      t.get (F.APLL_PLL_CFG_REFSEL p) = cf % 4 ∧ t.get (F.APLL_PLL_CFG_ENABLE p) = cf / 16 % 2 ∧ t.get (F.APLL_PLL_NINT p) = ni ∧
      t.get (F.APLL_PLL_NFRAC p) = nf ∧ (p = 2 → t.get (F.APLL_PLL_POSTDIV p) = pd) ∧ t.get (F.APLL_PLL_LOCKCFG_LOCKTOL p) = lk ∧
      t.get (F.APLL_PLL_LOCKCFG_UNLOCKTOL p) = ut ∧ t.get (F.APLL_PLL_RETURN p) = rt ∧ t.get (F.APLL_PLL_LOCK_LOCKED p) = 0 ∧
      t.get (F.APLL_PLL_GEN p) = (g + 1) % 65536) ∧
  (5600000 ≤ f → f ≤ 6400000 → Answers (.apllSpurscan h (wordsOf f 2)) s fun t =>
    let d := fun m => min (2 * f % m) (m - 2 * f % m)
    let k := fun m => w16 (if 131070 ≤ d m then 0xFFFF else d m / 2)
    Completed h t [k 312500, k 625000, k 156250,
      w16 (if d 625000 ≤ d 312500 ∧ d 156250 ≤ d 312500 then 0 else if d 156250 ≤ d 625000 then 1 else 2)] ∧ OnlyRegs [] s t) ∧
  (Answers (.apllReport h ps) s fun t =>
    Completed h t [s.rd (F.APLL_PLL_LOCK 0).addr, s.rd (F.APLL_PLL_LOCK 1).addr, s.rd (F.APLL_PLL_LOCK 2).addr, s.rd (F.APLL_PLL_LOSSCNT 0).addr,
      s.rd (F.APLL_PLL_LOSSCNT 1).addr, s.rd (F.APLL_PLL_LOSSCNT 2).addr, s.rd F.APLL_BYPSTAT.addr] ∧ OnlyRegs [] s t))

/-! ### Ensemble and holdover (spec/05) -/

/-- The second of HOLD (R139 to R147): the weights in force next are those of the present slots, in all at most the whole, and NOENS says that
there are none; the training age counts while a reference steers the ensemble; the model follows no second.
Completes by a next state: holdSecond. -/
def Obligations.EnsembleSecond : Prop := ∀ (s : State) (a x : Option Int) (tj : Int), s.past 6 = true → -32768 ≤ tj → tj < 32768 → s.refs.length = 12 →
  Answers (.holdSecond a x tj) s fun t =>
    t.getI F.PSU_TJ = tj ∧ (t.hold.weights.foldl (fun n p => n + p.2) 0 ≤ 65536) ∧ (t.get F.HOLD_STAT_NOENS = 1 ↔ t.hold.weights = []) ∧
    (t.hold.weights.all (fun p => p.2 ≠ 0 && (12 ≤ p.1 || s.qual p.1 = 3)) = true) ∧
    (∀ n, n < 12 → (t.ref n).qualSecs = if s.qual n = 3 then min 1000 ((s.ref n).qualSecs + 1) else (s.ref n).qualSecs) ∧
    (t.get F.HOLD_STAT_HOSCNOW = s.get F.HOLD_STAT_HOSCNOW → t.get F.HOLD_MDL_GEN = s.get F.HOLD_MDL_GEN ∧ t.get F.HOLD_MDL_D = s.get F.HOLD_MDL_D ∧
      s.get F.HOLD_TRAINAGE ≤ t.get F.HOLD_TRAINAGE ∧ t.get F.HOLD_TRAINAGE ≤ s.get F.HOLD_TRAINAGE + 1) ∧
    t.get F.DPLL_FREQ = s.get F.DPLL_FREQ ∧ t.mode = s.mode

/-- The model, the training age and the end of B_hold (R146, R147, R159).
Steering of the holdover oscillator and its acknowledgements (R148 to R150).
Completes by a next state: holdModelTrain, trainage24h, holdContractExpiry, holdRetrain, aoscSteer, aoscSteerComp, aoscAckReceive, aoscAckTimeout. -/
def Obligations.HoldoverAndSteering : Prop :=
  (∀ (s : State) (h : WbHead) (g : Nat),
  (s.past 7 = true → s.intc.running = true → Answers .holdModelTrain s fun t =>
    (259200 ≤ s.get F.HOLD_TRAINAGE → t.get F.HOLD_STAT_DFIT = 1) ∧
    (s.get F.HOLD_TRAINAGE < 259200 → t.get F.HOLD_MDL_D = 0 ∧ t.get F.HOLD_MDL_UD = s.get F.HOLD_DPRIOR ∧ t.get F.HOLD_STAT_DFIT = 0) ∧
    (spanOf (s.hold.hours.take (s.get F.HOLD_FITWIN)) < 16 → t.get F.HOLD_MDL_C = 0 ∧ t.get F.HOLD_MDL_UC = s.get F.HOLD_CPRIOR ∧ t.get F.HOLD_STAT_CFIT = 0) ∧
    s.get (F.HOLD_MEMBER_SIGMA s.hosc) ≤ t.get F.HOLD_MDL_UY ∧ (16 ≤ spanOf (s.hold.hours.take (s.get F.HOLD_FITWIN)) → s.get F.HOLD_CTRL_TSRC ≠ 2 →
      t.get F.HOLD_STAT_CFIT = 1) ∧
    t.get F.HOLD_STAT_MDLPEND = s.get F.HOLD_STAT_HOLDOVER ∧ t.get F.HOLD_MDL_GEN = (s.get F.HOLD_MDL_GEN + 1) % 65536 ∧ Raised 36 t ∧ t.hold = s.hold) ∧
  (s.past 6 = true → s.intc.running = true → s.get F.HOLD_TRAINAGE = 86399 → s.slotPresent s.hosc = true →
    s.hold.weights.any (fun p => p.1 < 12 && p.2 ≠ 0 && s.qual p.1 = 3) = true → Answers .trainage24h s fun t =>
    t.get F.HOLD_TRAINAGE = 86400 ∧ Raised 39 t) ∧
  (s.past 6 = true → s.on F.HOLD_STAT_FROZEN = true → s.hold.settled = true → s.active < 12 →
    s.get F.HOLD_CONTRACT * 1000 ≤ s.dpll.selMs → Answers .holdContractExpiry s fun t =>
    t.get F.HOLD_STAT_FROZEN = 0 ∧ t.get F.HOLD_BHOLD = 0 ∧ OnlyRegs [F.HOLD_STAT, F.HOLD_BHOLD] s t) ∧
  (Ready h s → g = s.get F.HOLD_GEN → s.on F.HOLD_STAT_HOLDOVER = false → Answers (.holdRetrain h [w16 g]) s fun t =>
    t.get F.HOLD_MDL_D = 0 ∧ t.get F.HOLD_MDL_UD = s.get F.HOLD_DPRIOR ∧ t.get F.HOLD_MDL_C = 0 ∧ t.get F.HOLD_MDL_UC = s.get F.HOLD_CPRIOR ∧
    t.get F.HOLD_MDL_UY = s.get (F.HOLD_MEMBER_PRIOR s.hosc) ∧ t.get F.HOLD_MDL_T0 = 0 ∧ t.get F.HOLD_TRAINAGE = 0 ∧
    t.get F.HOLD_GEN = (g + 1) % 65536 ∧ Completed h t [w16 (g + 1)]) ∧
  (Ready h s → g = s.get F.HOLD_GEN → s.on F.HOLD_STAT_HOLDOVER = true → Answers (.holdRetrain h [w16 g]) s fun t =>
    Failed h t .notPermitted ∧ OnlyRegs [] s t) ∧
  (Ready h s → g < 65536 → g ≠ s.get F.HOLD_GEN → Answers (.holdRetrain h [w16 g]) s fun t => Failed h t .genConflict ∧ OnlyRegs [] s t)) ∧
  (∀ (s : State) (b : Nat) (dy : Int) (r : List Int), s.past 6 = true → s.intc.running = true →
  (s.get F.HOLD_AOSC_CFG_MODE = 0 → Answers .aoscSteer s fun t => OnlyRegs [] s t ∧ t.hold = s.hold) ∧
  (s.get F.HOLD_AOSC_CFG_MODE ≠ 0 → (s.on F.HOLD_STAT_HOLDOVER = true ∨ s.active < 12 ∧ ((s.scale 12).hfOf 12).isSome = true) →
    Answers .aoscSteer s fun t =>
      t.get F.HOLD_AOSC_CODE ≤ 1048575 ∧
      (t.get F.HOLD_AOSC_CODE ≠ s.get F.HOLD_AOSC_CODE → t.hold.sentCnt = s.hold.sentCnt + (if s.get F.HOLD_AOSC_CFG_MODE ≤ 2 then 1 else 0) ∧
        t.hold.steers = s.hold.steers ++ [((t.get F.HOLD_AOSC_CODE : Int) - s.get F.HOLD_AOSC_CODE) * s.getI F.HOLD_AOSC_SLOPE]) ∧
      (t.get F.HOLD_AOSC_CODE = s.get F.HOLD_AOSC_CODE → t.hold.sentCnt = s.hold.sentCnt ∧ t.hold.steers = s.hold.steers) ∧
      OnlyRegs [F.HOLD_AOSC_CODE, F.HOLD_AOSC_SUM] s t) ∧
  (s.hold.steers = dy :: r → Answers .aoscSteerComp s fun t => t.hold.steers = r ∧
    t.hold.sumTe = s.hold.sumTe + (if s.on F.HOLD_STAT_HOLDOVER then dy else 0) ∧ (s.mode = 3 → t.dpll = s.dpll)) ∧
  (b = s.get F.HOLD_AOSC_ACK → Answers (.aoscAckReceive b) s fun t => t.hold.ackWait = none ∧ t.regs = s.regs) ∧
  (s.hold.ackWait = some false → Answers .aoscAckTimeout s fun t =>
    t.get F.HOLD_AOSC_NOACK = satNat 16 (s.get F.HOLD_AOSC_NOACK + 1) ∧ t.hold.ackWait = some true ∧ t.hold.sentCnt = s.hold.sentCnt + 1) ∧
  (s.hold.ackWait = some true → Answers .aoscAckTimeout s fun t =>
    t.get F.HOLD_AOSC_NOACK = satNat 16 (s.get F.HOLD_AOSC_NOACK + 1) ∧ t.hold.ackWait = none ∧ t.hold.sentCnt = s.hold.sentCnt ∧ Raised 38 t))

/-- HOLD_MODELREPORT predicts nothing at 0 points and completes; else it runs, one point at each step, to the last (R163, R364).
The configuration waybills of HOLD (R163, R138).
Completes by a next state: holdModelreport, modelReportStep, holdCfg, holdMembercfg, holdAosccfg. -/
def Obligations.HoldWaybills : Prop :=
  (∀ (s : State) (h : WbHead) (n m : Nat),
  (Ready h s → m < 65536 → Answers (.holdModelreport h [w16 0, w16 m]) s fun t =>
    Completed h t (s.rdWords F.HOLD_MDL_D.addr 12 ++ s.fw F.HOLD_TRAINAGE) ∧ OnlyRegs [] s t) ∧
  (Ready h s → 1 ≤ n → n ≤ 256 → 1 ≤ m → m < 65536 → Answers (.holdModelreport h [w16 n, w16 m]) s fun t =>
    Accepted h t ∧ t.hold.reports = s.hold.reports ++ [(h, n, m, 0, s.rdWords F.HOLD_MDL_D.addr 12 ++ s.fw F.HOLD_TRAINAGE)]) ∧
  (∀ r, s.past 7 = true → s.canWrite h.ring h.slot = true → s.running h = true → s.hold.reports = [(h, n, m, n - 1, r)] → 1 ≤ n →
    Answers (.modelReportStep h.ring h.slot) s fun t => Completed h t (r ++ s.predict (n * m * 60)) ∧ t.hold.reports = []) ∧
  (∀ r k, s.past 7 = true → s.canWrite h.ring h.slot = true → s.running h = true → s.hold.reports = [(h, n, m, k, r)] → k + 1 < n →
    (s.takenAt h.ring h.slot).any (fun e => e.stopReq || !e.suspReqs.isEmpty) = false →
    Answers (.modelReportStep h.ring h.slot) s fun t => t.hold.reports = [(h, n, m, k + 1, r ++ s.predict ((k + 1) * m * 60))])) ∧
  (∀ (s : State) (h : WbHead) (n hosc ts tau cov sl jt wm ct src pr : Nat), Ready h s →
  (hosc ≤ 2 → ts ≤ 2 → 100 ≤ tau → tau ≤ 10000 → 256 ≤ cov → cov ≤ 4096 → 1 ≤ sl → sl ≤ 1000000000 → 10 ≤ jt → jt ≤ 1000000000 → wm < 65536 →
    1 ≤ ct → ct < 65536 → Answers (.holdCfg h ([w16 (s.get F.HOLD_GEN), w16 (hosc + 4 * ts), w16 tau, w16 cov] ++ wordsOf sl 2 ++ wordsOf jt 2 ++ [w16 wm,
      w16 ct])) s fun t =>
      t.get F.HOLD_CTRL_HOSC = hosc ∧ t.get F.HOLD_CTRL_TSRC = ts ∧ t.get F.HOLD_TAU = tau ∧ t.get F.HOLD_COVER = cov ∧ t.get F.HOLD_SLEWTHR = sl ∧
      t.get F.HOLD_JUMPTHR = jt ∧ t.get F.HOLD_WMAX = wm ∧ t.get F.HOLD_CONTRACT = ct ∧ t.get F.HOLD_GEN = (s.get F.HOLD_GEN + 1) % 65536 ∧
      (hosc = 1 → t.get F.HOLD_STAT_HOSCNOW = 0) ∧ (hosc = 2 → t.get F.HOLD_STAT_HOSCNOW = 1) ∧ Completed h t (t.fw F.HOLD_GEN)) ∧
  (2 ≤ n → n ≤ 7 → (src = 15 ∨ src < 12 ∧ ∀ i, i < 6 → i + 2 ≠ n → s.get (F.HOLD_MEMBER_CFG_SRC (i + 2)) ≠ src) → pr < 4294967296 →
    Answers (.holdMembercfg h ([w16 n, w16 (s.get (F.HOLD_MEMBER_GEN n)), w16 src] ++ wordsOf pr 2)) s fun t =>
      t.get (F.HOLD_MEMBER_CFG_SRC n) = src ∧ t.get (F.HOLD_MEMBER_PRIOR n) = pr ∧ t.get (F.HOLD_MEMBER_NSAMP n) = 0 ∧ t.get (F.HOLD_MEMBER_SIGMA n) = pr ∧
      t.get (F.HOLD_MEMBER_GEN n) = (s.get (F.HOLD_MEMBER_GEN n) + 1) % 65536 ∧ (src < 12 → s.refs.length = 12 → (t.ref src).qualSecs = 0) ∧
      Completed h t (t.fw (F.HOLD_MEMBER_GEN n))) ∧
  (∀ cf ak di slope un si sm, cf < 65536 → cf % 4 ≤ 2 → 7 ≤ cf / 1024 → ak < 256 → di < 1048576 → slope < 4294967296 → un < 4294967296 → 1 ≤ si → si ≤ 3600 →
    sm < 65536 →
    Answers (.holdAosccfg h ([w16 (s.get F.HOLD_AOSC_GEN), w16 cf, w16 ak] ++ wordsOf di 2 ++ wordsOf slope 2 ++ wordsOf un 2 ++ [w16 si, w16 sm])) s fun t =>
      t.get F.HOLD_AOSC_CFG = cf ∧ t.get F.HOLD_AOSC_ACK = ak ∧ t.get F.HOLD_AOSC_DACINIT = di ∧ t.get F.HOLD_AOSC_SLOPE = slope ∧
      t.get F.HOLD_AOSC_UNIT = un ∧ t.get F.HOLD_AOSC_STEERINT = si ∧ t.get F.HOLD_AOSC_STEPMAX = sm ∧ t.get F.HOLD_AOSC_CODE = s.get F.HOLD_AOSC_CODE ∧
      t.get F.HOLD_AOSC_GEN = (s.get F.HOLD_AOSC_GEN + 1) % 65536 ∧ Completed h t [w16 (s.get F.HOLD_AOSC_GEN + 1)]))

/-! ### Timebase (spec/06) -/

/-- A TCORE tick adds the increment to the time and nothing else, unless a leap second falls due (R165, R175).
The beacons of the islands: what is sent, that a received beacon makes the island valid and never sets its time back (R23 to R25), that a
lost one makes it invalid (R27), and that an announced step is made as announced (R26).
Completes by a next state: tcoreTick, leapApply, beaconSend, beaconReceive, beaconLoss, stepBeaconApply. -/
def Obligations.TimeAndBeacons : Prop :=
  (∀ s : State, s.past 6 = true →
  (s.tb.counting = true → s.get F.TBASE_LEAP = 0 → Answers .tcoreTick s fun t =>
    t.tb.time = (s.tb.time + s.get F.TBASE_INCR) % (SEC48 * 2 ^ 64) ∧ t.tb.ticks = s.tb.ticks + 1 ∧ OnlyRegs [] s t) ∧
  (s.tb.counting = false → Answers .tcoreTick s fun t => t.tb = s.tb ∧ OnlyRegs [] s t) ∧
  (∀ u, s.intc.running = true → s.get F.TBASE_LEAP = u → 1 ≤ u → u ≤ 2 → s.get F.TBASE_LEAPSEC ≤ s.tb.time / SEC48 → Answers .leapApply s fun t =>
    t.get F.TBASE_LEAP = 0 ∧ t.get F.TBASE_UTCOFF = (if u = 1 then s.get F.TBASE_UTCOFF + 1 else s.get F.TBASE_UTCOFF + 65535) % 65536 ∧
    t.get F.TBASE_GEN = (s.get F.TBASE_GEN + 1) % 65536 ∧ Raised 51 t ∧ t.tb = s.tb ∧ OnlyRegs [F.TBASE_LEAP, F.TBASE_UTCOFF, F.TBASE_GEN] s t) ∧
  ((s.get F.TBASE_LEAP = 0 ∨ s.tb.time / SEC48 < s.get F.TBASE_LEAPSEC) → Answers .leapApply s fun t => t.tb = s.tb ∧ OnlyRegs [] s t)) ∧
  (∀ (s : State) (i k : Nat), s.past 6 = true → i < 5 → s.tb.islands.length = 5 → s.intc.running = true →
  (Answers .beaconSend s fun t => (at' {} t.tb.islands i).flight = some ⟨s.tb.time / 2 ^ 16 * 2 ^ 16, s.get F.TBASE_INCR * islandPeriod i / 32,
    (at' {} s.tb.islands i).made⟩ ∧
    (∀ k, (at' {} t.tb.islands i).local i k = (at' {} s.tb.islands i).local i k) ∧ t.tb.time = s.tb.time ∧ OnlyRegs [] s t) ∧
  ((at' {} s.tb.islands i).flight.isSome = true → Answers (.beaconReceive i k) s fun t =>
    t.bit F.TBASE_BCNSTAT_VALID i = true ∧ (at' {} s.tb.islands i).localAt k ≤ (at' {} t.tb.islands i).local i t.tb.ticks ∧
      (at' {} t.tb.islands i).flight = none ∧
    (∀ j, j < 5 → j ≠ i → at' {} t.tb.islands j = at' {} s.tb.islands j) ∧ OnlyRegs [F.TBASE_BCNSTAT, F.PKT_SVC, F.PKT_GEN] s t) ∧
  ((at' {} s.tb.islands i).lost = true → Answers (.beaconLoss i) s fun t => t = s) ∧
  ((at' {} s.tb.islands i).lost = false → Answers (.beaconLoss i) s fun t =>
    t.bit F.TBASE_BCNSTAT_VALID i = false ∧ t.bit F.TBASE_BCNSTAT_LOST i = true ∧ t.get F.TBASE_BCNLOSS = satNat 16 (s.get F.TBASE_BCNLOSS + 1) ∧
    (s.bit F.TBASE_BCNSTAT_LOST i = false → Raised 63 t) ∧ (i = 0 → t.get F.PKT_SVC_STATE < 2) ∧ t.tb.time = s.tb.time ∧
    OnlyRegs [F.TBASE_BCNSTAT, F.TBASE_BCNLOSS, F.PKT_SVC, F.PKT_GEN] s t) ∧
  (∀ d ts, (at' {} s.tb.islands i).step = some (d, ts) → (at' {} s.tb.islands i).local i s.tb.ticks < ts → Answers (.stepBeaconApply i) s fun t => t = s) ∧
  (∀ d ts, (at' {} s.tb.islands i).step = some (d, ts) → ts ≤ (at' {} s.tb.islands i).local i s.tb.ticks → Answers (.stepBeaconApply i) s fun t =>
    (at' {} t.tb.islands i).base = jump ((at' {} s.tb.islands i).local i s.tb.ticks) d ∧ (at' {} t.tb.islands i).tick0 = s.tb.ticks ∧
      (at' {} t.tb.islands i).step = none ∧ t.tb.time = s.tb.time ∧ OnlyRegs [] s t))

/-- PPS_OUT and CLKOUT (R178, R180).
Event outputs (R183, R184): the next entry arms, its late edges counted; an edge drives the pin for its width.
A capture edge is stamped, lost to a full FIFO, dropped within 6.4 ns of the last, or not selected (R186).
Completes by a next state: ppsEdge, clkoutAlignCheck, evtArm, evtEdge, capEdge. -/
def Obligations.OutputsAndCaptures : Prop :=
  (∀ (s : State) (n : Nat) (ps : Int), s.past 6 = true → s.intc.running = true →
  (s.tb.pps.last.any (fun k => s.tb.ticks < k + 312500000) = true → Answers .ppsEdge s fun t =>
    t.get F.TBASE_PPS_SUPCNT = satNat 16 (s.get F.TBASE_PPS_SUPCNT + 1) ∧ t.tb = s.tb ∧ OnlyRegs [F.TBASE_PPS_SUPCNT] s t) ∧
  (s.tb.pps.last.any (fun k => s.tb.ticks < k + 312500000) = false → Answers .ppsEdge s fun t => Raised 48 t ∧ t.tb.pps.last = some s.tb.ticks ∧
    t.tb.pps.highFrom = s.ppsTarget ∧ t.tb.pps.highUntil = s.ppsTarget + s.get F.TBASE_PPS_WIDTH * 1000 * NS48 ∧ OnlyRegs [] s t) ∧
  (n < 4 → s.tb.realign.length = 4 → s.tb.interp.length = 4 → -2147483648 ≤ ps → ps < 2147483648 → s.on (F.TBASE_CLK_CFG_EN n) = true →
    s.on (F.TBASE_CLK_CFG_ALIGN n) = true → s.on (F.APLL_PLL_LOCK_SQUELCH 2) = false → s.clkWaits n = false → Answers (.clkoutAlignCheck n ps) s fun t =>
    t.getI (F.TBASE_CLK_PHERR n) = ps ∧ t.get (F.TBASE_CLK_STAT_ALIGNED n) = (if ps.natAbs ≤ s.get (F.TBASE_CLK_ALIGNTOL n) then 1 else 0) ∧
    t.tb.realign.getD n none = (if s.get (F.TBASE_CLK_ALIGNTOL n) < ps.natAbs then some (s.clkNext n) else none) ∧
    (s.get (F.TBASE_CLK_ALIGNTOL n) < ps.natAbs → t.get (F.TBASE_CLK_STAT_ALIGNFLT n) = 1 ∧ (s.on (F.TBASE_CLK_STAT_ALIGNFLT n) = false → Raised 55 t)) ∧
    (t.tb.interp.getD n 0 - s.tb.interp.getD n 0).natAbs ≤ 1 ∧ t.tb.time = s.tb.time ∧ OnlyRegs [F.TBASE_CLK_PHERR n, F.TBASE_CLK_STAT n] s t) ∧
  ((s.on (F.TBASE_CLK_CFG_EN n) = false ∨ s.on (F.TBASE_CLK_CFG_ALIGN n) = false ∨ s.on (F.APLL_PLL_LOCK_SQUELCH 2) = true ∨ s.clkWaits n = true) →
    Answers (.clkoutAlignCheck n ps) s fun t => t = s)) ∧
  (∀ (s : State) (n : Nat), s.past 6 = true → n < 16 → s.tb.evts.length = 16 →
  s.intc.running = true →
  (∀ e q, (s.evt n).queue = e :: q → (s.evt n).cur = none → s.tb.time + 8 * s.get F.TBASE_INCR ≤ e.next → 0 < e.count - e.k → Answers (.evtArm n) s fun t =>
    (t.evt n).cur = some e ∧ (t.evt n).queue = q ∧ OnlyRegs [] s t) ∧
  (∀ e q, (s.evt n).queue = e :: q → (s.evt n).cur = none → e.next < s.tb.time + 8 * s.get F.TBASE_INCR → (e.cont = true ∨ e.k < e.count) →
    Answers (.evtArm n) s fun t => s.get (F.TBASE_EVT_LATECNT n) ≤ t.get (F.TBASE_EVT_LATECNT n) ∧ Raised 52 t ∧ (t.evt n).queue = q ∧
    (∀ e', (t.evt n).cur = some e' → e.k < e'.k ∧ (0 < e.period → s.tb.time + 8 * s.get F.TBASE_INCR ≤ e'.next)) ∧
    OnlyRegs [F.TBASE_EVT_LATECNT n] s t) ∧
  (∀ e', (s.evt n).cur = some e' → (e'.cont = true ∨ e'.k + 1 < e'.count) → Answers (.evtEdge n) s fun t =>
    (t.evt n).cur = some { e' with k := e'.k + 1, emitted := e'.emitted + 1 } ∧ (t.evt n).highFrom = e'.next ∧
      (t.evt n).highUntil = some (e'.next + e'.width * NS48) ∧ OnlyRegs [] s t) ∧
  (∀ e', (s.evt n).cur = some e' → e'.cont = false → e'.count ≤ e'.k + 1 → Answers (.evtEdge n) s fun t =>
    (t.evt n).cur = none ∧ (t.evt n).highUntil = some (e'.next + e'.width * NS48) ∧
    (s.on (F.TBASE_EVT_CFG_DONEIRQ n) = true → Raised 54 t) ∧ OnlyRegs [] s t)) ∧
  (∀ (s : State) (n tick c : Nat) (r : Bool), s.past 6 = true → n < 8 → s.tb.caps.length = 8 → s.intc.running = true →
  s.tb.load = none → ∀ x, s.edgeAt 32 (24 + n) tick c = x →
  (s.bit (F.TBASE_CAP_CFG_EDGE n) (if r then 0 else 1) = false → Answers (.capEdge n r tick c) s fun t => t.tb = s.tb ∧ OnlyRegs [] s t) ∧
  (s.bit (F.TBASE_CAP_CFG_EDGE n) (if r then 0 else 1) = true → (s.cap n).last.any (fun l => l ≤ x && x < l + capDead) = true →
    Answers (.capEdge n r tick c) s fun t => t.tb = s.tb ∧ t.get (F.TBASE_CAP_DEADCNT n) = satNat 16 (s.get (F.TBASE_CAP_DEADCNT n) + 1) ∧ Raised 57 t ∧
      OnlyRegs [F.TBASE_CAP_DEADCNT n] s t) ∧
  (s.bit (F.TBASE_CAP_CFG_EDGE n) (if r then 0 else 1) = true → (s.cap n).last.any (fun l => l ≤ x && x < l + capDead) = false →
    (s.cap n).fifo.length < 256 → Answers (.capEdge n r tick c) s fun t =>
      t.cap n = { fifo := (s.cap n).fifo ++ [⟨x, r, (s.cap n).ovf, s.on F.TBASE_STAT_TIMESET, s.get F.TBASE_STEPCNT % 256⟩], last := some x, ovf := false } ∧
      OnlyRegs [] s t) ∧
  (s.bit (F.TBASE_CAP_CFG_EDGE n) (if r then 0 else 1) = true → (s.cap n).last.any (fun l => l ≤ x && x < l + capDead) = false →
    256 ≤ (s.cap n).fifo.length → Answers (.capEdge n r tick c) s fun t =>
      (t.cap n).fifo = (s.cap n).fifo ∧ t.get (F.TBASE_CAP_OVFCNT n) = satNat 16 (s.get (F.TBASE_CAP_OVFCNT n) + 1) ∧ Raised 57 t ∧
      OnlyRegs [F.TBASE_CAP_OVFCNT n] s t))

/-- Time is set once: the waybill asks, the announced load is made, and thereafter a load or a request of one is refused (R168, R169).
The authorised step (R171): TBASE_AUTHSTEP is accepted in PHASEHOLD with the step that is held, and not while an accepted one waits; what is applied moves the time by the
negative of the held step, counts it, and the loop tracks again.
Completes by a next state: timeLoad, tbaseSettime, settimeEdgeTimeout, tbaseAuthstep, authstepApply. -/
def Obligations.SettingTime : Prop :=
  (∀ (s : State) (h : WbHead) (sec ns u c : Nat),
  (∀ l, s.tb.load = some l → s.past 7 = true → l.ts.any (fun x => x ≤ s.tb.time) = true → s.on F.TBASE_STAT_TIMESET = false → l.src < 4 →
    s.intc.running = true →
    (l.wb = none ∨ l.gen.all (fun g => s.get F.TBASE_GEN = g) = true) → Answers .timeLoad s fun t =>
    t.get F.TBASE_STAT_TIMESET = 1 ∧ t.get F.TBASE_STAT_SRC = l.src ∧
    (s.get F.TBASE_LEAP = 0 → t.get F.TBASE_GEN = (s.get F.TBASE_GEN + 1) % 65536) ∧
    (∀ e, l.edge = some e → (e : Int) ≤ s.tb.time + l.goal → (t.tb.time : Int) = s.tb.time + l.goal - e) ∧ (l.edge = none → t.tb.time = l.goal) ∧
    t.tb.load = none ∧ t.tb.setUnc = l.unc ∧ Raised 49 t ∧ t.get F.TBASE_STEPCNT = s.get F.TBASE_STEPCNT) ∧
  (∀ l, s.tb.load = some l → l.ts.any (fun x => x ≤ s.tb.time) = false → Answers .timeLoad s fun t => t = s) ∧
  (∀ l, s.tb.load = some l → s.past 7 = true → l.ts.any (fun x => x ≤ s.tb.time) = true → s.on F.TBASE_STAT_TIMESET = false →
    ∀ w, l.wb = some w → l.gen.any (fun g => s.get F.TBASE_GEN ≠ g) = true → s.canWrite w.ring w.slot = true → Answers .timeLoad s fun t =>
      Failed w t .genConflict ∧ t.tb.time = s.tb.time ∧ t.tb.load = none ∧ OnlyRegs [] s t) ∧
  (s.on F.TBASE_STAT_TIMESET = true → Answers .timeLoad s fun t => t = s) ∧
  (Ready h s → s.on F.TBASE_STAT_TIMESET = true → ns < 1000000000 →
    Answers (.tbaseSettime h ([w16 (s.get F.TBASE_GEN), 0, 0] ++ wordsOf sec 4 ++ wordsOf ns 2 ++ wordsOf u 2)) s fun t =>
    Failed h t .notPermitted ∧ t.tb = s.tb) ∧
  (Ready h s → s.on F.TBASE_STAT_TIMESET = false → s.tb.load = none → ns < 1000000000 → sec < 2 ^ 64 → u < 2 ^ 32 →
    Answers (.tbaseSettime h ([w16 (s.get F.TBASE_GEN), 0, 0] ++ wordsOf sec 4 ++ wordsOf ns 2 ++ wordsOf u 2)) s fun t =>
    t.tb.load = some ⟨2, 0, 0, sec * SEC48 + ns * NS48, none, some (s.tb.time + 64 * s.get F.TBASE_INCR), u * 1000, some h, some (s.get F.TBASE_GEN)⟩ ∧
      t.tb.time = s.tb.time ∧
    OnlyRegs [] s t) ∧
  (Ready h s → s.on F.TBASE_STAT_TIMESET = false → s.tb.load = none → ns < 2 ^ 32 → c < 8 → sec < 2 ^ 64 → u < 2 ^ 32 →
    Answers (.tbaseSettime h ([w16 (s.get F.TBASE_GEN), 1, w16 c] ++ wordsOf sec 4 ++ wordsOf ns 2 ++ wordsOf u 2)) s fun t =>
    t.tb.load = some ⟨2, 1, c, sec * SEC48, none, none, u * 1000, some h, some (s.get F.TBASE_GEN)⟩ ∧ t.tb.islands = s.tb.islands ∧ OnlyRegs [] s t) ∧
  (∀ l, s.tb.load = some l → ∀ w, l.wb = some w → l.src = 2 → l.mode = 1 → l.edge = none → s.canWrite w.ring w.slot = true →
    Answers .settimeEdgeTimeout s fun t =>
    Failed w t .timeout ∧ t.tb.load = none)) ∧
  (∀ (s : State) (h : WbHead), ∀ hs, s.get F.TBASE_HELD = hs →
  (Ready h s → s.mode = 2 → s.tb.astep = none → Answers (.tbaseAuthstep h ([w16 (s.get F.DPLL_GEN)] ++ wordsOf hs 5)) s fun t =>
    t.tb.astep = some { wb := some h, gen := s.get F.DPLL_GEN } ∧ t.tb.time = s.tb.time ∧ t.mode = 2 ∧ OnlyRegs [] s t) ∧
  (Ready h s → (s.mode ≠ 2 ∨ s.tb.astep.isSome = true) → Answers (.tbaseAuthstep h ([w16 (s.get F.DPLL_GEN)] ++ wordsOf hs 5)) s fun t =>
    Failed h t .notPermitted ∧ t.tb = s.tb ∧ OnlyRegs [] s t) ∧
  (∀ x, s.mgmt.taken = [x] → x.started = true → x.w0.toNat / 64 = 0xC1 → x.ring ≠ h.ring → s.tb.astep.isSome = true → s.intc.running = true →
    s.mgmtFenced = false → s.latchesWf = true → h.flags < 8 → s.seq.st = .running → s.canWrite h.ring h.slot = true →
    Answers (.tbaseAuthstep h ([w16 (s.get F.DPLL_GEN)] ++ wordsOf hs 5)) s fun t =>
    Failed h t .notPermitted ∧ t.tb = s.tb ∧ t.mgmt.taken = [x] ∧ OnlyRegs [] s t) ∧
  (∀ x, x ≠ hs → x < 2 ^ 80 → Ready h s → Answers (.tbaseAuthstep h ([w16 (s.get F.DPLL_GEN)] ++ wordsOf x 5)) s fun t =>
    Failed h t .notPermitted ∧ t.tb = s.tb ∧ OnlyRegs [] s t) ∧
  (∀ a, s.tb.astep = some a → a.ann = none → a.gen = s.get F.DPLL_GEN → s.past 7 = true → s.mode = 2 → Answers .authstepApply s fun t =>
    t.tb.astep = some { a with ann := some (-s.getI F.TBASE_HELD * 4294967296, s.tb.time + 64 * s.get F.TBASE_INCR) } ∧ t.tb.time = s.tb.time ∧ t.mode = 2 ∧
    (∀ i, i < s.tb.islands.length → (at' {} t.tb.islands i).step = some (-s.getI F.TBASE_HELD * 4294967296, s.tb.time + 64 * s.get F.TBASE_INCR)) ∧
      OnlyRegs [] s t) ∧
  (∀ a, s.tb.astep = some a → a.ann.any (fun x => s.tb.time < x.2) = true → Answers .authstepApply s fun t => t.tb = s.tb ∧ OnlyRegs [] s t) ∧
  (∀ a, s.tb.astep = some a → ∀ d ts, a.ann = some (d, ts) → ∀ w, a.wb = some w → ts ≤ s.tb.time → s.past 7 = true → s.intc.running = true →
    s.canWrite w.ring w.slot = true →
    d % 4294967296 = 0 → -2 ^ 111 ≤ d → d < 2 ^ 111 → Answers .authstepApply s fun t =>
    (0 ≤ (s.tb.time : Int) + d → (t.tb.time : Int) = s.tb.time + d) ∧
    t.getI F.TBASE_LASTSTEP = d / 4294967296 ∧ t.get F.TBASE_STEPCNT = (s.get F.TBASE_STEPCNT + 1) % 65536 ∧ t.get F.TBASE_HELD = 0 ∧ t.mode = 1 ∧
    t.tb.astep = none ∧ Raised 50 t ∧ Completed w t (t.fw F.DPLL_GEN ++ t.fw F.TBASE_LASTSTEP ++ t.fw F.TBASE_STEPCNT)) ∧
  (∀ a, s.tb.astep = some a → a.ann = none → ∀ w, a.wb = some w → s.past 7 = true → s.canWrite w.ring w.slot = true →
    (a.gen ≠ s.get F.DPLL_GEN → Answers .authstepApply s fun t => Failed w t .genConflict ∧ t.tb = { s.tb with astep := none }) ∧
    (a.gen = s.get F.DPLL_GEN → s.mode ≠ 2 → Answers .authstepApply s fun t => Failed w t .notPermitted ∧ t.tb = { s.tb with astep := none })))

/-- The other waybills of TBASE (R175, R183, R190).
Completes by a next state: tbaseLeapcfg, tbaseEvtsched, tbaseEvtcancel, tbaseCapread, tbaseReport. -/
def Obligations.TimeWaybills : Prop := ∀ (s : State) (h : WbHead) (n u p sec st pe ct wd cn w k : Nat) (ps : List Word), Ready h s →
  (u < 65536 → p ≤ 2 → sec < 2 ^ 64 → Answers (.tbaseLeapcfg h ([w16 (s.get F.TBASE_GEN), w16 u, w16 p] ++ wordsOf sec 4)) s fun t =>
    t.get F.TBASE_UTCOFF = u ∧ t.get F.TBASE_LEAP = p ∧ t.get F.TBASE_LEAPSEC = sec ∧ t.get F.TBASE_GEN = (s.get F.TBASE_GEN + 1) % 65536 ∧
    Completed h t [w16 (s.get F.TBASE_GEN + 1)] ∧ t.tb = s.tb ∧ OnlyRegs [F.TBASE_UTCOFF, F.TBASE_LEAP, F.TBASE_LEAPSEC, F.TBASE_GEN] s t) ∧
  (n < 16 → s.tb.evts.length = 16 → (s.evt n).queue.length < 4 → s.on F.TBASE_STAT_TIMESET = true → st < 2 ^ 128 → st / 2 ^ 32 % 2 ^ 32 < 1000000000 →
    pe < 2 ^ 48 → ct < 2 ^ 32 → 4 ≤ wd → wd < 2 ^ 32 → wd * 65536 < pe → cn < 2 →
    Answers (.tbaseEvtsched h ([w16 n, w16 (s.get F.TBASE_GEN)] ++ wordsOf st 8 ++ wordsOf pe 3 ++ wordsOf ct 2 ++ wordsOf wd 2 ++ [w16 cn])) s fun t =>
      (t.evt n).queue = (s.evt n).queue ++ [{ start := ofTime128 st, period := pe, count := ct, width := wd, cont := cn = 1 }] ∧
      (t.evt n).cur = (s.evt n).cur ∧ t.get F.TBASE_GEN = (s.get F.TBASE_GEN + 1) % 65536 ∧
      Completed h t [w16 (s.get F.TBASE_GEN + 1), w16 ((s.evt n).queue.length + 1)] ∧ OnlyRegs [F.TBASE_GEN] s t) ∧
  (n < 16 → w < 2 → s.tb.evts.length = 16 → Answers (.tbaseEvtcancel h [w16 n, w16 (s.get F.TBASE_GEN), w16 w]) s fun t =>
    (t.evt n).queue = [] ∧ (t.evt n).cur = (if w = 0 then none else (s.evt n).cur) ∧ (t.evt n).highUntil = (s.evt n).highUntil ∧
    t.get F.TBASE_GEN = (s.get F.TBASE_GEN + 1) % 65536 ∧
    Completed h t (w16 (s.get F.TBASE_GEN + 1) :: wordsOf (((s.evt n).cur.map EvtEntry.emitted).getD 0) 2) ∧ OnlyRegs [F.TBASE_GEN] s t) ∧
  (n < 8 → k ≤ 28 → s.tb.caps.length = 8 → Answers (.tbaseCapread h [w16 n, w16 k]) s fun t =>
    (t.cap n).fifo = (s.cap n).fifo.drop k ∧
    Completed h t (((s.cap n).fifo.take k).flatMap (fun x => w16 x.pop :: wordsOf (time128 (x.time * 2 ^ 16)) 8)) ∧ OnlyRegs [F.TBASE_CAP_STAMP n] s t) ∧
  (Answers (.tbaseReport h ps) s fun t =>
    Completed h t (wordsOf (time128 s.tb.time) 8 ++ [w16 (putBits (s.rd F.TBASE_STAT.addr).toNat 4 1 (s.get F.TBASE_STAT_TIMESET)), s.rd
      F.TBASE_STEPCNT.addr] ++ s.fw F.TBASE_HELD ++ [s.rd F.TBASE_UTCOFF.addr]) ∧
    OnlyRegs [] s t)

/-! ### Interval counter (spec/07) -/

/-- A TIC edge is not selected, dropped within 3.2 ns of the last, or stamped; a stamp enters the FIFO less the channel's delay (R193 to R195, R206).
The decision of a stop and the close of a gate (R202 to R204): an interval is measured from the latest start within the window, corrections
applied; a stop without one is an orphan; a gate gives the frequency against FNOM.
The end of a statistics run at its timeout: ABORTED with what it counted (R207).
Completes by a next state: ticEdge, ticStopDecide, ticGateClose, statrunTimeout. -/
def Obligations.IntervalMeasurements : Prop :=
  (∀ (s : State) (ch tick c : Nat) (r : Bool), s.past 6 = true → ch < 16 → s.tic.chans.length = 16 → s.intc.running = true →
  (s.ticSelects ch r = false → Answers (.ticEdge ch r tick c) s fun t => t.tic = s.tic ∧ OnlyRegs [] s t) ∧
  (s.ticSelects ch r = true → s.counted ch = false → ch ≠ 8 →
    (s.ticCh ch).last.any (fun l => l ≤ s.stampOf ch tick c && s.stampOf ch tick c < l + ticDead) = true →
    Answers (.ticEdge ch r tick c) s fun t => t.tic.chans = s.tic.chans ∧ t.get (F.TIC_CH_DEADCNT ch) = satNat 16 (s.get (F.TIC_CH_DEADCNT ch) + 1) ∧
      OnlyRegs [F.TIC_CH_DEADCNT ch] s t) ∧
  (s.ticSelects ch r = true → s.counted ch = true → s.gateDue ch = false → s.tic.units.length = 4 → Answers (.ticEdge ch r tick c) s fun t =>
    t.tic.chans = s.tic.chans ∧ OnlyRegs [] s t ∧
      (∀ u, u < 4 → t.meas u = if s.freqUnit u && s.get (F.TIC_MEAS_CFG_START u) = ch then { s.meas u with cnt := (s.meas u).cnt + 1 } else s.meas u)) ∧
  (∀ u, u < 4 → s.ticSelects ch r = true → s.freqUnit u = true → s.get (F.TIC_MEAS_CFG_START u) = ch → s.tic.units.length = 4 →
    s.on (F.TIC_MEAS_CFG_REFSEL u) = false → (s.meas u).gate.isNone || (s.meas u).due → Answers (.ticEdge ch r tick c) s fun t =>
      (t.ticCh ch).last = some (s.stampOf ch tick c) ∧ (t.meas u).gate = some (s.stampOf ch tick c) ∧ (t.meas u).cnt = 0 ∧ (t.meas u).due = false ∧
      (∀ a, (s.meas u).gate = some a → a < s.stampOf ch tick c → 1 ≤ s.get (F.TIC_MEAS_FNOM u) →
        t.get (F.TIC_MEAS_RESCNT u) = (s.get (F.TIC_MEAS_RESCNT u) + 1) % 4294967296 ∧ t.getI (F.TIC_MEAS_LAST u) =
          satSigned 64 (roundDiv ((((s.meas u).cnt + 1) * 4096000000000 * 10 ^ 18 : Nat) : Int) ((s.stampOf ch tick c - a) * s.get (F.TIC_MEAS_FNOM u)) - 10
            ^ 18))) ∧
  (s.ticSelects ch r = true → s.counted ch = false → (ch = 8 ∨
    (s.ticCh ch).last.any (fun l => l ≤ s.stampOf ch tick c && s.stampOf ch tick c < l + ticDead) = false) →
    Answers (.ticEdge ch r tick c) s fun t => (t.ticCh ch).last = some (s.stampOf ch tick c) ∧
      (s.on (F.TIC_CH_CFG_FIFOEN ch) = true → (s.ticCh ch).fifo.length < 4096 → (t.ticCh ch).fifo = (s.ticCh ch).fifo ++
        [⟨jump (s.stampOf ch tick c) (-(s.getI (F.TIC_CH_DELAY ch))) * 2 ^ 20, r, (s.ticCh ch).ovf, s.on F.TBASE_STAT_TIMESET, s.get F.TBASE_STEPCNT % 256⟩]) ∧
      (s.on (F.TIC_CH_CFG_FIFOEN ch) = true → 4096 ≤ (s.ticCh ch).fifo.length → (t.ticCh ch).fifo = (s.ticCh ch).fifo ∧
        t.get (F.TIC_CH_OVFCNT ch) = satNat 16 (s.get (F.TIC_CH_OVFCNT ch) + 1) ∧ Raised 68 t) ∧
      (s.on (F.TIC_CH_CFG_FIFOEN ch) = false → (t.ticCh ch).fifo = (s.ticCh ch).fifo) ∧ (∀ k, k < 16 → k ≠ ch → t.ticCh k = s.ticCh k))) ∧
  (∀ (s : State) (u : Nat), s.past 6 = true → u < 4 → s.tic.units.length = 4 → s.intc.running = true →
  (∀ x r, (s.meas u).stops = x :: r → (s.meas u).arms.all (fun a => !(a ≤ x + 1 && x ≤ a + max (s.get (F.TIC_MEAS_ARMWIN u) * 4096) 1)) = true →
    Answers (.ticStopDecide u) s fun t => t.get (F.TIC_MEAS_ORPHCNT u) = satNat 16 (s.get (F.TIC_MEAS_ORPHCNT u) + 1) ∧ (s.get (F.TIC_MEAS_ORPHCNT u) = 0 →
      Raised 69 t) ∧ (t.meas u).stops = r ∧
      (t.meas u).arms = (s.meas u).arms ∧ OnlyRegs [F.TIC_MEAS_ORPHCNT u] s t) ∧
  (∀ x r, (s.meas u).stops = x :: r → ∀ a, a ∈ (s.meas u).arms → a ≤ x + 1 → x ≤ a + max (s.get (F.TIC_MEAS_ARMWIN u) * 4096) 1 → x < 2 ^ 62 →
    Answers (.ticStopDecide u) s fun t => t.get (F.TIC_MEAS_RESCNT u) = (s.get (F.TIC_MEAS_RESCNT u) + 1) % 4294967296 ∧ t.get (F.TIC_MEAS_STAT_NEW u) = 1 ∧
      (t.meas u).stops = r ∧ t.getI (F.TIC_MEAS_LAST u) ≤ (x : Int) - a -
        (s.getI (F.TIC_CH_DELAY (s.get (F.TIC_MEAS_CFG_STOP u))) - s.getI (F.TIC_CH_DELAY (s.get (F.TIC_MEAS_CFG_START u)))) ∧
      ((t.meas u).arms.length = if s.on (F.TIC_MEAS_CFG_MULTI u) then (s.meas u).arms.length else (s.meas u).arms.length - 1)) ∧
  (s.get (F.TIC_MEAS_CFG_MODE u) = 3 → s.get (F.TIC_MEAS_SPAN u) ≠ 0 → Answers (.ticGateClose u) s fun t =>
    t.meas u = { s.meas u with due := (s.meas u).gate.isSome } ∧ OnlyRegs [] s t)) ∧
  (∀ (s : State) (u : Nat), s.past 7 = true → u < 4 → s.tic.units.length = 4 → s.intc.running = true →
  (∀ x, (s.meas u).run = some x → x.timeout ≠ 0 → s.canWrite x.wb.ring x.wb.slot = true → Answers (.statrunTimeout u) s fun t =>
    (t.meas u).run = none ∧ t.get (F.TIC_MEAS_STAT_STATRUN u) = 0 ∧ Raised 70 t ∧ Shows x.wb t .aborted .timeout (x.words (s.statScale u)) ∧
    OnlyRegs [F.TIC_MEAS_STAT u] s t) ∧
  ((s.meas u).run.all (fun x => x.timeout = 0) = true → Answers (.statrunTimeout u) s fun t => t.tic = s.tic ∧ t.regs = s.regs))

/-- Background calibration (R197, R198).
The crystal witness and the daily trim (R200, R201).
Completes by a next state: ticCalTempTrigger, ticCalComplete, ticCalSwap, ticCalrun, ticCalreport, xtalWitness, xtalTrim, ticXtalreport. -/
def Obligations.Calibration : Prop :=
  (∀ (s : State) (h : WbHead) (hs ag : List (List Nat)) (tj : Int) (i a n : Nat), s.intc.running = true →
  (s.past 5 = true → -32768 ≤ tj → tj < 32768 → Answers (.ticCalTempTrigger tj) s fun t => t.getI F.PSU_TJ = tj ∧ t.get F.TIC_CALSTAT_RUNNING =
    (if s.on F.TIC_CTRL && decide (s.get F.TIC_CALDT < (tj - s.getI F.TIC_CALTEMP).natAbs) then 1 else s.get F.TIC_CALSTAT_RUNNING) ∧
    OnlyRegs [F.PSU_TJ, F.TIC_CALSTAT] s t) ∧
  (s.past 5 = true → s.on F.TIC_CALSTAT_RUNNING = true → s.tic.swap = false →
    (List.range 32).all (fun k => calPass (at' [] hs k) || calPass (at' [] ag k)) = true →
    Answers (.ticCalComplete hs ag) s fun t => t.tic.swap = true ∧
      (∀ k, k < 32 → t.hitsOf (s.standby * 32 + k) = if calPass (at' [] hs k) then at' [] hs k else at' [] ag k) ∧ OnlyRegs [] s t) ∧
  (s.past 5 = true → s.on F.TIC_CALSTAT_RUNNING = true → s.tic.swap = false →
    (List.range 32).any (fun k => !calPass (at' [] hs k) && !calPass (at' [] ag k)) = true →
    Answers (.ticCalComplete hs ag) s fun t => t.get F.TIC_CALSTAT_FAILED = 1 ∧ t.get F.TIC_CALSTAT_RUNNING = 0 ∧
      t.get F.TIC_CALSTAT_SET = s.get F.TIC_CALSTAT_SET ∧
      Raised 65 t ∧ t.tic.waiters = [] ∧ t.tic.swap = false ∧ OnlyRegs [F.TIC_CALSTAT] s t) ∧
  (s.past 5 = true → s.tic.swap = true → Answers .ticCalSwap s fun t => t.get F.TIC_CALSTAT_SET = 1 - s.get F.TIC_CALSTAT_SET ∧
    t.get F.TIC_CALSTAT_RUNNING = 0 ∧ t.get F.TIC_CALSTAT_VALID = 1 ∧ t.get F.TIC_CALTEMP = s.get F.PSU_TJ ∧
    t.get F.TIC_CALGEN = (s.get F.TIC_CALGEN + 1) % 65536 ∧ Raised 66 t ∧ t.tic.swap = false ∧ t.tic.hits = s.tic.hits ∧
    OnlyRegs [F.TIC_CALSTAT, F.TIC_CALTEMP, F.TIC_CALGEN] s t) ∧
  (Ready h s → (∀ w ∈ s.tic.waiters, w.ring ≠ h.ring ∨ w.slot ≠ h.slot) → Answers (.ticCalrun h []) s fun t => t.get F.TIC_CALSTAT_RUNNING = 1 ∧
    t.tic.waiters = s.tic.waiters ++ [h] ∧ Shows h t .running .ok [] ∧
    OnlyRegs [F.TIC_CALSTAT] s t) ∧
  (Ready h s → i < 64 → n ≤ 64 → a < 65536 → Answers (.ticCalreport h [w16 i, w16 a, w16 n]) s fun t =>
    Completed h t ((List.range n).map (fun k => w16 (satNat 16 ((16 * (s.hitsOf i).getD (a + k) 0 + 5) / 10)))) ∧ t.tic = s.tic ∧ OnlyRegs [] s t)) ∧
  (∀ (s : State) (h : WbHead) (y : Int) (ps : List Word), s.intc.running = true →
  (s.past 6 = true → s.on F.RMON_WITNESS_FVALID = true → Answers (.xtalWitness y) s fun t =>
    t.getI F.TIC_XWIT = satSigned 32 ((s.xtalFreq y * 1000000000 - s.oscFreq 13) / 1000000000000) ∧ t.tic.noTest = false ∧
    t.get F.TIC_XWSTAT_VALID = (if s.tic.noTest then 0 else 1) ∧
    (s.tic.noTest = false → s.get F.TIC_XWLIM * 1000 < ((s.xtalFreq y * 1000000000 - s.oscFreq 13) / 1000000000000).natAbs →
      t.get F.TIC_XWSTAT_EXCEED = 1 ∧ t.get F.TIC_XWCNT = satNat 16 (s.get F.TIC_XWCNT + 1) ∧ Raised 71 t) ∧ t.hold = s.hold ∧
    OnlyRegs [F.TIC_XWIT, F.TIC_XWSTAT, F.TIC_XWCNT] s t) ∧
  (s.past 7 = true → 86400 ≤ s.get F.HOLD_TRAINAGE → s.on F.HOLD_STAT_HOLDOVER = false → s.get F.APLL_BYPSTAT_MAP = 0 →
    -20000 ≤ s.getI F.TIC_XTAL_TRIM → s.getI F.TIC_XTAL_TRIM ≤ 20000 → Answers .xtalTrim s fun t =>
    t.tic.f1Sum = 0 ∧ t.tic.f1Cnt = 0 ∧ (t.getI F.TIC_XTAL_TRIM - s.getI F.TIC_XTAL_TRIM).natAbs ≤ 100 ∧ (t.getI F.TIC_XTAL_TRIM).natAbs ≤ 20000 ∧
    (t.get F.TIC_XTAL_TRIM ≠ s.get F.TIC_XTAL_TRIM → Raised 72 t ∧ t.tic.noTest = true)) ∧
  (s.past 7 = true → (s.get F.HOLD_TRAINAGE < 86400 ∨ s.on F.HOLD_STAT_HOLDOVER = true ∨ s.get F.APLL_BYPSTAT_MAP ≠ 0) → Answers .xtalTrim s fun t =>
    t.tic = { s.tic with f1Sum := 0, f1Cnt := 0 } ∧ t.regs = s.regs ∧ t.hold = s.hold) ∧
  (Ready h s → Answers (.ticXtalreport h ps) s fun t =>
    Completed h t (s.fw F.TIC_XTAL_TRIM ++ s.fw F.TIC_XWIT ++ s.fw F.TIC_XWSTAT ++ s.fw (F.HOLD_MEMBER_FREQ 1)) ∧ OnlyRegs [] s t))

/-- The waybills of TIC (R207, R210).
Completes by a next state: ticCfg, ticChcfg, ticMeascfg, ticStatrun, ticStatstop, ticStampread. -/
def Obligations.TicWaybills : Prop := ∀ (s : State) (h : WbHead) (u n k ac dt xl cf dl aw sp fn : Nat), Ready h s →
  (ac < 2 → 8 ≤ dt → dt ≤ 400 → 1 ≤ xl → xl < 65536 → Answers (.ticCfg h [w16 (s.get F.TIC_GEN), w16 ac, w16 dt, w16 xl]) s fun t =>
    t.get F.TIC_CTRL = ac ∧ t.get F.TIC_CALDT = dt ∧ t.get F.TIC_XWLIM = xl ∧ t.get F.TIC_GEN = (s.get F.TIC_GEN + 1) % 65536 ∧
    Completed h t [w16 (s.get F.TIC_GEN + 1)] ∧ OnlyRegs [F.TIC_CTRL, F.TIC_CALDT, F.TIC_XWLIM, F.TIC_GEN] s t) ∧
  (n < 16 → cf < 65536 → dl < 2 ^ 32 → Answers (.ticChcfg h ([w16 n, w16 (s.get F.TIC_GEN), w16 cf] ++ wordsOf dl 2)) s fun t =>
    t.get (F.TIC_CH_CFG_EDGE n) = (if n < 8 then cf % 4 else 1) ∧ t.get (F.TIC_CH_CFG_FIFOEN n) = cf / 4 % 2 ∧ t.get (F.TIC_CH_CFG_WMARKM1 n) = cf / 16 ∧
    t.get (F.TIC_CH_DELAY n) = dl ∧ t.get F.TIC_GEN = (s.get F.TIC_GEN + 1) % 65536 ∧ t.tic = s.tic ∧ Completed h t [w16 (s.get F.TIC_GEN + 1)] ∧
    OnlyRegs [F.TIC_CH_CFG n, F.TIC_CH_DELAY n, F.TIC_GEN] s t) ∧
  (u < 4 → s.tic.units.length = 4 → cf < 4096 → aw < 2 ^ 32 → sp < 65536 → 1 ≤ fn → fn ≤ 800000000 →
    Answers (.ticMeascfg h ([w16 u, w16 (s.get F.TIC_GEN), w16 cf] ++ wordsOf aw 2 ++ [w16 sp] ++ wordsOf fn 2)) s fun t =>
    t.get (F.TIC_MEAS_CFG u) % 4096 = cf ∧ t.get (F.TIC_MEAS_ARMWIN u) = aw ∧ t.get (F.TIC_MEAS_SPAN u) = sp ∧ t.get (F.TIC_MEAS_FNOM u) = fn ∧
    t.meas u = { (s.meas u).clear with run := (s.meas u).run.map (fun r => { r with orph := r.orph + (s.meas u).stops.length }) } ∧
    Completed h t [w16 (s.get F.TIC_GEN + 1)] ∧ OnlyRegs [F.TIC_MEAS_ORPHCNT u, F.TIC_MEAS_CFG u, F.TIC_MEAS_ARMWIN u, F.TIC_MEAS_SPAN u, F.TIC_MEAS_FNOM u,
      F.TIC_GEN] s t) ∧
  (u < 4 → 1 ≤ n → n ≤ 2 ^ 32 → s.tic.units.length = 4 → k < 65536 → (s.meas u).run = none →
    Answers (.ticStatrun h ([w16 u] ++ wordsOf n 3 ++ [w16 k])) s fun t =>
    (t.meas u).run = some { wb := h, n := n, timeout := k } ∧ t.get (F.TIC_MEAS_STAT_STATRUN u) = 1 ∧ Shows h t .running .ok [] ∧
      OnlyRegs [F.TIC_MEAS_STAT u] s t) ∧
  (u < 4 → 1 ≤ n → n ≤ 2 ^ 32 → (s.meas u).run.isSome = true → Answers (.ticStatrun h ([w16 u] ++ wordsOf n 3)) s fun t => Failed h t .busy ∧ t.tic = s.tic) ∧
  (∀ x, (s.meas u).run = some x → u < 4 → s.tic.units.length = 4 → (x.wb.ring ≠ h.ring ∨ x.wb.slot ≠ h.slot) → Answers (.ticStatstop h [w16 u]) s fun t =>
    (t.meas u).run = none ∧ t.get (F.TIC_MEAS_STAT_STATRUN u) = 0 ∧ Raised 70 t ∧ Completed h t []) ∧
  (u < 4 → (s.meas u).run = none → Answers (.ticStatstop h [w16 u]) s fun t => Completed h t [] ∧ t.tic = s.tic ∧ OnlyRegs [] s t) ∧
  (n < 16 → k ≤ 28 → s.tic.chans.length = 16 → Answers (.ticStampread h [w16 n, w16 k]) s fun t =>
    (t.ticCh n).fifo = (s.ticCh n).fifo.drop k ∧
    Completed h t (((s.ticCh n).fifo.take k).flatMap (fun x => w16 x.pop :: wordsOf (time128 (x.time * 2 ^ 16)) 8)) ∧ OnlyRegs [F.TIC_CH_STAMP n] s t)

/-! ### GNSS (spec/08) -/

/-- Port clocks and the elastic buffer (R213, R214).
The states of a channel (Table 8-4, R221, R222, R225): each event moves it as its row says and no other channel.
Completes by a next state: gnssElasticSlip, gnssPortClockLoss, gnssPortClockReturn, gnssChannelLock, gnssNavSync, gnssPullinTimeout,
gnssReacqTimeout, gnssLossOfLock, signalBHandover, signalBLoss, navUnitDecoded. -/
def Obligations.GnssTracking : Prop :=
  (∀ (s : State) (f : Nat), s.intc.running = true →
  (s.gnssRuns = true → s.on F.GNSS_CTRL_DUAL = true → s.on F.GNSS_STAT_ACTB = true → (f = 4 ∨ f = 60) → Answers (.gnssElasticSlip f) s fun t =>
    t.get F.GNSS_ELAST = 32 ∧ t.get F.GNSS_SLIPCNT = satNat 16 (s.get F.GNSS_SLIPCNT + 1) ∧ Raised 87 t ∧
    (∀ c, c < 64 → t.get (F.GNSS_CH_STAT_BTRK c) = 0 ∧ t.chState c = s.chState c) ∧ t.gnss = s.gnss) ∧
  (s.past 7 = true → s.on F.GNSS_STAT_ACTB = true → Answers (.gnssPortClockLoss true) s fun t =>
    t.get F.GNSS_STAT_ACTB = 0 ∧ Raised 89 t ∧ (s.on F.GNSS_CTRL_DUAL = true → t.get F.GNSS_STAT_SINGLEFB = 1 ∧ ∀ c, c < 64 →
      t.get (F.GNSS_CH_STAT_BTRK c) = 0) ∧
    (∀ c, c < 64 → t.chState c = s.chState c) ∧ t.gnss = s.gnss) ∧
  (s.past 7 = true → s.on F.GNSS_STAT_ACTA = true → Answers (.gnssPortClockLoss false) s fun t =>
    t.get F.GNSS_STAT_ACTA = 0 ∧ Raised 88 t ∧ (∀ c, c < 64 → t.chState c = 0) ∧ t.gnss.job = none ∧ t.gnss.firm = [] ∧
    (s.gnss.job.isSome = true → t.get F.GNSS_STAT_ACQBUSY = 0)) ∧
  (s.past 7 = true → s.on F.GNSS_STAT_ACTB = false → Answers (.gnssPortClockReturn true f f) s fun t =>
    t.get F.GNSS_STAT_ACTB = 1 ∧ Raised 89 t ∧ t.gnss = s.gnss ∧ OnlyRegs [F.GNSS_STAT] s t) ∧
  (s.past 7 = true → s.on F.GNSS_STAT_ACTA = false → Answers (.gnssPortClockReturn false f f) s fun t =>
    t.get F.GNSS_STAT_ACTA = 1 ∧ Raised 88 t ∧ (∀ c, c < 64 → t.chState c = 0 ∧ t.get (F.GNSS_CH_NAVOK c) = 0) ∧ (s.on F.GNSS_CTRL_EN = true →
      1 ≤ t.get F.GNSS_STAT_START ∧ t.get F.GNSS_STAT_START ≤ 3 ∧ t.gnss.first = true ∧
      t.get F.GNSS_SOLSTAT_SURVEYING = (if s.get F.GNSS_POSMODE_MODE = 0 then 1 else 0)) ∧ (s.on F.GNSS_CTRL_EN = false → t.get F.GNSS_STAT_START = 0))) ∧
  (∀ (s : State) (c : Nat) (b : Bool) (ws : List Word), s.gnssRuns = true → c < 64 → s.intc.running = true →
  ((s.chState c = 1 ∨ s.chState c = 4) → Answers (.gnssChannelLock c) s fun t => t.chState c = 2 ∧ t.get (F.GNSS_CH_LOCKT c) = 0 ∧
    t.get (F.GNSS_CH_STAT_BTRK c) = 0 ∧ (∀ d, d < 64 → d ≠ c → t.chState d = s.chState d) ∧
    t.get F.GNSS_GEN = (s.get F.GNSS_GEN + 1) % 65536 ∧ OnlyRegs [F.GNSS_CH_STAT c, F.GNSS_CH_LOCKT c, F.GNSS_STAT, F.GNSS_GEN] s t) ∧
  (s.chState c = 2 → Answers (.gnssNavSync c) s fun t => t.chState c = 3 ∧ (∀ d, d < 64 → d ≠ c → t.chState d = s.chState d) ∧
    t.get F.GNSS_GEN = (s.get F.GNSS_GEN + 1) % 65536 ∧ OnlyRegs [F.GNSS_CH_STAT c, F.GNSS_STAT, F.GNSS_GEN] s t) ∧
  (s.chState c = 1 → Answers (.gnssPullinTimeout c) s fun t => t.get (F.GNSS_CH_STAT c) = 0 ∧ (∀ d, d < 64 → d ≠ c → t.chState d = s.chState d) ∧
    t.gch c = {}) ∧
  (s.chState c = 4 → Answers (.gnssReacqTimeout c) s fun t => t.get (F.GNSS_CH_STAT c) = 0 ∧ (∀ d, d < 64 → d ≠ c → t.chState d = s.chState d) ∧ t.gch c = {}) ∧
  ((s.chState c = 2 ∨ s.chState c = 3) → Answers (.gnssLossOfLock c) s fun t => t.chState c = 4 ∧ t.get (F.GNSS_CH_STAT_BTRK c) = 0 ∧ Raised 82 t ∧
    (∀ d, d < 64 → d ≠ c → t.chState d = s.chState d) ∧ t.get F.GNSS_GEN = (s.get F.GNSS_GEN + 1) % 65536 ∧
      OnlyRegs [F.GNSS_CH_STAT c, F.GNSS_STAT, F.GNSS_GEN] s t) ∧
  (s.chState c = 3 → s.on F.GNSS_CTRL_DUAL = true → s.on F.GNSS_STAT_ACTB = true → Answers (.signalBHandover c b) s fun t =>
    t.get (F.GNSS_CH_STAT_BTRK c) = (if b then 1 else 0) ∧ t.chState c = 3 ∧ OnlyRegs [F.GNSS_CH_STAT c] s t) ∧
  (s.on (F.GNSS_CH_STAT_BTRK c) = true → Answers (.signalBLoss c) s fun t =>
    t.get (F.GNSS_CH_STAT_BTRK c) = 0 ∧ t.chState c = s.chState c ∧ OnlyRegs [F.GNSS_CH_STAT c] s t) ∧
  (s.chState c = 3 → (b = false ∨ s.on (F.GNSS_CH_STAT_BTRK c) = true) → navPass (s.navType c b) ws = true →
    Answers (.navUnitDecoded c b ws none) s fun t => t.get (F.GNSS_CH_NAVOK c) = satNat 16 (s.get (F.GNSS_CH_NAVOK c) + 1) ∧
    (t.gch c).units.filter (fun u => u.sigB = b) = (⟨b, s.navType c b, true, (s.gch c).navSeq, (List.range 20).map (fun i => ws.getD i 0)⟩ ::
      (s.gch c).units.filter (fun u => u.sigB = b)).take 4 ∧ OnlyRegs [F.GNSS_CH_NAVOK c] s t) ∧
  (s.chState c = 3 → (b = false ∨ s.on (F.GNSS_CH_STAT_BTRK c) = true) → navPass (s.navType c b) ws = false →
    Answers (.navUnitDecoded c b ws none) s fun t => t.get (F.GNSS_CH_NAVBAD c) = satNat 16 (s.get (F.GNSS_CH_NAVBAD c) + 1) ∧
    (s.get (F.GNSS_CH_NAVBAD c) = 0 → Raised 86 t) ∧ OnlyRegs [F.GNSS_CH_NAVBAD c] s t))

/-- Epochs and solutions (R216, R226 to R228).
Leap announcements (R229): one satellite alone changes nothing; two that agree and differ from TBASE set it where LEAPAUTO asks, else are told.
Searches (R218 to R220): a waybill's search is counted as done where it is empty, runs on an idle engine, waits behind a search that runs, and
is refused behind one that waits; the search ends with its last PRN.
The interference figures of a band (R224) and the reference noise (GNSS_NFCAL).
Completes by a next state: gnssEpoch, surveyComplete, navUnitDecoded, gnssAcquire, prnSearchDone, gnssAcqstop, gnssSpectrum, nfcalComplete,
gnssNfcal. -/
def Obligations.GnssSolutionsAndSearches : Prop :=
  (∀ (s : State) (x : GnssFix) (time : Nat) (obs : List GnssObs) (px py pz : Int), s.gnssRuns = true → s.intc.running = true →
  (Answers (.gnssEpoch time obs none) s fun t => t.gnss.epochSeq = (s.gnss.epochSeq + 1) % 65536 ∧ t.get F.GNSS_SOLSEQ = s.get F.GNSS_SOLSEQ ∧
    (∀ c, c < 64 → t.chState c = s.chState c) ∧ t.tb = s.tb) ∧
  (Answers (.gnssEpoch time obs (some x)) s fun t => t.gnss.epochSeq = (s.gnss.epochSeq + 1) % 65536 ∧ t.get F.GNSS_SOLSEQ = (s.get F.GNSS_SOLSEQ + 1) % 65536 ∧
    t.get F.GNSS_STAT_SOLVALID = t.get F.GNSS_SOLSTAT_VALID ∧ t.get F.GNSS_SOLSTAT_NUSED ≤ x.used.length ∧
    (t.get F.GNSS_SOLSTAT_VALID = 1 → s.get F.GNSS_POSMODE_MINSV ≤ (x.used.filter s.chUsable).length ∨ s.get F.GNSS_POSMODE_MINSV ≤ x.used.length) ∧
    (t.get F.GNSS_SOLSTAT_VALID = 1 → t.get F.GNSS_SOLSTAT_RAIMFAIL = 0 ∧ t.get F.GNSS_SOLSTAT_JAMHELD = 0 ∧ x.week.isSome = true) ∧
    (5 ≤ t.get F.GNSS_SOLSTAT_NUSED → s.get F.GNSS_RAIMLIM < x.rms → t.get F.GNSS_SOLSTAT_RAIMFAIL = 1) ∧
    (t.get F.GNSS_STAT_SOLVALID ≠ s.get F.GNSS_STAT_SOLVALID → Raised 83 t) ∧
    t.get F.GNSS_SOLUNC = satNat 32 (s.fixUnc x (t.on F.GNSS_SOLSTAT_DUALSOL)) ∧ (t.get F.GNSS_SOLSTAT_VALID = 0 → t.tb = s.tb) ∧
    (s.seq.st ≠ .setting → t.tb.load = s.tb.load)) ∧
  (s.get F.GNSS_POSMODE_MODE = 0 → -2147483648 ≤ px → px < 2147483648 → -2147483648 ≤ py → py < 2147483648 → -2147483648 ≤ pz → pz < 2147483648 →
    Answers (.surveyComplete px py pz) s fun t => t.get F.GNSS_POSMODE_MODE = 1 ∧
      t.get F.GNSS_POS = ofSigned 32 px + 2 ^ 32 * ofSigned 32 py + 2 ^ 64 * ofSigned 32 pz ∧ t.get F.GNSS_SOLSTAT_SURVEYING = 0 ∧
      t.get F.GNSS_GEN = (s.get F.GNSS_GEN + 1) % 65536 ∧ Raised 90 t ∧ OnlyRegs [F.GNSS_POSMODE, F.GNSS_POS, F.GNSS_SOLSTAT, F.GNSS_GEN] s t)) ∧
  (∀ (s : State) (c : Nat) (ws : List Word), s.gnssRuns = true → c < 64 → s.intc.running = true →
  s.chState c = 3 → navPass (s.navType c false) ws = true →
  (∀ w, s.get F.GNSS_WNBASE ≤ s.weekOf w ∧ s.weekOf w < s.get F.GNSS_WNBASE + 2 ^ w.bits ∧
    s.weekOf w % 2 ^ w.bits = (w.value + if w.gal then 1024 else 0) % 2 ^ w.bits) ∧
  (∀ a, s.gnss.leaps = [] → Answers (.navUnitDecoded c false ws (some a)) s fun t =>
    t.get F.TBASE_UTCOFF = s.get F.TBASE_UTCOFF ∧ t.get F.TBASE_LEAP = s.get F.TBASE_LEAP ∧ t.get F.TBASE_GEN = s.get F.TBASE_GEN ∧ t.gnss.leaps.length = 1) ∧
  (∀ (a : LeapAnn) (p e : Nat), p = (if a.dtls < a.dtlsf then 1 else if a.dtlsf < a.dtls then 2 else 0) →
    e = gpsEpoch + s.weekOf a.week * 604800 + a.day * 86400 + a.dtlsf + 19 →
    ∀ u, u = a.dtls + 19 → s.gnss.leaps = [(200, u, p, e)] → u < 65536 → e < 2 ^ 64 → (s.get F.TBASE_UTCOFF ≠ u ∨ s.get F.TBASE_LEAP ≠ p) →
    s.on F.GNSS_CTRL_LEAPAUTO = true → Answers (.navUnitDecoded c false ws (some a)) s fun t =>
      t.get F.TBASE_UTCOFF = u ∧ t.get F.TBASE_LEAP = p ∧ t.get F.TBASE_LEAPSEC = e ∧ t.get F.TBASE_GEN = (s.get F.TBASE_GEN + 1) % 65536) ∧
  (∀ (a : LeapAnn) (p e : Nat), p = (if a.dtls < a.dtlsf then 1 else if a.dtlsf < a.dtls then 2 else 0) →
    e = gpsEpoch + s.weekOf a.week * 604800 + a.day * 86400 + a.dtlsf + 19 →
    ∀ u, u = a.dtls + 19 → s.gnss.leaps = [(200, u, p, e)] → u < 65536 → (s.get F.TBASE_UTCOFF ≠ u ∨ s.get F.TBASE_LEAP ≠ p) →
    s.on F.GNSS_CTRL_LEAPAUTO = false → s.gnss.leapActed = none → Answers (.navUnitDecoded c false ws (some a)) s fun t =>
      t.get F.TBASE_UTCOFF = s.get F.TBASE_UTCOFF ∧ Raised 92 t ∧ t.gnss.leapActed = some (u, p, e))) ∧
  (∀ (s : State) (h : WbHead) (sy mask tc k half ce thr ho : Nat) (x : AcqCell), s.intc.running = true →
  sy < 2 → (if sy = 0 then 1 ≤ tc ∧ tc ≤ 10 else tc = 4 ∨ tc = 8) → k ≤ 200 → half ≤ 50000 → thr ≤ 400 → ho < 2 → mask < 2 ^ (if sy = 0 then 32 else 36) →
  (Ready h s → (mask = 0 ∨ k = 0) → Answers (.gnssAcquire h ([w16 sy] ++ wordsOf mask 3 ++ [w16 tc, w16 k, w16 half, w16 ce, w16 thr, w16 ho])) s fun t =>
    Completed h t [] ∧ t.get F.GNSS_ACQCNT = satNat 16 (s.get F.GNSS_ACQCNT + 1) ∧ Raised 80 t ∧ t.gnss = s.gnss) ∧
  (Ready h s → mask ≠ 0 → 1 ≤ k → s.gnss.host.isSome = true →
    Answers (.gnssAcquire h ([w16 sy] ++ wordsOf mask 3 ++ [w16 tc, w16 k, w16 half, w16 ce, w16 thr, w16 ho])) s fun t =>
    Failed h t .busy ∧ t.gnss = s.gnss) ∧
  (Ready h s → mask ≠ 0 → 1 ≤ k → s.gnss.host = none → s.gnss.job = none → s.gnssRuns = true → s.bit F.FCOL_FENCEMAP 7 = false →
    Answers (.gnssAcquire h ([w16 sy] ++ wordsOf mask 3 ++ [w16 tc, w16 k, w16 half, w16 ce, w16 thr, w16 ho])) s fun t =>
    Shows h t .running .ok [] ∧ t.get F.GNSS_STAT_ACQBUSY = 1 ∧
      t.gnss.job = some (mkJob (some h) (sy = 1) (maskPrns mask (if sy = 0 then 32 else 36)) tc k half (w16 ce).toInt thr (ho = 1))) ∧
  (Ready h s → mask ≠ 0 → 1 ≤ k → s.gnss.host = none → s.gnss.job.isSome = true →
    Answers (.gnssAcquire h ([w16 sy] ++ wordsOf mask 3 ++ [w16 tc, w16 k, w16 half, w16 ce, w16 thr, w16 ho])) s fun t =>
    Shows h t .queued .ok [] ∧ t.gnss.job = s.gnss.job ∧ t.gnss.host = some (mkJob (some h) (sy = 1) (maskPrns mask (if sy = 0 then 32 else 36)) tc k half
      (w16 ce).toInt thr (ho = 1))) ∧
  (∀ j, s.gnss.job = some j → ∀ p r, j.prns = p :: r → r ≠ [] → s.gnssRuns = true → Answers (.prnSearchDone x) s fun t =>
    ∃ j', t.gnss.job = some j' ∧ j'.prns = r ∧ j'.done = j.done + 1 ∧ j'.results.length = j.results.length + 7 ∧ t.get F.GNSS_ACQCNT = s.get F.GNSS_ACQCNT) ∧
  (∀ j, s.gnss.job = some j → ∀ p r, j.prns = p :: r → r = [] → s.gnssRuns = true → Answers (.prnSearchDone x) s fun t =>
    t.get F.GNSS_ACQCNT = satNat 16 (s.get F.GNSS_ACQCNT + 1) ∧ Raised 80 t) ∧
  (Ready h s → s.gnss.host = none → s.gnss.job = none → Answers (.gnssAcqstop h []) s fun t => Completed h t [] ∧ t.gnss = s.gnss ∧ OnlyRegs [] s t) ∧
  (∀ j, s.gnss.host = some j → ∀ w, j.wb = some w → (w.ring ≠ h.ring ∨ w.slot ≠ h.slot) → s.canWrite w.ring w.slot = true → Ready h s →
    s.gnss.job.any (fun j => j.wb.isSome) = false → Answers (.gnssAcqstop h []) s fun t => Shows w t .aborted .stopped [] ∧ Completed h t [] ∧
      t.gnss.host = none ∧ t.gnss.job = s.gnss.job ∧ Raised 80 t) ∧
  (∀ j, s.gnss.job = some j → ∀ w, j.wb = some w → (w.ring ≠ h.ring ∨ w.slot ≠ h.slot) → s.canWrite w.ring w.slot = true → Ready h s → s.gnss.host = none →
    s.gnss.firm.all (fun k => k.wb.isNone) = true → Answers (.gnssAcqstop h []) s fun t => Completed h t [] ∧ Raised 80 t ∧
      t.gnss.job.all (fun k => k.wb.isNone) = true ∧
      (t.manifestAt w.ring w.slot).any (fun m => m.state = .aborted && m.status = Status.stopped.code && m.results = j.results) = true)) ∧
  (∀ (s : State) (h : WbHead) (pre : List Nat) (post : Nat) (a b : Word), s.gnssRuns = true → s.intc.running = true →
  (s.on F.GNSS_STAT_NFVALID = true → Answers (.gnssSpectrum 0 pre post []) s fun t =>
    t.get F.GNSS_JNA_PRE = jnOf (s.bandPower 0 pre) (s.noiseRef 0) ∧ t.get F.GNSS_JNA_POST = jnOf post (s.noiseRef 0) ∧
    t.get F.GNSS_JNPEAK_A = max (s.get F.GNSS_JNPEAK_A) (jnOf post (s.noiseRef 0)) ∧
    (∀ k, 4 ≤ k → k < 8 → t.get (F.GNSS_NOTCH_STAT_ACTIVE k) = s.get (F.GNSS_NOTCH_STAT_ACTIVE k))) ∧
  (s.on F.GNSS_STAT_NFVALID = true → s.on F.GNSS_CTRL_DUAL = true → s.on F.GNSS_STAT_ACTB = true →
    Answers (.gnssSpectrum 1 pre post []) s fun t => t.get F.GNSS_JNB_PRE = jnOf (s.bandPower 1 pre) (s.noiseRef 1) ∧
      t.get F.GNSS_JNB_POST = jnOf post (s.noiseRef 1) ∧
      t.get F.GNSS_JNPEAK_B = max (s.get F.GNSS_JNPEAK_B) (jnOf post (s.noiseRef 1)) ∧ (∀ k, k < 4 →
        t.get (F.GNSS_NOTCH_STAT_ACTIVE k) = s.get (F.GNSS_NOTCH_STAT_ACTIVE k))) ∧
  (s.on F.GNSS_STAT_NFVALID = false → Answers (.gnssSpectrum 0 pre post []) s fun t =>
    t.get F.GNSS_JNA_PRE = 0 ∧ t.get F.GNSS_JNA_POST = 0 ∧ t.get F.GNSS_JNPEAK_A = s.get F.GNSS_JNPEAK_A) ∧
  (∀ w g, s.gnss.nfcal = some (w, g) → g = s.get F.GNSS_GEN → s.canWrite w.ring w.slot = true → Answers (.nfcalComplete a b) s fun t =>
    let j := fun (x : Word) k => w16 (if s.on F.GNSS_STAT_NFVALID then jnOf x.toNat (s.noiseRef k) else 0)
    t.get F.GNSS_STAT_NFVALID = 1 ∧ t.get F.GNSS_GEN = (s.get F.GNSS_GEN + 1) % 65536 ∧ t.gnss.nfcal = none ∧ t.noiseRef 0 = a.toNat ∧ t.noiseRef 1 = b.toNat ∧
    Completed w t [w16 (s.get F.GNSS_GEN + 1), j a 0, j b 1]) ∧
  (∀ w g, s.gnss.nfcal = some (w, g) → g ≠ s.get F.GNSS_GEN → s.canWrite w.ring w.slot = true → Answers (.nfcalComplete a b) s fun t =>
    Failed w t .genConflict ∧ t.gnss.nfcal = none ∧ t.store = s.store ∧ OnlyRegs [] s t) ∧
  (Ready h s → s.gnss.nfcal = none → Answers (.gnssNfcal h [w16 (s.get F.GNSS_GEN)]) s fun t =>
    t.gnss = { s.gnss with nfcal := some (h, s.get F.GNSS_GEN) } ∧ OnlyRegs [] s t))

/-- The configuration waybills and the reports of GNSS (R233).
Completes by a next state: gnssCfg, gnssPoscfg, gnssNotchcfg, gnssObsread, gnssNavread, gnssReport. -/
def Obligations.GnssWaybills : Prop := ∀ (s : State) (h : WbHead) (ct fsk pa pb ia ib bb bu jl cm rq c n : Nat) (ps : List Word), Ready h s →
  (ct < 256 → (if ct / 2 % 2 = 1 then 20 else 4) ≤ fsk → fsk ≤ 80 → pa < 4 → pb < 4 → ia ≤ 1000000 → ib ≤ 1000000 → bb < 2 ^ 32 → bu < 65536 → jl < 65536 →
    cm < 65536 → 1 ≤ rq → rq ≤ 600 →
    Answers (.gnssCfg h ([w16 (s.get F.GNSS_GEN), w16 ct, w16 fsk, w16 pa, w16 pb] ++ wordsOf ia 2 ++ wordsOf ib 2 ++ wordsOf bb 2 ++ [w16 bu, w16 jl, w16
      cm, w16 rq])) s fun t =>
      t.get F.GNSS_CTRL % 256 = ct ∧ t.get F.GNSS_FSK = fsk ∧ t.get F.GNSS_IFA = ia ∧ t.get F.GNSS_IFB = ib ∧ t.get F.GNSS_IBB = bb ∧ t.get F.GNSS_IBBUNC = bu ∧
      t.get F.GNSS_JNLIM = jl ∧ t.get F.GNSS_CN0MIN = cm ∧ t.get F.GNSS_REACQ = rq ∧ t.get F.GNSS_GEN ≠ s.get F.GNSS_GEN ∧
      (fsk ≠ s.get F.GNSS_FSK → ∀ d, d < 64 → t.chState d = 0) ∧ Completed h t (t.fw F.GNSS_GEN) ∧
      (fsk = s.get F.GNSS_FSK → (∀ d, d < 64 → s.chState d = 0) → t.get F.GNSS_GEN = (s.get F.GNSS_GEN + 1) % 65536)) ∧
  (∀ md sv xyz un sd rl wn, md < 2 → 1 ≤ sv → sv ≤ 32 → xyz < 2 ^ 96 → un < 65536 → sd < 2 ^ 32 → rl < 65536 → wn < 65536 →
    Answers (.gnssPoscfg h ([w16 (s.get F.GNSS_GEN), w16 (md + 4 * sv)] ++ wordsOf xyz 6 ++ [w16 un] ++ wordsOf sd 2 ++ [w16 rl, w16 wn])) s fun t =>
      t.get F.GNSS_POSMODE_MODE = md ∧ t.get F.GNSS_POSMODE_MINSV = sv ∧ t.get F.GNSS_POS = xyz ∧ t.get F.GNSS_POSUNC = un ∧ t.get F.GNSS_SURVEY = sd ∧
      t.get F.GNSS_RAIMLIM = rl ∧ t.get F.GNSS_WNBASE = wn ∧ t.get F.GNSS_SOLSTAT_SURVEYING = (if md = 0 then 1 else 0) ∧ t.gnss = s.gnss ∧
      Completed h t [w16 (s.get F.GNSS_GEN + 1)]) ∧
  (∀ k md wd fq, k < 8 → md ≤ 2 → wd < 4 → fq < 2 ^ 32 → Answers (.gnssNotchcfg h ([w16 (k / 4), w16 (k % 4), w16 (s.get F.GNSS_GEN), w16 (md + 4 * wd)] ++
    wordsOf fq 2)) s fun t =>
      t.get (F.GNSS_NOTCH_CFG_MODE k) = md ∧ t.get (F.GNSS_NOTCH_CFG_WIDTH k) = wd ∧ (md ≠ 1 → t.get (F.GNSS_NOTCH_FREQ k) = fq) ∧
      (md = 2 → t.get (F.GNSS_NOTCH_STAT_ACTIVE k) = 1) ∧ (md ≠ s.get (F.GNSS_NOTCH_CFG_MODE k) → md < 2 → t.get (F.GNSS_NOTCH_STAT_ACTIVE k) = 0) ∧
      Completed h t [w16 (s.get F.GNSS_GEN + 1)]) ∧
  (n ≤ 16 → c < 64 → c + n ≤ 64 → Answers (.gnssObsread h [w16 c, w16 n]) s fun t =>
    Completed h t (w16 s.gnss.epochSeq :: timeWords s.gnss.capture ++
      (List.range n).flatMap (fun i => s.rd (F.GNSS_CH_STAT (c + i)).addr :: (List.range 16).map (fun k => if k < 8 || s.on (F.GNSS_CH_STAT_BTRK (c + i))
        then (s.gch (c + i)).obs.getD k 0 else 0))) ∧ OnlyRegs [] s t) ∧
  (∀ g, g < 2 → n ≤ 4 → c < 64 → Answers (.gnssNavread h [w16 c, w16 g, w16 n]) s fun t =>
    Completed h t ((((s.gch c).units.filter (fun u => u.sigB = decide (g = 1))).take n).flatMap NavUnit.asWords) ∧ OnlyRegs [] s t) ∧
  (Answers (.gnssReport h ps) s fun t =>
    Completed h t ([s.rd F.GNSS_STAT.addr, s.rd F.GNSS_JNA.addr, s.rd F.GNSS_JNB.addr, s.rd F.GNSS_ELAST.addr, s.rd F.GNSS_SOLSTAT.addr] ++ s.fw
      F.GNSS_SOLUNC ++
      [s.rd F.GNSS_SOLSEQ.addr, s.rd F.GNSS_EPHAGE.addr, s.rd F.GNSS_ALMAGE.addr]) ∧ OnlyRegs [] s t)

/-! ### Lanes and medium stamps (spec/09) -/

/-- A lost condition takes a lane out of UP, or keeps it out, with the count and the interrupts of its detector; no lane of another port is
touched (R241, R242, R244).
A restored condition is seen at once; a lane whose conditions are all met comes UP, the lanes of a 100GBASE-R port together (R240, R242).
RS-FEC counts of a second (R255).
Completes by a next state: laneLoss, laneDetectorRestore, deskewTimeout, plinkBitSlip, plinkLockTimeout, linkFaultOrderedSets, fecSecond. -/
def Obligations.LaneStates : Prop :=
  (∀ (s : State) (n d b : Nat), s.laneRuns n = true → s.intc.running = true → s.detGood n d = true → d < 6 →
  (d = 4 → s.aligns n = true) → Answers (.laneLoss n d b) s fun t =>
    t.laneUp n = false ∧ t.detGood n d = false ∧
    (s.laneUp n = true → t.bit F.LANE_LINKMAP n = false ∧ t.get (F.LANE_LANE_DOWNCNT n) = satNat 16 (s.get (F.LANE_LANE_DOWNCNT n) + 1) ∧ Raised (96 + n) t) ∧
    (d = 0 → t.get (F.LANE_LANE_LOSCNT n) = satNat 16 (s.get (F.LANE_LANE_LOSCNT n) + 1) ∧ Raised (106 + n) t ∧ t.get (F.LANE_LANE_STAT_STATE n) = 1) ∧
    (d = 1 → t.get (F.LANE_LANE_STAT_BLKLOCK n) = 0 ∧ t.bit F.MTS_RXLOCKMAP n = false) ∧
    t.get (F.LANE_LANE_BERCNT n) = satNat 16 (s.get (F.LANE_LANE_BERCNT n) + b + (if d = 2 then 16 else 0)) ∧
    (s.laneUp n = true → s.aligns n = true → ∀ m ∈ s.portLanes (s.lanePort n), m ≠ n → s.laneUp m = true → s.detGood m 1 = true → s.detGood m 2 = true →
      t.get (F.LANE_LANE_STAT_STATE m) = 3) ∧
    (d = 3 → Raised 118 t) ∧ (d = 5 → Raised 119 t ∧ t.bit F.MTS_LOCKMAP n = false) ∧
    (∀ m, m < 10 → (8 ≤ n ∧ m ≠ n ∨ n < 8 ∧ (8 ≤ m ∨ s.lanePort m ≠ s.lanePort n)) →
      t.get (F.LANE_LANE_STAT m) = s.get (F.LANE_LANE_STAT m) ∧ t.get (F.LANE_LANE_DOWNCNT m) = s.get (F.LANE_LANE_DOWNCNT m))) ∧
  (∀ (s : State) (n d b : Nat) (sk : List Nat), s.laneRuns n = true → s.intc.running = true →
  (s.canRestore n d = true → s.detGood n d = false → (d = 4 → skewOk sk = true) → Answers (.laneDetectorRestore n d b sk) s fun t => t.detGood n d = true ∧
    t.get (F.LANE_LANE_BERCNT n) = satNat 16 (s.get (F.LANE_LANE_BERCNT n) + b) ∧
    (d = 4 → sk.length = 4 → ∀ i, i < 4 → t.get (F.LANE_LANE_SKEW (n / 4 * 4 + i)) = sk.getD i 0 - earliest sk) ∧
    (s.laneUp n = true → t.laneUp n = true) ∧ (t.get (F.LANE_LANE_STAT_STATE n) = s.get (F.LANE_LANE_STAT_STATE n) ∨
      s.get (F.LANE_LANE_STAT_STATE n) < t.get (F.LANE_LANE_STAT_STATE n)) ∧
    (s.laneUp n = false → t.laneUp n = true → t.laneGood n = true ∧ t.bit F.LANE_LINKMAP n = true ∧ Raised (96 + n) t)) ∧
  (d = 1 → s.get (F.LANE_LANE_STAT_STATE n) = 2 → s.aligns n = false → s.detGood n 0 = true → s.detGood n 1 = false → s.detGood n 2 = true →
    s.detGood n 3 = true → s.detGood n 5 = true → Answers (.laneDetectorRestore n 1 b sk) s fun t => t.laneUp n = true) ∧
  (d = 4 → s.aligns n = true → s.detGood n 4 = false → skewOk sk = false → Answers (.laneDetectorRestore n 4 b sk) s fun t => t = s) ∧
  (∀ p, n = 4 * p → s.canRestore n 4 = true → s.on (F.LANE_LANE_STAT_AMLOCK n) = false → Answers (.deskewTimeout p) s fun t => Raised 116 t ∧ OnlyRegs [] s t) ∧
  (∀ b, 8 ≤ n → s.detGood n 1 = true → s.detGood n 2 = false → 1 ≤ b → b ≤ 64 → Answers (.plinkBitSlip n b) s fun t =>
    t.get (F.LANE_LANE_SLIPS n) = satNat 16 (s.get (F.LANE_LANE_SLIPS n) + 1) ∧ t.get (F.LANE_LANE_BERCNT n) = satNat 16 (s.get (F.LANE_LANE_BERCNT n) + b) ∧
    OnlyRegs [F.LANE_LANE_SLIPS n, F.LANE_LANE_BERCNT n] s t) ∧
  (8 ≤ n → s.detGood n 1 = true → s.detGood n 2 = false → Answers (.plinkLockTimeout n) s fun t => Raised 120 t ∧ OnlyRegs [] s t) ∧
  (∀ l r, s.laneUp n = true → Answers (.linkFaultOrderedSets n l r) s fun t => t.get (F.LANE_LANE_STAT_RFAULT n) = (if r then 1 else 0) ∧
    (n ∈ t.mts.lfault ↔ l = true) ∧ OnlyRegs [F.LANE_LANE_STAT n] s t)) ∧
  (∀ (s : State) (n corr unc : Nat), s.laneRuns n = true → s.intc.running = true → n < 8 → s.on F.LANE_MODE_FEC = true →
  s.portMode ≠ 2 → Answers (.fecSecond n corr unc) s fun t =>
    let g := if s.portMode = 1 then n / 4 * 4 else n
    t.get (F.LANE_LANE_FECCORR g) = satNat 32 (s.get (F.LANE_LANE_FECCORR g) + corr) ∧
      t.get (F.LANE_LANE_FECUNC g) = satNat 16 (s.get (F.LANE_LANE_FECUNC g) + unc) ∧
    (s.get F.LANE_FECLIM < unc → Raised 117 t) ∧ OnlyRegs [F.LANE_LANE_FECCORR g, F.LANE_LANE_FECUNC g] s t)

/-- Meters and rate matching (R236 to R238, R246): a meter that has settled locks with its model, and one that strays unlocks; a predicted insertion
or deletion between frames moves the fill by one and is not made inside a frame; an alignment marker leaves the fill; an event that MTS did not
predict is counted and displaces the speculative frames behind it.
Completes by a next state: meterLock, meterUnlock, rateMatchEvent, rateMatchUnscheduled. -/
def Obligations.MetersAndRates : Prop := ∀ (s : State) (n f pos : Nat) (x : Option Nat) (w tm pd rs : Nat), s.laneRuns n = true → s.intc.running = true →
  s.mts.fill.length = 10 → s.mts.tx.length = 10 → s.mts.rx.length = 10 → s.mts.plan.length = 10 →
  (s.on (F.LANE_LANE_STAT_TXPLLOCK n) = true → s.bit F.MTS_LOCKMAP n = false → rs < s.get F.MTS_METERTOL → rs < 256 → s.inRange n pd = true →
    Answers (.meterLock n false w tm pd rs) s fun t => t.bit F.MTS_LOCKMAP n = true ∧ t.txM n = ⟨w, tm, pd, (s.txM n).table⟩ ∧
      t.getI (F.MTS_LANE_TXFREQ n) = s.meterFreq n pd ∧ t.get (F.MTS_LANE_RESID_TX n) = rs ∧
      Raised (128 + n) t ∧ OnlyRegs [F.MTS_LOCKMAP, F.MTS_LANE_TXFREQ n, F.MTS_LANE_RESID_TX n] s t) ∧
  (s.on (F.LANE_LANE_STAT_CDRLOCK n) = true → s.bit F.MTS_RXLOCKMAP n = false → rs < s.get F.MTS_METERTOL → rs < 256 → s.inRange n pd = true →
    Answers (.meterLock n true w tm pd rs) s fun t => t.bit F.MTS_RXLOCKMAP n = true ∧ t.rxM n = ⟨w, tm, pd, (s.rxM n).table⟩ ∧
      t.getI (F.MTS_LANE_RXFREQ n) = s.meterFreq n pd ∧ t.get (F.MTS_LANE_RESID_RX n) = rs ∧
      Raised (128 + n) t ∧ OnlyRegs [F.MTS_RXLOCKMAP, F.MTS_LANE_RXFREQ n, F.MTS_LANE_RESID_RX n] s t) ∧
  (∀ r, s.inRange n pd = false → Answers (.meterLock n r w tm pd rs) s fun t => t = s) ∧
  (s.bit F.MTS_LOCKMAP n = true → 4 * s.get F.MTS_METERTOL < rs → Answers (.meterUnlock n false rs) s fun t => t.bit F.MTS_LOCKMAP n = false ∧
    t.get (F.MTS_LANE_RESID_TX n) = satNat 8 rs ∧ Raised (128 + n) t ∧ OnlyRegs [F.MTS_LOCKMAP, F.MTS_LANE_RESID_TX n] s t) ∧
  (s.bit F.MTS_RXLOCKMAP n = true → 4 * s.get F.MTS_METERTOL < rs → Answers (.meterUnlock n true rs) s fun t => t.bit F.MTS_RXLOCKMAP n = false ∧
    t.get (F.MTS_LANE_RESID_RX n) = satNat 8 rs ∧ Raised (128 + n) t ∧ OnlyRegs [F.MTS_RXLOCKMAP, F.MTS_LANE_RESID_RX n] s t) ∧
  (4 < f → f ≤ 14 → s.inFrame n pos = false → s.atMarker n pos = false → s.predicted n pos true = true → Answers (.rateMatchEvent n pos f x) s fun t =>
    t.mts.fill.getD n 0 = f + 1 ∧ t.ratePlan n = s.planAfter n pos (f + 1) x ∧ OnlyRegs [] s t) ∧
  (18 ≤ f → f < 28 → s.inFrame n pos = false → s.atMarker n pos = false → s.predicted n pos false = true → Answers (.rateMatchEvent n pos f x) s fun t =>
    t.mts.fill.getD n 0 = f - 1 ∧ t.ratePlan n = s.planAfter n pos (f - 1) x ∧ OnlyRegs [] s t) ∧
  (4 < f → f < 28 → s.inFrame n pos = false → s.atMarker n pos = true → Answers (.rateMatchEvent n pos f x) s fun t =>
    t.mts.fill.getD n 0 = f ∧ (t.ratePlan n).marker = x.filter (fun m => decide (pos < m)) ∧ OnlyRegs [] s t) ∧
  (s.inFrame n pos = true → Answers (.rateMatchEvent n pos f x) s fun t => t = s) ∧
  (recentres f = true ∨ (18 ≤ f ∨ f ≤ 14) ∧ s.inFrame n pos = false ∧ s.predicted n pos (decide (f ≤ 14)) = false →
    Answers (.rateMatchUnscheduled n pos f x) s fun t =>
    t.get (F.MTS_LANE_RMUNSCH n) = satNat 16 (s.get (F.MTS_LANE_RMUNSCH n) + 1) ∧ Raised 138 t ∧
    t.mts.fill.getD n 0 = (if recentres f then 16 else if 18 ≤ f then f - 1 else f + 1) ∧
    t.ratePlan n = s.planAfter n pos (if recentres f then 16 else if 18 ≤ f then f - 1 else f + 1) x ∧
    (recentres f = false → n < 8 → t.pkt.slots = s.pkt.slots.map (fun y => if y.item.port = s.lanePort n ∧ y.ph = .placed ∧ pos ≤ y.pos then
      y.displaced (66 * (if 18 ≤ f then -1 else 1)) else y))) ∧
  (recentres f = false → (s.inFrame n pos = true ∨ s.predicted n pos (decide (f ≤ 14)) = true) → Answers (.rateMatchUnscheduled n pos f x) s fun t => t = s) ∧
  (∀ e ∈ (s.planAfter n pos f x).events, pos < e.1 ∧ s.bit F.MTS_LOCKMAP n = true ∧ (e.2 = true ↔ 0 < s.netDiff n))

/-- The waybills of LANE and MTS (R235, R248, R256); a reported counter reads as RC, so the report clears it.
Completes by a next state: laneModeset, laneLanecfg, laneRestart, laneReport, mtsCfg, mtsLanecfg, mtsMeterreport. -/
def Obligations.LaneWaybills : Prop := ∀ (s : State) (h : WbHead) (n k m v cf te re a b c : Nat), Ready h s →
  (v < 8 → v % 4 ≠ 3 → (v % 4 = 2 → v < 4) → Answers (.laneModeset h [w16 (s.get F.LANE_GEN), w16 v]) s fun t =>
    t.get F.LANE_MODE_PORTMODE = v % 4 ∧ t.get F.LANE_MODE_FEC = v / 4 ∧ (∀ i, i < 8 → t.laneUp i = false ∧ t.get (F.LANE_LANE_STAT_STATE i) =
      (if s.get (F.LANE_LANE_STAT_STATE i) = 0 then 0 else 1)) ∧ (∀ i, i < 10 → t.get (F.LANE_LANE_TXLAT i) = t.txLatOf i) ∧
    (∀ i, 8 ≤ i → i < 10 → t.get (F.LANE_LANE_STAT i) = s.get (F.LANE_LANE_STAT i)) ∧ Completed h t (t.fw F.LANE_GEN)) ∧
  (n < 10 → cf < 16 → te < 65536 → re < 64 → Answers (.laneLanecfg h [w16 n, w16 (s.get F.LANE_GEN), w16 cf, w16 te, w16 re]) s fun t =>
    t.get (F.LANE_LANE_CFG n) % 16 = cf ∧ t.get (F.LANE_LANE_TXEQ n) = te ∧ t.get (F.LANE_LANE_RXEQ n) % 64 = re ∧
    (cf % 2 = 0 → t.get (F.LANE_LANE_STAT_STATE n) = 0 ∧ t.get (F.LANE_LANE_STAT_SIGDET n) = 0) ∧
    (cf % 2 = 1 → t.get (F.LANE_LANE_STAT_STATE n) = max 1 (s.get (F.LANE_LANE_STAT_STATE n))) ∧ Completed h t (t.fw F.LANE_GEN)) ∧
  (m < 1024 → m ≠ 0 → Answers (.laneRestart h [w16 (s.get F.LANE_GEN), w16 m]) s fun t =>
    (∀ i, i < 10 → m / 2 ^ i % 2 = 1 → s.get (F.LANE_LANE_STAT_STATE i) ≠ 0 → t.get (F.LANE_LANE_STAT_STATE i) = 1 ∧ t.get (F.LANE_LANE_STAT_SIGDET i) = 0) ∧
    (∀ i, i < 10 → s.get (F.LANE_LANE_STAT_STATE i) = 0 → t.get (F.LANE_LANE_STAT_STATE i) = 0) ∧ Completed h t (t.fw F.LANE_GEN)) ∧
  (Answers (.laneRestart h [w16 (s.get F.LANE_GEN), 0]) s fun t => Completed h t (s.fw F.LANE_GEN) ∧ OnlyRegs [] s t) ∧
  (n < 10 → n + k ≤ 10 → Answers (.laneReport h [w16 n, w16 k]) s fun t =>
    Completed h t ((List.range k).flatMap (fun i => s.fw (F.LANE_LANE_STAT (n + i)) ++ s.fw (F.LANE_LANE_SKEW (n + i)) ++ s.fw (F.LANE_LANE_SLIPS (n + i)) ++
      s.fw (F.LANE_LANE_LOSCNT (n + i)) ++ s.fw (F.LANE_LANE_DOWNCNT (n + i)) ++ s.fw (F.LANE_LANE_BERCNT (n + i)) ++ s.fw (F.LANE_LANE_FECCORR (n + i)) ++
      s.fw (F.LANE_LANE_FECUNC (n + i)) ++ [s.rd (F.LANE_LANE_TXLAT (n + i)).addr])) ∧
    (∀ i, i < k → t.get (F.LANE_LANE_LOSCNT (n + i)) = 0 ∧ t.get (F.LANE_LANE_DOWNCNT (n + i)) = 0 ∧ t.get (F.LANE_LANE_FECCORR (n + i)) = 0) ∧
    (∀ i, i < 10 → t.get (F.LANE_LANE_STAT i) = s.get (F.LANE_LANE_STAT i)) ∧ (k = 0 → OnlyRegs [] s t)) ∧
  (a < 65536 → b < 65536 → Answers (.mtsCfg h [w16 (s.get F.MTS_GEN), w16 a, w16 b]) s fun t =>
    t.get F.MTS_METERTOL = a ∧ t.get F.MTS_PREDTOL = b ∧ t.get F.MTS_GEN = (s.get F.MTS_GEN + 1) % 65536 ∧ Completed h t [w16 (s.get F.MTS_GEN + 1)] ∧
    OnlyRegs [F.MTS_METERTOL, F.MTS_PREDTOL, F.MTS_GEN] s t) ∧
  (n < 10 → cf < 2 → a < 2 ^ 32 → b < 2 ^ 32 → c < 65536 → Answers (.mtsLanecfg h ([w16 n, w16 (s.get F.MTS_GEN), w16 cf] ++ wordsOf a 2 ++ wordsOf b 2 ++
    [w16 c])) s fun t =>
    t.get (F.MTS_LANE_CFG n) % 2 = cf ∧ t.get (F.MTS_LANE_TXDLY n) = a ∧ t.get (F.MTS_LANE_RXDLY n) = b ∧ t.get (F.MTS_LANE_DLYUNC n) = c ∧
    Completed h t [w16 (s.get F.MTS_GEN + 1)] ∧
    OnlyRegs [F.MTS_LANE_CFG n, F.MTS_LANE_TXDLY n, F.MTS_LANE_RXDLY n, F.MTS_LANE_DLYUNC n, F.MTS_GEN] s t) ∧
  (n < 10 → n + k ≤ 10 → Answers (.mtsMeterreport h [w16 n, w16 k]) s fun t =>
    Completed h t ((List.range k).flatMap (fun i => s.fw (F.MTS_LANE_TXFREQ (n + i)) ++ s.fw (F.MTS_LANE_RXFREQ (n + i)) ++ s.fw (F.MTS_LANE_RESID (n + i)) ++
      s.fw (F.MTS_LANE_RMUNSCH (n + i)) ++ s.fw (F.MTS_LANE_PREDERR (n + i)) ++ s.fw (F.MTS_LANE_PREDCNT (n + i)) ++ s.fw (F.MTS_LANE_BND (n + i)))) ∧
    OnlyRegs [] s t)

/-! ### Packets (spec/10) -/

/-- What becomes of a received frame (R257 to R263): it is counted as host or service traffic; a request of an enabled class joins the store with
its stamp, or is dropped and counted.
The answers of CTAB and AUTH to a request (R262 to R266).
Completes by a next state: frameReceive, ctabDecisionReturn, authVerdictReturn, requestTimeout. -/
def Obligations.Requests : Prop :=
  (∀ (s : State) (p : Nat) (f : Frame) (m : MeterPoint), s.past 6 = true → s.seq.st ≠ .safe → s.portUp p = true →
  s.intc.running = true → p < 8 →
  (Answers (.frameReceive p f m true) s fun t => t.get (F.PKT_CNT 18) = (s.get (F.PKT_CNT 18) + 1) % 2 ^ 32 ∧ t.get F.PKT_EVT_RXOVF = 1 ∧
    (s.on F.PKT_EVT_RXOVF = false → Raised 148 t) ∧ t.pkt = s.pkt) ∧
  (s.isService p f = false → s.pkt.hostSec < s.get F.PKT_HOSTMAX * 100 → Answers (.frameReceive p f m false) s fun t =>
    t.get (F.PKT_CNT 26) = (s.get (F.PKT_CNT 26) + 1) % 2 ^ 32 ∧ t.pkt = { s.pkt with hostSec := s.pkt.hostSec + 1 }) ∧
  (s.isService p f = false → s.get F.PKT_HOSTMAX * 100 ≤ s.pkt.hostSec → Answers (.frameReceive p f m false) s fun t =>
    t.get (F.PKT_CNT 28) = (s.get (F.PKT_CNT 28) + 1) % 2 ^ 32 ∧ t.pkt = s.pkt) ∧
  (s.isService p f = true → s.classOf p f = none → Answers (.frameReceive p f m false) s fun t =>
    t.get (F.PKT_CNT 0) = (s.get (F.PKT_CNT 0) + 1) % 2 ^ 32 ∧ t.get (F.PKT_CNT 31) = (s.get (F.PKT_CNT 31) + 1) % 2 ^ 32 ∧ t.pkt = s.pkt) ∧
  (∀ c, s.classOf p f = some c → s.isService p f = true → c ≠ 6 → (s.mute = true ∨ s.classOn (s.portGroup p) c = false) →
    Answers (.frameReceive p f m false) s fun t =>
    t.get (F.PKT_CNT (classCnt c)) = (s.get (F.PKT_CNT (classCnt c)) + 1) % 2 ^ 32 ∧ t.pkt = s.pkt) ∧
  (∀ c, s.classOf p f = some c → s.isService p f = true → c ≠ 6 → s.mute = false → s.classOn (s.portGroup p) c = true → s.rxMeter (s.rxLane p) = false →
    Answers (.frameReceive p f m false) s fun t => t.get (F.PKT_CNT 16) = (s.get (F.PKT_CNT 16) + 1) % 2 ^ 32 ∧ t.pkt = s.pkt) ∧
  (∀ c, s.classOf p f = some c → s.isService p f = true → c ≤ 2 → s.mute = false → s.classOn (s.portGroup p) c = true → s.rxMeter (s.rxLane p) = true →
    s.storeFill (s.portGroup p) < 8192 → (s.req? s.pkt.nextId).isNone = true → Answers (.frameReceive p f m false) s fun t =>
      t.pkt.reqs = s.pkt.reqs ++ [⟨s.pkt.nextId, p, c, s.frameKey p f, s.rxStampOf (s.rxLane p) m, f.body, none, none, decide (c ≠ 0), none, none,
        false, false⟩] ∧
      t.pkt.nextId = s.pkt.nextId + 1 ∧ t.auth.jobs = s.auth.jobs ++ (if c = 0 then [] else [.verify s.pkt.nextId false]))) ∧
  (∀ (s : State) (id : Nat), s.past 6 = true → s.seq.st ≠ .safe → s.intc.running = true →
  (∀ r, s.req? id = some r → ∀ d, r.dec = some d → (d = .unknown ∨ d = .bad) → r.got = none → Answers (.ctabDecisionReturn id) s fun t =>
    (t.req? id).isNone = true ∧ t.pkt.ready = s.pkt.ready ∧ OnlyRegs [] s t) ∧
  (∀ r, s.req? id = some r → ∀ d, r.dec = some d → d = .denied → r.got = none → (s.on F.PKT_CTRL_KOD = false ∨ r.cls ≠ 0) →
    Answers (.ctabDecisionReturn id) s fun t =>
    (t.req? id).isNone = true ∧ t.pkt.ready = s.pkt.ready ∧ t.get (F.PKT_CNT 12) = (s.get (F.PKT_CNT 12) + 1) % 2 ^ 32 ∧ OnlyRegs [F.PKT_CNT 12] s t) ∧
  (∀ r, s.req? id = some r → ∀ d, r.dec = some d → d = .denied → r.got = none → s.on F.PKT_CTRL_KOD = true → r.cls = 0 →
    s.pkt.kodSec < s.get F.PKT_KODMAX * 100 → Answers (.ctabDecisionReturn id) s fun t =>
    (t.req? id).isNone = true ∧ t.pkt.ready = s.pkt.ready ++ [⟨r.port, 2, .kod r, s.pkt.arrived⟩] ∧ t.pkt.kodSec = s.pkt.kodSec + 1) ∧
  (∀ r, s.req? id = some r → ∀ d, r.dec = some (.grant d) → r.got = none → r.id = id → r.cls ≤ 2 → r.needAuth = false →
    Answers (.ctabDecisionReturn id) s fun t =>
    (t.req? id).isNone = true ∧ t.pkt.ready.length = s.pkt.ready.length + 1 ∧ OnlyRegs [] s t) ∧
  (∀ r, s.req? id = some r → r.dec = some .anon → r.got = none → s.on F.PKT_CTRL_ANONEN = false → Answers (.ctabDecisionReturn id) s fun t =>
    (t.req? id).isNone = true ∧ t.pkt.ready = s.pkt.ready ∧ OnlyRegs [] s t) ∧
  (∀ r, s.req? id = some r → ∀ c, r.ver = some (.fail c) → r.gotVer = none → r.grantd.isSome = true → r.needAuth = true → c < 16 →
    Answers (.authVerdictReturn id) s fun t =>
    (t.req? id).isNone = true ∧ t.get (F.AUTH_CNT c) = (s.get (F.AUTH_CNT c) + 1) % 2 ^ 32 ∧ t.get (F.PKT_CNT 15) = (s.get (F.PKT_CNT 15) + 1) % 2 ^ 32 ∧
    t.auth.failSec = s.auth.failSec + 1) ∧
  (∀ r, s.req? id = some r → r.ver.isSome = true → r.gotVer = none → r.cls ≤ 2 → r.grantd = none → r.anon = false → Answers (.authVerdictReturn id) s fun t =>
    (t.req? id).any (fun q => q.gotVer = r.ver) = true ∧ t.pkt.ready = s.pkt.ready ∧ OnlyRegs [] s t) ∧
  ((s.req? id).isSome = true → Answers (.requestTimeout id) s fun t => (t.req? id).isNone = true ∧ t.get (F.PKT_CNT 20) = (s.get (F.PKT_CNT 20) + 1) % 2 ^ 32 ∧
    t.get F.PKT_EVT_LKTMO = 1 ∧ t.pkt.ready = s.pkt.ready))

/-- What a convoy close places (R267 to R272): it invents no response, keeps every frame already placed, places on no port that does not send, and
nothing speculative where the meter is not locked or the service is below normal, and every frame on a permitted unit interval of the port's next
period; the configuration that waits takes effect first (R292).
The outcomes of a placed frame (R31, R36, R39, R41, R273 to R276): confirmed where it was predicted, stomped where it was not, lost where nothing
is reported.
AUTH's part in a placed frame (R297, R303, R306, R307).
Completes by a next state: convoyClose, pcsDelimiterReport, fcsRelease, lockedSlotTimeout, speculationTimeout, lockedSlotCommit, missSecond,
authTagJob, authTagLate. -/
def Obligations.Convoys : Prop :=
  (∀ (s : State) (pl : List ConvoyPlan), s.past 6 = true → s.seq.st ≠ .safe → s.intc.running = true →
  Answers (.convoyClose pl) s fun t =>
    (∀ i, i ∈ t.pkt.ready → i ∈ s.pkt.ready) ∧ t.pkt.reqs = s.pkt.reqs ∧ t.pkt.slots.take s.pkt.slots.length = s.pkt.slots ∧
    (∀ x, x ∈ t.pkt.slots.drop s.pkt.slots.length → x.item ∈ s.pkt.ready ∧ s.portSends x.item.port = true ∧ x.ph = .placed ∧ x.resend = false ∧
      (x.spec = true → s.applyCfgs.specOk x.item.port = true) ∧ s.gridUp x.pos = x.pos ∧ at' 0 s.pkt.free x.item.port ≤ x.pos ∧
      pl.any (fun c => c.port = x.item.port && decide (c.first ≤ x.pos) && decide (x.pos < c.last)) = true) ∧
    (∀ p, p < s.nPorts → t.get (F.PKT_PORT_STAT p) = (if s.portUp p then 1 else 0) + (if s.portMeter p then 2 else 0) + (if s.applyCfgs.specOk p then 4 else
      0)) ∧
    t.pkt.cfgs = []) ∧
  (∀ (s : State) (id pos : Nat), s.past 6 = true → s.seq.st ≠ .safe → s.intc.running = true →
  (∀ x, s.slot? id = some x → s.portSends x.item.port = false → Answers (.pcsDelimiterReport id pos) s fun t => t = s) ∧
  (∀ x, s.slot? id = some x → x.ph = .placed → x.spec = true → (x.needTag = false ∨ x.tagged = true) → x.pos = pos → x.shift = 0 → x.fall = false →
    x.item.port < 8 → s.portSends x.item.port = true → Answers (.pcsDelimiterReport id pos) s fun t => t.get (F.PKT_CNT 6) = (s.get (F.PKT_CNT 6) + 1) % 2 ^
      32 ∧ t.pkt.misses = s.pkt.misses ∧
      (t.slot? id).any (fun y => y.ph = .confirmed && !y.spec && y.stamp = x.stamp && y.content = x.content) = true) ∧
  (∀ x, s.slot? id = some x → x.ph = .placed → x.spec = true → (x.needTag = false ∨ x.tagged = true) → x.pos ≠ pos → (x.shift = 0 ∨
    (pos : Int) = x.pos + x.shift) → x.item.port < 8 →
    s.portSends x.item.port = true → Answers (.pcsDelimiterReport id pos) s fun t => t.get (F.PKT_CNT 7) = (s.get (F.PKT_CNT 7) + 1) % 2 ^ 32 ∧
      t.pkt.misses = s.pkt.misses + 1 ∧
      t.get F.PKT_EVT_STOMP = 1 ∧ (t.slot? id).any (fun y => y.ph = .missed && y.wantLock && !y.spec) = true ∧ t.ctab = s.ctab) ∧
  (∀ x, s.slot? id = some x → x.ph = .locked → (x.needTag = false ∨ x.tagged = true) → x.pos = pos → x.fall = false → x.item.port < 8 →
    s.portSends x.item.port = true → Answers (.pcsDelimiterReport id pos) s fun t => t.get (F.PKT_CNT 8) = (s.get (F.PKT_CNT 8) + 1) % 2 ^ 32 ∧
      t.get (F.PKT_PORT_LASTTX x.item.port) = time128 x.stamp ∧ (t.slot? id).any (fun y => y.ph = .confirmed) = true) ∧
  (∀ x, s.slot? id = some x → x.ph = .confirmed → x.fcs = true → Answers (.fcsRelease id) s fun t => (t.slot? id).isNone = true ∧
    t.pkt.lastFcs = some (id, false) ∧
    t.get (F.PKT_CNT 5) = (s.get (F.PKT_CNT 5) + (if x.item.isResponse then 1 else 0)) % 2 ^ 32 ∧ OnlyRegs [F.PKT_CNT 5] s t) ∧
  (∀ x, s.slot? id = some x → x.ph = .missed → x.fcs = true → Answers (.fcsRelease id) s fun t => t.pkt.lastFcs = some (id, true) ∧
    (x.wantLock = true → (t.slot? id).any (fun y => !y.fcs && y.wantLock) = true) ∧ (x.wantLock = false → (t.slot? id).isNone = true) ∧ OnlyRegs [] s t) ∧
  (∀ x, s.slot? id = some x → x.ph = .locked → x.item.port < 8 → Answers (.lockedSlotTimeout id) s fun t => (t.slot? id).isNone = true ∧
    t.get (F.PKT_CNT 9) = (s.get (F.PKT_CNT 9) + 1) % 2 ^ 32 ∧ t.get F.PKT_EVT_LOST = 1 ∧ t.pkt.lastFcs = s.pkt.lastFcs) ∧
  (∀ x, s.slot? id = some x → x.ph = .placed → x.spec = true → x.item.port < 8 → Answers (.speculationTimeout id) s fun t =>
    t.get (F.PKT_CNT 11) = (s.get (F.PKT_CNT 11) + 1) % 2 ^ 32 ∧ t.get F.PKT_EVT_SPECTMO = 1 ∧ t.pkt.misses = s.pkt.misses + 1 ∧
    (t.slot? id).any (fun y => y.ph = .missed && y.wantLock) = true) ∧
  (∀ x, s.slot? id = some x → x.wantLock = true → x.fcs = false → s.portSends x.item.port = true → s.lockable x pos = true → s.openSpec = [] →
    s.pkt.slots.all (fun y => y.id < s.pkt.nextId) = true → Answers (.lockedSlotCommit id pos) s fun t => (t.slot? id).isNone = true ∧
      (s.portMeter x.item.port = false → t.get (F.PKT_CNT 17) = (s.get (F.PKT_CNT 17) + 1) % 2 ^ 32 ∧ t.pkt.slots.length < s.pkt.slots.length) ∧
      t.pkt.slots.all (fun y => y.id < s.pkt.nextId || (y.id = s.pkt.nextId && y.item = x.item && y.ph = .locked && y.resend && !y.spec && y.pos = pos &&
        y.stamp = s.txStampOf (s.txLane x.item.port) pos)) = true) ∧
  (Answers .missSecond s fun t => t.pkt.misses = 0 ∧ t.pkt.hostSec = 0 ∧ t.pkt.kodSec = 0 ∧
    (s.get F.PKT_MISSLIM < s.pkt.misses → t.get F.PKT_EVT_MISSRATE = 1) ∧ t.pkt.slots = s.pkt.slots ∧ OnlyRegs [F.PKT_EVT_MISSRATE] s t)) ∧
  (∀ (s : State) (id : Nat), s.past 6 = true → s.seq.st ≠ .safe → s.intc.running = true →
  (∀ j r, s.auth.jobs = j :: r → j = .tag id → r.any AuthJob.isRetag = false → s.slot? id = none → Answers .authTagJob s fun t => t.auth.jobs = r ∧
    t.pkt = s.pkt) ∧
  (∀ j r, s.auth.jobs = j :: r → j = .tag id → r.any AuthJob.isRetag = false → s.canTag j = true →
    (s.slot? id).any (fun x => match x.content with | .ptp o => (s.ptpKey o.group).isNone | _ => false) = true →
    Answers .authTagJob s fun t => t.auth.jobs = r.filter (fun k => k ≠ .tag id ∧ k ≠ .retag id) ∧ (t.slot? id).isNone = true ∧
      t.get (F.AUTH_CNT 12) = (s.get (F.AUTH_CNT 12) + 1) % 2 ^ 32) ∧
  (∀ j r, s.auth.jobs = j :: r → j = .tag id → r.any AuthJob.isRetag = false → s.canTag j = true →
    (s.slot? id).any (fun x => match x.content with | .ptp o => (s.ptpKey o.group).isSome | .ntp _ => true | _ => false) = true →
    Answers .authTagJob s fun t => t.auth.jobs = r ∧ (t.slot? id).any (fun y => y.tagged) = true ∧ OnlyRegs [] s t) ∧
  (s.auth.jobs.all (fun j => !s.canTag j) = true → Answers .authTagJob s fun t => t = s) ∧
  (∀ x p m a l k, s.slot? id = some x → x.verdict = some (.pass p (some m) a l k) → s.canTag (.tag id) = (s.on F.AUTH_STAT_DRBGOK || decide (a = 0))) ∧
  (∀ x, s.slot? id = some x → x.needTag = true → x.tagged = false → x.ph = .placed → x.id = id → x.item.port < 8 → Answers (.authTagLate id) s fun t =>
    (t.slot? id).isNone = true ∧ t.pkt.ready = backTo x.item s.pkt.ready ∧ t.get (F.PKT_CNT 10) = (s.get (F.PKT_CNT 10) + 1) % 2 ^ 32 ∧
    t.get (F.AUTH_CNT 13) = (s.get (F.AUTH_CNT 13) + 1) % 2 ^ 32 ∧ t.get F.AUTH_EVT_TAGLATE = 1 ∧ t.get F.PKT_EVT_WITHDRAW = 1))

/-- The timed work of PTP (R280, R284 to R287).
Completes by a next state: ptpScheduledMessage, grantStreamMessage, grantExpiry, slaveSyncMeasurement, slaveDelayReqSend, slaveGrantRenew,
slaveAnnounceTimeout, slaveSyncTimeout, svcholdExpiry. -/
def Obligations.PtpTimers : Prop := ∀ (s : State) (g n ty : Nat), s.past 6 = true → s.seq.st ≠ .safe → s.intc.running = true → s.pkt.slaves.length = 2 →
  (g < 2 → (ty = 11 ∨ ty = 0) → s.on F.PKT_CTRL_PTPEN = true → s.on (F.PKT_PTP_CFG_EN g) = true → s.mute = false → s.rdn.firstAnn = [] →
    Answers (.ptpScheduledMessage g ty) s fun t => t.pkt.ready.take s.pkt.ready.length = s.pkt.ready ∧
      (∀ i, i ∈ t.pkt.ready.drop s.pkt.ready.length → i.prio = 1 ∧ i.port ∈ s.groupPorts g) ∧
        t.pkt.ready.length = s.pkt.ready.length + (s.groupPorts g).length * (s.get (F.PKT_PTP_CFG_UDP4 g) + s.get (F.PKT_PTP_CFG_UDP6 g) + s.get
        (F.PKT_PTP_CFG_L2 g)) ∧ OnlyRegs [] s t) ∧
  (s.mute = true → Answers (.ptpScheduledMessage g ty) s fun t => t = s) ∧
  (∀ x, s.pkt.grants.find? (fun y => y.entry = n && y.type = ty) = some x → ty ≠ 9 → s.secNow < x.expiry → s.mute = false →
    s.on F.PKT_CTRL_PTPEN = true → s.on (F.PKT_PTP_CFG_EN x.group) = true →
      Answers (.grantStreamMessage n ty) s fun t => t.pkt.ready = s.pkt.ready ++ [⟨x.port, 1, .sched x.group ty x.tr (some n), s.pkt.arrived⟩] ∧
      OnlyRegs [] s t) ∧
  (s.pkt.grants.any (fun x => x.entry = n && x.type = ty && x.expiry ≤ s.secNow) = true → Answers (.grantExpiry n ty) s fun t =>
    t.pkt.grants = s.pkt.grants.filter (fun x => !(x.entry = n && x.type = ty)) ∧ t.get F.PKT_GRANTCNT = satNat 32 t.pkt.grants.length ∧
    OnlyRegs [F.PKT_GRANTCNT, F.PKT_GRANTLOAD] s t) ∧
  (g < 2 → ∀ t1 t2, (s.slave g).pair = some (t1, t2) → ∀ d, (s.slave g).delay = some d → (s.slave g).pairNew = true → s.get (F.PKT_PTP_SLVSTAT_STATE g) = 3 →
    Answers (.slaveSyncMeasurement g) s fun t => (t.slave g).pairNew = false ∧ t.getI (F.PKT_PTP_SLVOFF g) = satSigned 48 (toPs ((t2 : Int) - t1 - d)) ∧
      (t.slave g).pair = (s.slave g).pair) ∧
  (g < 2 → 2 ≤ s.get (F.PKT_PTP_SLVSTAT_STATE g) → Answers (.slaveDelayReqSend g) s fun t => (t.slave g).dreqSeq = ((s.slave g).dreqSeq + 1) % 65536 ∧
    (t.slave g).dreq = none ∧ t.pkt.ready = s.pkt.ready ++ [⟨s.slavePort g, 1, .slaveReq g, s.pkt.arrived⟩] ∧ OnlyRegs [] s t) ∧
  (g < 2 → s.on (F.PKT_PTP_SLVCFG_UNICAST g) = true → 1 ≤ s.get (F.PKT_PTP_SLVSTAT_STATE g) →
    [11, 0, 9].any ((s.slave g).due s.secNow) = true → Answers (.slaveGrantRenew g) s fun t =>
    t.pkt.ready = s.pkt.ready ++ [⟨s.slavePort g, 1, .slaveSig g, s.pkt.arrived⟩] ∧ t.pkt.slaves = s.pkt.slaves ∧ OnlyRegs [] s t) ∧
  (g < 2 → 1 ≤ s.get (F.PKT_PTP_SLVSTAT_STATE g) → Answers (.slaveAnnounceTimeout g) s fun t => t.get (F.PKT_PTP_SLVSTAT_STATE g) = 1 ∧
    t.get (F.PKT_PTP_SLVCUR g) = 0 ∧ t.get (F.PKT_PTP_SLVDELAY g) = 0 ∧ (t.slave g).cur = none ∧ (t.slave g).delay = none ∧
    (s.get (F.PKT_PTP_SLVSTAT_STATE g) ≠ 1 → Raised (155 + g) t)) ∧
  (g < 2 → s.get (F.PKT_PTP_SLVSTAT_STATE g) = 3 → Answers (.slaveSyncTimeout g) s fun t => t.get (F.PKT_PTP_SLVSTAT_STATE g) = 1 ∧ (t.slave g).cur = none ∧
    Raised (155 + g) t) ∧
  ((s.get F.PKT_SVC_STATE = 3 ∨ s.get F.PKT_SVC_STATE = 4) → s.boundOver = false → s.get F.PKT_SVCHOLD ≤ s.pkt.svcMs → Answers .svcholdExpiry s fun t =>
    t.get F.PKT_SVC_STATE = 2 ∧ Raised 144 t ∧ t.pkt = { s.pkt with svcMs := 0 })

/-- The configuration waybills of PKT wait for the next convoy close and take effect there (R292, R374).
The reports of PKT and the clearing of its grants (R284, R292); a stamp report says SPEC where a stamp in it is unconfirmed (R42, R367).
Completes by a next state: pktCfg, pktPortcfg, pktLimitcfg, pktAddrcfg, pktPtpcfg, pktSlavecfg, pktRefidcfg, pktCountreport, pktStampreport,
pktSlavereport, pktGrantclear, pktSvcreport. -/
def Obligations.PktWaybills : Prop :=
  (∀ (s : State) (h : WbHead) (a b c d e k : Nat), Ready h s → s.pkt.cfgs = [] → s.pkt.ready = [] →
  (a < 2048 → 1 ≤ b → b < 65536 → c < 256 → d < 65536 → e < 65536 → AtClose (.pktCfg h [w16 (s.get F.PKT_GEN), w16 a, w16 b, w16 c, w16 d, w16 e]) s fun t =>
    t.get F.PKT_CTRL % 2048 = a ∧ t.get F.PKT_SVCHOLD = b ∧ t.get F.PKT_NTPPREC % 256 = c ∧ t.get F.PKT_MISSLIM = d ∧ t.get F.PKT_HOSTMAX = e ∧
    (a % 2 = 0 → t.get F.PKT_SVC_STATE = 0) ∧ Completed h t (t.fw F.PKT_GEN)) ∧
  (k < 8 → a < 65536 → a ≠ s.get F.PKT_GEN → b < 2 ^ 48 → AtClose (.pktPortcfg h ([w16 k, w16 a] ++ wordsOf b 3)) s fun t =>
    Failed h t .genConflict ∧ t.pkt = s.pkt ∧ OnlyRegs ((List.range 8).map F.PKT_PORT_STAT) s t) ∧
  (∀ p4 p6 gm gd gb, 1 ≤ a → a < 65536 → 1 ≤ b → b < 65536 → 8 ≤ p4 → p4 ≤ 32 → 32 ≤ p6 → p6 ≤ 128 → c < 2 ^ 32 → d < 65536 → gm < 4096 → 10 ≤ gd →
    gd < 65536 → gb < 2 ^ 32 → AtClose (.pktLimitcfg h ([w16 (s.get F.PKT_GEN), w16 a, w16 b, w16 (p4 + 256 * p6)] ++ wordsOf c 2 ++ [w16 d, w16 gm, w16 gd]
      ++ wordsOf gb 2)) s fun t =>
    t.get F.PKT_ANONRATE = a ∧ t.get F.PKT_ANONBURST = b ∧ t.get F.PKT_ANONPFX_PFX4 = p4 ∧ t.get F.PKT_ANONPFX_PFX6 = p6 ∧ t.get F.PKT_ANONMAX = c ∧
    t.get F.PKT_KODMAX = d ∧ t.get F.PKT_GRANTMIN_ANN = gm % 16 ∧ t.get F.PKT_GRANTMIN_SYNC = gm / 16 % 16 ∧ t.get F.PKT_GRANTMIN_DRESP = gm / 256 ∧
    t.get F.PKT_GRANTMAXDUR = gd ∧ t.get F.PKT_GRANTBUDGET = gb ∧ t.pkt = s.pkt ∧ Completed h t [w16 (s.get F.PKT_GEN + 1)]) ∧
  (k < 8 → a < 32 → b < 4096 → c < 2 ^ 128 → AtClose (.pktAddrcfg h ([w16 k, w16 (s.get F.PKT_GEN), w16 a, w16 b] ++ wordsOf c 8)) s fun t =>
    t.get (F.PKT_ADDR_CFG k) % 32 = a ∧ t.get (F.PKT_ADDR_VLAN k) = b ∧ t.get (F.PKT_ADDR_IP k) = c ∧ t.pkt = s.pkt ∧
      Completed h t [w16 (s.get F.PKT_GEN + 1)] ∧
    OnlyRegs ([F.PKT_ADDR_CFG k, F.PKT_ADDR_VLAN k, F.PKT_ADDR_IP k, F.PKT_GEN] ++ (List.range 8).map F.PKT_PORT_STAT) s t) ∧
  (k < 8 → a < 2 ^ 48 → AtClose (.pktPortcfg h ([w16 k, w16 (s.get F.PKT_GEN)] ++ wordsOf a 3)) s fun t =>
    t.get (F.PKT_PORT_MAC k) = a ∧ t.pkt = s.pkt ∧ Completed h t [w16 (s.get F.PKT_GEN + 1)] ∧
      OnlyRegs ([F.PKT_PORT_MAC k, F.PKT_GEN] ++ (List.range 8).map F.PKT_PORT_STAT) s t) ∧
  (k < 2 → a < 512 → b < 256 → c < 65536 → d < 4096 → e < 256 → s.pkt.epoch.length = 2 →
    AtClose (.pktPtpcfg h [w16 k, w16 (s.get F.PKT_GEN), w16 a, w16 b, w16 c, w16 d, w16 e]) s fun t =>
    t.get (F.PKT_PTP_CFG k) % 512 = a ∧ t.get (F.PKT_PTP_DOMAIN k) = b ∧ t.get (F.PKT_PTP_PRIO k) = c ∧ t.get (F.PKT_PTP_INTV k) % 4096 = d ∧
    t.get (F.PKT_PTP_SPP k) = e ∧
    ((a % 2 ≠ s.get (F.PKT_PTP_CFG_EN k) ∨ b ≠ s.get (F.PKT_PTP_DOMAIN k)) → t.pkt.grants = s.pkt.grants.filter (fun x => x.group ≠ k) ∧
      t.pkt.epoch.getD k 0 = (s.pkt.epoch.getD k 0 + 1) % 65536) ∧
    (a % 2 = s.get (F.PKT_PTP_CFG_EN k) → b = s.get (F.PKT_PTP_DOMAIN k) → t.pkt = s.pkt) ∧ Completed h t [w16 (s.get F.PKT_GEN + 1)]) ∧
  (k < 2 → a < 4096 → a / 16 % 4 ≤ 2 → a / 64 % 4 = 0 → b < 2 ^ 64 → c < 2 ^ 128 → s.pkt.slaves.length = 2 →
    AtClose (.pktSlavecfg h ([w16 k, w16 (s.get F.PKT_GEN), w16 a] ++ wordsOf b 4 ++ wordsOf c 8)) s fun t =>
    t.get (F.PKT_PTP_SLVCFG_EN k) = a % 2 ∧ t.get (F.PKT_PTP_SLVCFG_PORT k) = a / 2 % 4 ∧ t.get (F.PKT_PTP_SLVMASTER k) = b ∧ t.get (F.PKT_PTP_SLVADDR k) = c ∧
    t.get (F.PKT_PTP_SLVSTAT_STATE k) = a % 2 ∧ t.get (F.PKT_PTP_SLVSTAT_GRANTED k) = 0 ∧ t.slave k = {} ∧ Completed h t (t.fw F.PKT_GEN)) ∧
  (k < 13 → a < 2 ^ 32 → AtClose (.pktRefidcfg h ([w16 (s.get F.PKT_GEN), w16 k] ++ wordsOf a 2)) s fun t =>
    t.get (if k = 12 then F.PKT_REFIDHOLD else F.PKT_REFID k) = a ∧ t.pkt = s.pkt ∧ Completed h t [w16 (s.get F.PKT_GEN + 1)] ∧
    OnlyRegs ([if k = 12 then F.PKT_REFIDHOLD else F.PKT_REFID k, F.PKT_GEN] ++ (List.range 8).map F.PKT_PORT_STAT) s t)) ∧
  (∀ (s : State) (h : WbHead) (a n k : Nat) (ps : List Word), Ready h s →
  (a < 33 → a + n ≤ 33 → Answers (.pktCountreport h [w16 a, w16 n]) s fun t =>
    Completed h t ((List.range n).flatMap (fun i => s.fw (F.PKT_CNT (a + i)))) ∧ OnlyRegs [] s t) ∧
  (a < 8 → a + n ≤ 8 → (s.entryOf h).spec = false → (List.range n).all (fun i => (s.latched 3 (F.PKT_PORT_LASTST (a + i)).addr).isNone) = true →
    Answers (.pktStampreport h [w16 a, w16 n]) s fun t =>
    Completed h t ((List.range n).flatMap (fun i => s.fw (F.PKT_PORT_LASTST (a + i)) ++ s.fw (F.PKT_PORT_LASTTX (a + i)))) ∧
    (t.manifestAt h.ring h.slot).any (fun x => x.spec = (List.range n).any (fun i => s.on (F.PKT_PORT_LASTST_SPEC (a + i)))) = true ∧ OnlyRegs [] s t) ∧
  (k < 2 → Answers (.pktSlavereport h [w16 k]) s fun t =>
    Completed h t (s.fw (F.PKT_PTP_SLVSTAT k) ++ s.fw (F.PKT_PTP_SLVCUR k) ++ s.fw (F.PKT_PTP_SLVOFF k) ++ s.fw (F.PKT_PTP_SLVDELAY k) ++ s.fw
      (F.PKT_PTP_SLVCHG k)) ∧
    t.get (F.PKT_PTP_SLVCHG k) = 0 ∧ OnlyRegs [F.PKT_PTP_SLVCHG k] s t) ∧
  (k < 3 → s.pkt.cfgs = [] → s.pkt.ready = [] → s.pkt.epoch.length = 2 → AtClose (.pktGrantclear h [w16 (s.get F.PKT_GEN), w16 k]) s fun t =>
    t.pkt.grants = s.pkt.grants.filter (fun x => (x.group ≠ 0 || k = 1) && (x.group ≠ 1 || k = 0)) ∧
    Completed h t ([w16 (s.get F.PKT_GEN + 1)] ++ wordsOf (s.pkt.grants.length - t.pkt.grants.length) 2) ∧
    OnlyRegs ([F.PKT_GEN, F.PKT_GRANTCNT, F.PKT_GRANTLOAD] ++ (List.range 8).map F.PKT_PORT_STAT) s t) ∧
  (Answers (.pktSvcreport h ps) s fun t => Completed h t (s.fw F.PKT_SVC ++ s.fw F.PKT_EVT ++ s.fw F.PKT_GRANTLOAD ++ s.fw F.PKT_GRANTCNT) ∧ OnlyRegs [] s t))

/-! ### Authentication (spec/11) -/

/-- The verdicts (R295, R302, R306, R307): the first job is decided with the key store as it stands, and none while a tag job waits; an NTP-MAC request passes exactly with the
AES-CMAC of its bytes under a usable slot of that key ID, and a malformed NTS request fails its first check.
Completes by a next state: authVerifyJob, authCancel. -/
def Obligations.AuthVerdicts : Prop := ∀ (s : State) (id : Nat) (g : Bool), s.past 3 = true → s.seq.st ≠ .safe → s.intc.running = true →
  (∀ j r, s.auth.jobs = j :: r → j = .verify id g → (g = true ∨ r.any (isVerify true) = false) →
    r.all (fun k => isVerify true k || isVerify false k) = true → Answers .authVerifyJob s fun t => t.auth.jobs = r ∧
    (∀ q, s.req? id = some q → (t.req? id).any (fun x => x.ver = some (s.verdict q)) = true) ∧ (s.req? id = none → t.pkt = s.pkt) ∧ OnlyRegs [] s t) ∧
  (s.auth.jobs.any (fun j => j.slot.isSome) = true → Answers .authVerifyJob s fun t => t = s) ∧
  (∀ q, s.req? id = some q → ∀ e d m, (match q.body with | .ntp x => x.ext | _ => .none) = .mac e d m → (match s.verdict q with
    | .pass l _ _ _ _ => s.slotsUsed.any (fun n => l = [n] && s.keyType n = 3 && (s.keyState n = 2 || s.keyState n = 3) &&
        s.get (F.AUTH_SLOT_KEYID n) = e && cmac (s.keyBytes n) d = m)
    | .fail c => c = 7 || c = 8) = true) ∧
  (s.auth.jobs.contains (.verify id g) = true → Answers (.authCancel id) s fun t => t.auth.jobs.contains (.verify id true) = false ∧
    t.auth.jobs.contains (.verify id false) = false ∧ (∀ q, t.req? id = some q → q.ver = none) ∧ OnlyRegs [] s t)

/-- Failures of a second, the DRBG, the mint stages (R305, R309, R315).
The states of key slots (R312, R313): a change takes effect at its boundary; as a slot becomes CURRENT no other slot of its kind stays CURRENT;
a zeroised slot reads EMPTY everywhere, its key and its stored record gone; a double error makes a slot FAULTED.
Rotation (R316): the new slot becomes CURRENT at its activation, the old one is erased at its retirement, and the waybill then completes; an old slot
that jobs hold is zeroised after them.
Completes by a next state: authFailSecond, drbgReseed, mintStageExpiry, keyStateEffect, zeroiseComplete, keystoreEccError, rotationActivate,
rotationRetire. -/
def Obligations.KeyLife : Prop :=
  (∀ (s : State) (n : Nat), s.past 3 = true → s.seq.st ≠ .safe → s.intc.running = true →
  (Answers .authFailSecond s fun t => t.auth = { s.auth with failSec := 0 } ∧
    (s.get F.AUTH_FAILLIM < s.auth.failSec → t.get F.AUTH_EVT_FAILRATE = 1 ∧ (s.on F.AUTH_EVT_FAILRATE = false → Raised 160 t)) ∧
    (s.auth.failSec ≤ s.get F.AUTH_FAILLIM → t.get F.AUTH_EVT_FAILRATE = s.get F.AUTH_EVT_FAILRATE) ∧ OnlyRegs [F.AUTH_EVT_FAILRATE] s t) ∧
  (Answers (.drbgReseed true) s fun t => t.get F.AUTH_STAT_DRBGOK = 1 ∧ OnlyRegs [F.AUTH_STAT_DRBGOK] s t) ∧
  (s.on F.AUTH_STAT_DRBGOK = true → Answers (.drbgReseed false) s fun t => t.get F.AUTH_STAT_DRBGOK = 0 ∧ t.get F.AUTH_EVT_DRBGFAIL = 1 ∧
    (s.on F.AUTH_EVT_DRBGFAIL = false → Raised 165 t)) ∧
  (s.auth.stages.any (fun p => p.1 = n) = true → Answers (.mintStageExpiry n) s fun t => t.auth.stages.any (fun p => p.1 = n) = false ∧ OnlyRegs [] s t)) ∧
  (∀ (s : State) (n : Nat), s.past 3 = true → s.seq.st ≠ .safe → s.intc.running = true → n < 1024 →
  s.slotsUsed.all (fun m => m < 1024) = true →
  (∀ c r, s.auth.changes = c :: r → r = [] → c.slot = n → c.state < 8 → s.keyState n ≠ 4 → Answers .keyStateEffect s fun t => t.keyState n = c.state ∧
    t.auth.changes = [] ∧
    t.get F.AUTH_GEN = (s.get F.AUTH_GEN + 1) % 65536 ∧
    (c.state = 2 → ∀ m, m ∈ s.slotsUsed → m ≠ n → s.sameKind m n = true → t.keyState m ≠ 2) ∧
    (∀ m, m < 1024 → m ≠ n → t.keyState m = s.keyState m ∨ s.keyState m = 2 ∧ t.keyState m = 3) ∧ t.auth.keys = s.auth.keys) ∧
  (s.zeroising n = true → s.keyHeld n = false → Answers (.zeroiseComplete n) s fun t => t.keyState n = 0 ∧ t.keyType n = 0 ∧ t.keyBytes n = [] ∧
    t.get (F.AUTH_SLOT_KEYID n) = 0 ∧ t.get (F.AUTH_SLOT_KCV n) = 0 ∧ t.store.keys.all (fun k => k.slot ≠ n) = true ∧ t.zeroising n = false ∧
    t.get F.AUTH_GEN = (s.get F.AUTH_GEN + 1) % 65536 ∧ (∀ m, m < 1024 → m ≠ n → t.keyState m = s.keyState m ∧ t.keyBytes m = s.keyBytes m)) ∧
  (s.keyState n ≠ 0 → Answers (.keystoreEccError n true) s fun t => t.keyState n = 4 ∧ t.get F.AUTH_GEN = (s.get F.AUTH_GEN + 1) % 65536 ∧
    t.get F.AUTH_EVT_KEYECC = 1 ∧ (∀ m, m < 1024 → m ≠ n → t.keyState m = s.keyState m)) ∧
  (s.keyState n ≠ 0 → Answers (.keystoreEccError n false) s fun t => t.get F.AUTH_ECCCORR = satNat 16 (s.get F.AUTH_ECCCORR + 1) ∧ t.auth = s.auth ∧
    OnlyRegs [F.AUTH_ECCCORR] s t)) ∧
  (∀ (s : State) (n : Nat), s.past 3 = true → s.seq.st ≠ .safe → s.intc.running = true → n < 1024 →
  s.slotsUsed.all (fun m => m < 1024) = true →
  (∀ x r, s.auth.rots = x :: r → x.new = n → x.activated = false → x.act ≤ s.secNow → 1 ≤ x.delay → s.keyState n ≠ 4 → x.gen = s.get F.AUTH_GEN →
    Answers (.rotationActivate n) s fun t =>
    t.keyState n = 2 ∧ t.get F.AUTH_GEN = (s.get F.AUTH_GEN + 1) % 65536 ∧ Raised 162 t ∧ (∀ m, m ∈ s.slotsUsed → m ≠ n → s.sameKind m n = true →
      t.keyState m ≠ 2)) ∧
  (∀ x r, s.auth.rots = x :: r → x.new = n → x.activated = true → x.retiring = false → x.act + x.delay ≤ s.secNow → ∀ o, x.old = some o →
    s.keyHeld o = false → o < 1024 →
    s.canWrite x.wb.ring x.wb.slot = true → Answers (.rotationRetire n) s fun t => t.keyState o = 0 ∧ t.keyBytes o = [] ∧ Raised 163 t ∧
      Completed x.wb t (x.results ++ s.rotRecord 2 o) ∧ t.auth.rots.all (fun y => y.wb ≠ x.wb) = true) ∧
  (∀ x r, s.auth.rots = x :: r → x.new = n → x.activated = true → x.retiring = false → x.act + x.delay ≤ s.secNow → ∀ o, x.old = some o → s.keyHeld o = true →
    Answers (.rotationRetire n) s fun t => t.keyState o = s.keyState o ∧ t.keyBytes o = s.keyBytes o ∧ t.zeroising o = true ∧ OnlyRegs [] s t))

/-- Key material through waybills (R310, R311, R313, R316): a loaded key fills an EMPTY slot and shows only its check value.
Completes by a next state: authKeyload, authKeystate, authZeroise, authRotate, authRotstop. -/
def Obligations.KeyWaybills : Prop := ∀ (s : State) (h : WbHead) (n ty pe id spp st k : Nat) (key : List Word), Ready h s → n < 1024 →
  (s.keyState n = 0 → 1 ≤ ty → ty ≤ 5 → ty ≠ 3 → pe < 2 → spp < 256 → id < 2 ^ 32 → 2 * key.length = keyLen ty → (kcvOf ty (wordBytes key) < 2 ^ 24) →
    s.slotsUsed.contains n = false →
    Answers (.authKeyload h ([w16 n, w16 (s.get F.AUTH_GEN), w16 (ty + 16 * pe), 0] ++ wordsOf id 2 ++ [w16 spp] ++ key)) s fun t =>
      t.keyBytes n = wordBytes key ∧ t.keyType n = ty ∧ t.keyState n = 0 ∧ t.auth.changes = s.auth.changes ++ [⟨n, 1⟩] ∧
        t.get (F.AUTH_SLOT_KCV n) = kcvOf ty (wordBytes key) ∧
      (ty = 4 → t.get (F.AUTH_SLOT_KEYID n) = id ∧ t.get (F.AUTH_SLOT_SPP n) = spp) ∧ t.get (F.AUTH_SLOT_USES n) = 0 ∧
      t.get F.AUTH_GEN = (s.get F.AUTH_GEN + 1) % 65536 ∧ (∀ m, m < 1024 → m ≠ n → t.keyState m = s.keyState m ∧ t.keyBytes m = s.keyBytes m) ∧
      OnlyRegs [F.AUTH_SLOT_CFG n, F.AUTH_SLOT_KEYID n, F.AUTH_SLOT_SPP n, F.AUTH_SLOT_KCV n, F.AUTH_SLOT_USES n, F.AUTH_USED, F.AUTH_SERIAL, F.AUTH_GEN] s t) ∧
  (s.slotsUsed.contains n = true → 1 ≤ ty → ty ≤ 5 → 2 * key.length = keyLen ty →
    Answers (.authKeyload h ([w16 n, w16 (s.get F.AUTH_GEN), w16 ty, 0, 0, 0, 0] ++ key)) s fun t =>
      Failed h t .notPermitted ∧ t.auth = s.auth ∧ OnlyRegs [] s t) ∧
  (1 ≤ st → st ≤ 3 → s.keyState n ≠ 0 → s.keyState n ≠ 4 → (s.keyType n ≠ 5 ∨ st = 1) → s.rotsOf n = [] → s.zeroising n = false →
    Answers (.authKeystate h [w16 n, w16 (s.get F.AUTH_GEN), w16 st]) s fun t => t.auth = { s.auth with changes := s.auth.changes ++ [⟨n, st⟩] } ∧
      t.keyState n = s.keyState n ∧ Completed h t [w16 (s.get F.AUTH_GEN + 1)] ∧ OnlyRegs [F.AUTH_GEN] s t) ∧
  (s.slotsUsed.contains n = true → s.auth.rots = [] → Answers (.authZeroise h [w16 (s.get F.AUTH_GEN), w16 n]) s fun t => t.zeroising n = true ∧
    t.auth.stages = s.auth.stages ∧ OnlyRegs [] s t) ∧
  (s.slotsUsed.contains n = false → s.auth.rots = [] → Answers (.authZeroise h [w16 (s.get F.AUTH_GEN), w16 n]) s fun t =>
    Completed h t [w16 (s.get F.AUTH_GEN), 0] ∧ t.auth = s.auth ∧ OnlyRegs [] s t) ∧
  (∀ act d, act < 2 ^ 64 → d < 2 ^ 32 → (s.keyType n = 1 ∨ s.keyType n = 2) → s.keyState n = 1 → s.zeroising n = false → s.on F.TBASE_STAT_TIMESET = true →
    s.auth.rots.any (fun r => !r.ptp && r.spp = 0) = false →
      Answers (.authRotate h ([w16 (s.get F.AUTH_GEN), w16 n] ++ wordsOf act 4 ++ wordsOf d 2)) s fun t =>
      Shows h t .running .ok [] ∧ t.get F.AUTH_STAT_ROTNTS = 1 ∧ t.keyState n = 1 ∧ t.auth.rots = s.auth.rots ++
        [{ wb := h, gen := s.get F.AUTH_GEN, ptp := false, spp := 0, new := n, start := s.secNow, act := if act = 0 then s.secNow else act, delay := d }]) ∧
  (k < 2 → spp < 256 → s.auth.rots = [] → Answers (.authRotstop h [w16 k, w16 spp]) s fun t => Completed h t [] ∧ t.auth = s.auth ∧ OnlyRegs [] s t)

/-- The other waybills of AUTH (R304, R305, R319).
Completes by a next state: authCfg, authCookiemint, authMintstage, authKeyreport, authCountreport, authSelftest. -/
def Obligations.AuthWaybills : Prop := ∀ (s : State) (h : WbHead) (a n k c : Nat) (ps keys : List Word), Ready h s →
  (c < 64 → 1 ≤ c / 4 → c / 4 ≤ 8 → a < 65536 → Answers (.authCfg h [w16 (s.get F.AUTH_GEN), w16 c, w16 a]) s fun t => t.get F.AUTH_CTRL_EN256 = c % 2 ∧
    t.get F.AUTH_CTRL_EN512 = c / 2 % 2 ∧ t.get F.AUTH_CTRL_MAXCK = c / 4 ∧ t.get F.AUTH_FAILLIM = a ∧ t.auth = s.auth ∧
    Completed h t [w16 (s.get F.AUTH_GEN + 1)] ∧ OnlyRegs [F.AUTH_CTRL, F.AUTH_FAILLIM, F.AUTH_GEN] s t) ∧
  (n ≤ 8 → keys.length = 32 → s.on F.AUTH_STAT_CURVALID = true → s.zeroising (s.get F.AUTH_CURNTS) = false → s.on F.AUTH_STAT_DRBGOK = true →
    s.on F.AUTH_CTRL_EN256 = true → s.auth.jobs = [] → Answers (.authCookiemint h ([15, w16 n] ++ keys)) s fun t =>
      (t.manifestAt h.ring h.slot).any (fun m => m.state = .done && m.results.length = 52 * n) = true ∧ t.auth = s.auth ∧ OnlyRegs [] s t) ∧
  (keys.length = 32 → Answers (.authCookiemint h ([15, 0] ++ keys)) s fun t => Completed h t [] ∧ t.auth = s.auth ∧ OnlyRegs [] s t) ∧
  (1 ≤ n → n ≤ 8 → keys.length = 32 → (s.on F.AUTH_STAT_CURVALID = false ∨ s.on F.AUTH_STAT_DRBGOK = false ∨ s.on F.AUTH_CTRL_EN256 = false) →
    s.auth.jobs = [] →
    Answers (.authCookiemint h ([15, w16 n] ++ keys)) s fun t => Failed h t .notPermitted ∧ t.auth = s.auth ∧ OnlyRegs [] s t) ∧
  (1 ≤ n → n ≤ 8 → k < 4 → (s.auth.stages.all (fun p => p.1 ≠ k) = true) → s.auth.jobs = [] →
    Answers (.authCookiemint h [17, w16 n, w16 k]) s fun t => Failed h t .notPermitted ∧
    OnlyRegs [] s t) ∧
  (1 ≤ n → n ≤ 8 → keys.length = 32 → s.auth.jobs ≠ [] → Answers (.authCookiemint h ([15, w16 n] ++ keys)) s fun t =>
    t.auth = { s.auth with mints := s.auth.mints ++ [(h, [15, w16 n] ++ keys)] } ∧ t.mgmt.manifests = s.mgmt.manifests ∧ OnlyRegs [] s t) ∧
  (k < 4 → keys.length = 32 → s.auth.stages = [] → Answers (.authMintstage h ([w16 k, 0] ++ keys)) s fun t => Completed h t [] ∧
    t.auth.stages = [(k, { c2s := some (wordBytes keys) })] ∧ OnlyRegs [] s t) ∧
  (k < 4 → keys.length = 32 → s.auth.stages = [] → Answers (.authMintstage h ([w16 k, 1] ++ keys)) s fun t => Completed h t [] ∧
    t.auth.stages = [(k, { s2c := some (wordBytes keys) })] ∧ OnlyRegs [] s t) ∧
  (a < 1024 → n ≤ 16 → a + n ≤ 1024 → Answers (.authKeyreport h [w16 a, w16 n]) s fun t =>
    Completed h t ((List.range n).flatMap (fun i => s.rdWords (F.AUTH_SLOT_CFG (a + i)).addr 8)) ∧ t.auth = s.auth ∧ OnlyRegs [] s t) ∧
  (a < 14 → a + n ≤ 14 → Answers (.authCountreport h [w16 a, w16 n]) s fun t =>
    Completed h t ((List.range n).flatMap (fun i => s.fw (F.AUTH_CNT (a + i)))) ∧ OnlyRegs [] s t) ∧
  (Answers (.authSelftest h ps) s fun t => Completed h t [0x1F] ∧ OnlyRegs [] s t)

/-! ### Client table (spec/12) -/

/-- CTAB's answer to a lookup (R264, R321, R325, R326, R331): unknown while a bucket is rebuilt, anonymous where no entry holds the key, bad where the
entry is BAD; an entry under lease or SUSPECT makes it wait, and so does an earlier request of the same key; else the entry's permits and its bucket decide, and nothing
outside the entry moves.
Completes by a next state: lookupDecide. -/
def Obligations.TableLookups : Prop := ∀ (s : State) (id : Nat), s.ctabUp = true → s.intc.running = true →
  (∀ b r, s.req? id = some r → r.dec = none → s.turn r = false → Answers (.lookupDecide id b) s fun t => t = s) ∧
  (∀ r, s.req? id = some r → r.dec = none → r.looksUp = true → s.turn r = true → s.findKey r.key = none → s.rebuilding r.key = true →
    Answers (.lookupDecide id false) s fun t =>
    (t.req? id).any (fun q => q.dec = some .unknown) = true ∧ t.get F.CTAB_REBDROP = satNat 16 (s.get F.CTAB_REBDROP + 1) ∧ t.mem = s.mem ∧
    OnlyRegs [F.CTAB_LOOKUPS, F.CTAB_REBDROP] s t) ∧
  (∀ r, s.req? id = some r → r.dec = none → r.looksUp = true → s.turn r = true → s.findKey r.key = none → s.rebuilding r.key = false →
    Answers (.lookupDecide id false) s fun t =>
    (t.req? id).any (fun q => q.dec = some .anon) = true ∧ t.get F.CTAB_LOOKUPS = (s.get F.CTAB_LOOKUPS + 1) % 2 ^ 32 ∧ t.mem = s.mem ∧
    OnlyRegs [F.CTAB_LOOKUPS] s t) ∧
  (∀ r, s.req? id = some r → ∀ n, s.findKey r.key = some n → r.dec = none → (s.mayLease n (.decide r.id) = false ∨ s.eBit n 1 = true ∧ s.eBad n = false) →
    Answers (.lookupDecide id false) s fun t =>
    t.pkt = s.pkt ∧ t.mem = s.mem ∧ OnlyRegs [] s t) ∧
  (∀ r, s.req? id = some r → ∀ n, s.findKey r.key = some n → r.dec = none → r.looksUp = true → s.turn r = true → s.mayLease n (.decide r.id) = true →
    s.eBad n = true →
    Answers (.lookupDecide id false) s fun t => (t.req? id).any (fun q => q.dec = some .bad) = true ∧
      t.get F.CTAB_BADHIT = satNat 16 (s.get F.CTAB_BADHIT + 1) ∧
      (s.get F.CTAB_BADHIT = 0 → Raised 182 t) ∧ t.mem = s.mem) ∧
  (∀ r, s.req? id = some r → ∀ n, s.findKey r.key = some n → r.id = id → r.dec = none → r.looksUp = true → s.turn r = true →
    s.mayLease n (.decide r.id) = true → s.eBit n 1 = false → s.eBad n = false → n < 2 ^ 22 →
    Answers (.lookupDecide id false) s fun t => t.get F.CTAB_HITS = (s.get F.CTAB_HITS + 1) % 2 ^ 32 ∧ t.eGet n 0x40 8 = stamp64 r.rx ∧
      t.eGet n 0xB0 4 = satNat 32 (s.eGet n 0xB0 4 + 1) ∧ (∀ a, (a < entAddr n ∨ entAddr n + 0x100 ≤ a) → t.byte a = s.byte a) ∧
      (s.ePermit n / 2 ^ classPermit r.cls % 2 = 0 → (t.req? id).any (fun q => q.dec = some .denied) = true ∧
        t.eGet n 0xB8 4 = satNat 32 (s.eGet n 0xB8 4 + 1)) ∧
      (s.ePermit n / 2 ^ classPermit r.cls % 2 = 1 →
        256 ≤ refill (s.eGet n 0x20 4) (s.eGet n 0x24 2) (s.eGet n 0x28 4) (stampNs (stamp64 r.rx) - stampNs (s.eGet n 0x2C 8)) →
        t.eGet n 0x28 4 = refill (s.eGet n 0x20 4) (s.eGet n 0x24 2) (s.eGet n 0x28 4) (stampNs (stamp64 r.rx) - stampNs (s.eGet n 0x2C 8)) - 256 ∧
        t.eGet n 0xB8 4 = s.eGet n 0xB8 4 ∧ (t.req? id).any (fun q => match q.dec with | some (.grant d) => d.entry = n && d.gen = s.eGen n | _ => false) =
          true) ∧
      (s.ePermit n / 2 ^ classPermit r.cls % 2 = 1 →
        refill (s.eGet n 0x20 4) (s.eGet n 0x24 2) (s.eGet n 0x28 4) (stampNs (stamp64 r.rx) - stampNs (s.eGet n 0x2C 8)) < 256 →
        (t.req? id).any (fun q => q.dec = some .denied) = true ∧ t.eGet n 0xB8 4 = satNat 32 (s.eGet n 0xB8 4 + 1)))

/-- Commits (R330, R332): one whose entry has changed is discarded and counted; else it changes its entry (and histograms) alone; the interleaved part
of one whose receive stamp is older than IRX is left out and counted.
Leases (R328, R329, R431).
Completes by a next state: ctabCommit, leaseRelease, leaseExpiry, leaseReread, forcedRelease. -/
def Obligations.CommitsAndLeases : Prop :=
  (∀ s : State, s.ctabUp = true → s.intc.running = true →
  (∀ c r, s.ctab.commits = c :: r → s.mayLease c.entry (.commit c) = true → (s.eValid c.entry = false ∨ s.eGen c.entry ≠ c.gen) →
    Answers (.ctabCommit false) s fun t =>
    t.ctab.commits = r ∧ t.get F.CTAB_STALECMT = satNat 16 (s.get F.CTAB_STALECMT + 1) ∧ t.mem = s.mem ∧ OnlyRegs [F.CTAB_STALECMT] s t) ∧
  (∀ c r, s.ctab.commits = c :: r → s.mayLease c.entry (.commit c) = true → s.eValid c.entry = true → s.eGen c.entry = c.gen → c.entry < 2 ^ 22 →
    Answers (.ctabCommit false) s fun t => t.ctab.commits = r ∧ t.eGen c.entry = c.gen ∧
      t.eGet c.entry 0xFC 4 = crc32 (t.memBytes (entAddr c.entry) 0xFC) ∧
      (∀ a, (a < entAddr c.entry ∨ entAddr c.entry + 0x400 ≤ a) → (a < histAddr c.entry ∨ histAddr c.entry + 0x200 ≤ a) → t.byte a = s.byte a) ∧
      (match c with
        | .resp .. => t.eGet c.entry 0xB4 4 = satNat 32 (s.eGet c.entry 0xB4 4 + 1)
        | .grant _ _ k v p => k < 3 → v < 2 ^ 128 → p < 2 ^ 80 → (s.grantLive c.entry v = true → t.eGrant c.entry k = v) ∧ t.eGet c.entry 0xA0 10 = p
        | .party _ _ p => p < 2 ^ 80 → t.eGet c.entry 0xA0 10 = p
        | .lost .. => t.eGet c.entry 0xC0 4 = satNat 32 (s.eGet c.entry 0xC0 4 + 1) ∧ t.eGet c.entry 0x68 2 / 2 % 2 = 0
        | .failed .. => t.eGet c.entry 0xBC 4 = satNat 32 (s.eGet c.entry 0xBC 4 + 1))) ∧
  (∀ e g rx tx kind cls inter again xmt bound prev r, s.ctab.commits = .resp e g rx tx kind cls inter again xmt bound prev :: r → s.leased e = false →
    s.ctab.queue = [] →
    s.eValid e = true → s.eGen e = g → e < 2 ^ 22 → cls < 3 → s.eGet e 0x68 2 % 2 = 1 → time128 rx < s.eGet e 0x48 16 → Answers (.ctabCommit false) s fun t =>
      t.get F.CTAB_STALECMT = satNat 16 (s.get F.CTAB_STALECMT + 1) ∧ t.eGet e 0x48 32 = s.eGet e 0x48 32 ∧ t.eGet e 0x68 2 = s.eGet e 0x68 2 ∧
      t.eGet e 0xB4 4 = satNat 32 (s.eGet e 0xB4 4 + 1)) ∧
  (∀ c r, s.ctab.commits = c :: r → s.mayLease c.entry (.commit c) = true → Answers (.ctabCommit true) s fun t =>
    t.ctab.commits = r ∧ t.leased c.entry = true ∧ t.mem = s.mem ∧ OnlyRegs [] s t)) ∧
  (∀ (s : State) (n : Nat), s.ctabUp = true → s.intc.running = true → n < 2 ^ 22 →
  (∀ l r, s.ctab.leases = l :: r → l.entry = n → ∀ c, l.op = .commit c → Answers (.leaseRelease n) s fun t => t.leased n = false ∧
    ((s.eValid c.entry = false ∨ s.eGen c.entry ≠ c.gen) → t.mem = s.mem ∧ t.get F.CTAB_STALECMT = satNat 16 (s.get F.CTAB_STALECMT + 1))) ∧
  (s.leased n = true → Answers (.leaseExpiry n) s fun t => t.leased n = false ∧ t.eBit n 1 = true ∧
    t.get F.CTAB_LEASEEXP = satNat 16 (s.get F.CTAB_LEASEEXP + 1) ∧
    Raised 179 t ∧ t.eGen n = s.eGen n ∧ OnlyRegs [F.CTAB_LEASEEXP] s t) ∧
  (s.leased n = false → s.eBit n 1 = true → s.eBad n = false → s.eGet n 0xFC 4 = crc32 (s.memBytes (entAddr n) 0xFC) → Answers (.leaseReread n true) s fun t =>
    t.eBit n 1 = false ∧ t.eValid n = s.eValid n ∧ t.eBad n = s.eBad n ∧ OnlyRegs [] s t) ∧
  (s.leased n = false → s.eBit n 1 = true → s.eBad n = false → s.eGet n 0xFC 4 ≠ crc32 (s.memBytes (entAddr n) 0xFC) → Answers (.leaseReread n true) s fun t =>
    t.eBad n = true ∧ t.eBit n 1 = true ∧ t.get F.CTAB_BADCNT = (s.get F.CTAB_BADCNT + 1) % 2 ^ 23 ∧ OnlyRegs [F.CTAB_BADCNT] s t) ∧
  (s.leased n = false → s.eBit n 1 = true → s.eBad n = false → Answers (.leaseReread n false) s fun t =>
    t.eBad n = true ∧ t.get F.CTAB_ECCUNC = satNat 16 (s.get F.CTAB_ECCUNC + 1) ∧ t.get F.CTAB_ECCLAST = entAddr n ∧ Raised 177 t) ∧
  (s.get F.FCOL_FENCEMAP ≠ 0 → Answers .forcedRelease s fun t => t.get F.CTAB_FORCEREL = satNat 16 (s.get F.CTAB_FORCEREL + 1) ∧ Raised 183 t ∧
    (s.bit F.FCOL_FENCEMAP 6 = true → t.ctab.bulks = []) ∧ (s.bit F.FCOL_FENCEMAP 6 = false → t.ctab = s.ctab) ∧ t.mem = s.mem))

/-- Memory errors (R321, R326, R339).
Completes by a next state: patrolScrub, eccUncorrectable, indexRebuildDone, memoryDieTemperature, dqsTrack, zqRecal. -/
def Obligations.MemoryErrors : Prop := ∀ (s : State) (k n : Nat) (b : Bool), s.ctabUp = true → s.intc.running = true →
  (1 ≤ n → Answers (.patrolScrub n) s fun t => t.get F.CTAB_ECCCORR = satNat 16 (s.get F.CTAB_ECCCORR + n) ∧ t.mem = s.mem ∧ OnlyRegs [F.CTAB_ECCCORR] s t) ∧
  (Answers (.patrolScrub 0) s fun t => t.ctab = s.ctab ∧ OnlyRegs [] s t) ∧
  (k < 2 ^ 22 → n < 0x400 → s.on (F.HIF_DMA_STAT_BUSY 1) = false → Answers (.eccUncorrectable (entAddr k + n)) s fun t => t.eBad k = true ∧
    t.get F.CTAB_ECCUNC = satNat 16 (s.get F.CTAB_ECCUNC + 1) ∧ t.get F.CTAB_ECCLAST = entAddr k + n ∧ Raised 177 t ∧
    (∀ a, (a < entAddr k ∨ entAddr k + 0x100 ≤ a) → t.byte a = s.byte a)) ∧
  (k < 2 ^ 22 → n < 64 → s.on (F.HIF_DMA_STAT_BUSY 1) = false → Answers (.eccUncorrectable (idxBase + 64 * k + n)) s fun t => t.get F.CTAB_STAT_REBUILD = 1 ∧
    t.ctab.rebuild.contains k = true ∧ (∀ i, i < 8 → t.way k i = 0) ∧ Raised 180 t ∧ (∀ a, a < idxBase → t.byte a = s.byte a)) ∧
  (k < 2 ^ 22 → n < 0x200 → s.on (F.HIF_DMA_STAT_BUSY 1) = false → Answers (.eccUncorrectable (histAddr k + n)) s fun t => t.memN (histAddr k) 0x200 = 0 ∧
    Raised 177 t ∧ (∀ a, (a < histAddr k ∨ histAddr k + 0x200 ≤ a) → t.byte a = s.byte a)) ∧
  (n < 0x3C000000 → s.on (F.HIF_DMA_STAT_BUSY 1) = false → s.ctab.bulks = [] → Answers (.eccUncorrectable (loadBase + n)) s fun t => Raised 177 t ∧
    t.mem = s.mem ∧
    t.get F.CTAB_ECCLAST = loadBase + n) ∧
  (s.ctab.rebuild ≠ [] → Answers .indexRebuildDone s fun t => t.ctab.rebuild = [] ∧ t.get F.CTAB_STAT_REBUILD = 0 ∧ Raised 181 t ∧
    t.get F.CTAB_ENTRIES = s.get F.CTAB_ENTRIES) ∧
  (Answers (.memoryDieTemperature b) s fun t => t.ctab = { s.ctab with refresh2 := b } ∧ t.mem = s.mem ∧ OnlyRegs [] s t) ∧
  (Answers .dqsTrack s fun t => t.ctab = s.ctab ∧ t.mem = s.mem ∧ OnlyRegs [] s t) ∧
  (Answers .zqRecal s fun t => t.ctab = s.ctab ∧ t.mem = s.mem ∧ OnlyRegs [] s t)

/-- The items of bulk operations (R335 to R338): a load record is counted as applied or rejected; a sweep that only lists changes no entry; a dump
writes read-back staging alone; the last item completes the waybill; a fenced engine stands.
The waybills of CTAB (R336 to R338, R342).
Completes by a next state: loadRecordApply, sweepEntryVisit, dumpItemCopy, ctabCfg, ctabLoad, ctabSweep, ctabDump, ctabEntryread, ctabLookup,
ctabMemreport. -/
def Obligations.BulkOperations : Prop :=
  (∀ s : State, s.ctabUp = true → s.intc.running = true →
  (∀ b r, s.ctab.bulks = b :: r → ∀ h f l n rs, b = .load h f l n rs → s.running h = true → s.bit F.FCOL_FENCEMAP 6 = false →
    s.mayLease s.loadEntry .load = true →
    s.memN (loadBase + f * 320) 4 / 2 ^ 30 ≠ 3 → (s.memN (loadBase + f * 320) 4 / 2 ^ 30 = 0 → s.memN (loadBase + f * 320 + 4) 2 % 4 ≠ 3) →
    Answers (.loadRecordApply false) s fun t =>
    (t.get F.CTAB_LOADAPP = (s.get F.CTAB_LOADAPP + 1) % 2 ^ 32 ∧ t.get F.CTAB_LOADREJ = s.get F.CTAB_LOADREJ ∨
      t.get F.CTAB_LOADREJ = (s.get F.CTAB_LOADREJ + 1) % 2 ^ 32 ∧ t.get F.CTAB_LOADAPP = s.get F.CTAB_LOADAPP) ∧
    (4194303 < s.loadEntry → t.get F.CTAB_LOADREJ = (s.get F.CTAB_LOADREJ + 1) % 2 ^ 32 ∧ t.mem = s.mem)) ∧
  (∀ b r, s.ctab.bulks = b :: r → ∀ h f l n rs, b = .load h f l n rs → s.running h = true → s.bit F.FCOL_FENCEMAP 6 = false →
    s.mayLease s.loadEntry .load = true → s.loadEntry ≤ 4194303 → Answers (.loadRecordApply true) s fun t =>
    t.leased s.loadEntry = true ∧ t.mem = s.mem ∧ t.ctab.bulks = s.ctab.bulks) ∧
  (∀ b r, s.ctab.bulks = b :: r → ∀ h f l n fl i d a m rs, b = .sweep h f l n fl i d a m rs → a = 0 → s.running h = true → s.bit F.FCOL_FENCEMAP 6 = false →
    r = [] →
    s.canWrite h.ring h.slot = true → Answers .sweepEntryVisit s fun t => t.mem = s.mem ∧
      (l = 1 → (t.manifestAt h.ring h.slot).any (fun x => x.state = .done) = true ∧ t.ctab.bulks = [] ∧ t.get F.CTAB_STAT_BULKBUSY = 0 ∧ Raised 176 t)) ∧
  (∀ b r, s.ctab.bulks = b :: r → ∀ h k f l n, b = .dump h k f l n → s.running h = true → s.bit F.FCOL_FENCEMAP 6 = false → r = [] →
    s.canWrite h.ring h.slot = true → l ≤ n →
    n ≤ 524288 → Answers .dumpItemCopy s fun t => (∀ a, a < readBase → t.byte a = s.byte a) ∧
      (l = 1 → (t.manifestAt h.ring h.slot).any (fun x => x.state = .done && x.results = wordsOf n 2) = true ∧ t.ctab.bulks = [] ∧ Raised 176 t)) ∧
  (s.bit F.FCOL_FENCEMAP 6 = true → Answers (.loadRecordApply false) s (fun t => t = s) ∧ Answers .sweepEntryVisit s (fun t => t = s) ∧
    Answers .dumpItemCopy s (fun t => t = s))) ∧
  (∀ (s : State) (h : WbHead) (a b c d f n : Nat) (ps : List Word), Ready h s →
  (1 ≤ a → a < 16 → 1 ≤ b → b ≤ 168 → c < 65536 → 1 ≤ d → d < 65536 → Answers (.ctabCfg h [w16 (s.get F.CTAB_GEN), w16 a, w16 b, w16 c, w16 d]) s fun t =>
    t.get F.CTAB_BULKSHARE = a ∧ t.get F.CTAB_SCRUBH = b ∧ t.get F.CTAB_CELIM = c ∧ t.get F.CTAB_HISTW = d ∧ Completed h t [w16 (s.get F.CTAB_GEN + 1)] ∧
    t.mem = s.mem ∧ OnlyRegs [F.CTAB_BULKSHARE, F.CTAB_SCRUBH, F.CTAB_CELIM, F.CTAB_HISTW, F.CTAB_GEN] s t) ∧
  (1 ≤ n → f + n ≤ 3145728 → s.bulkBusy 0 = false → Answers (.ctabLoad h (wordsOf f 2 ++ wordsOf n 2)) s fun t => Shows h t .running .ok [] ∧
    t.get F.CTAB_LOADAPP = 0 ∧ t.get F.CTAB_LOADREJ = 0 ∧ t.get F.CTAB_STAT_BULKBUSY = 1 ∧ t.ctab.bulks = s.ctab.bulks ++ [.load h f n n []] ∧ t.mem = s.mem) ∧
  (f ≤ 3145727 → Answers (.ctabLoad h (wordsOf f 2 ++ wordsOf 0 2)) s fun t => Completed h t [] ∧ Raised 176 t ∧ t.ctab = s.ctab) ∧
  (f ≤ 4194304 → a < 32 → d < 3 → Answers (.ctabSweep h (wordsOf f 2 ++ wordsOf 0 2 ++ [w16 a, 0, 0, 0, 0, w16 d, 4096])) s fun t =>
    Completed h t [] ∧ Raised 176 t ∧ t.ctab = s.ctab) ∧
  (f ≤ 4194304 → a < 2 → Answers (.ctabDump h ([w16 a] ++ wordsOf f 2 ++ wordsOf 0 2)) s fun t => Completed h t [] ∧ Raised 176 t ∧ t.ctab = s.ctab) ∧
  (1 ≤ n → f + n ≤ 3145728 → s.bulkBusy 0 = true → Answers (.ctabLoad h (wordsOf f 2 ++ wordsOf n 2)) s fun t => Failed h t .busy ∧ Raised 176 t ∧
    t.ctab = s.ctab) ∧
  (1 ≤ n → f + n ≤ 4194304 → a < 32 → d < 3 → s.bulkBusy 1 = true →
    Answers (.ctabSweep h (wordsOf f 2 ++ wordsOf n 2 ++ [w16 a, 0, 0, 0, 0, w16 d, 4096])) s fun t => Failed h t .busy ∧ Raised 176 t ∧ t.ctab = s.ctab) ∧
  (1 ≤ n → f + n ≤ 4194304 → a < 2 → n ≤ 524288 → s.bulkBusy 2 = true → Answers (.ctabDump h ([w16 a] ++ wordsOf f 2 ++ wordsOf n 2)) s fun t =>
    Failed h t .busy ∧ Raised 176 t ∧ t.ctab = s.ctab) ∧
  (1 ≤ n → f + n ≤ 4194304 → a < 32 → b < 2 ^ 32 → c < 2 ^ 32 → d < 3 → s.bulkBusy 1 = false →
    Answers (.ctabSweep h (wordsOf f 2 ++ wordsOf n 2 ++ [w16 a] ++ wordsOf b 2 ++ wordsOf c 2 ++ [w16 d, 4096])) s fun t => Shows h t .running .ok [] ∧
      t.ctab.bulks = s.ctab.bulks ++ [.sweep h f n n a b c d 4096 []] ∧ t.get F.CTAB_STAT_BULKBUSY = 1 ∧ t.mem = s.mem) ∧
  (1 ≤ n → f + n ≤ 4194304 → a < 2 → n ≤ 524288 → s.bulkBusy 2 = false → Answers (.ctabDump h ([w16 a] ++ wordsOf f 2 ++ wordsOf n 2)) s fun t =>
    Shows h t .running .ok [] ∧ t.ctab.bulks = s.ctab.bulks ++ [.dump h (a = 1) f n n] ∧ t.get F.CTAB_STAT_BULKBUSY = 1 ∧ t.mem = s.mem) ∧
  (n ≤ 4194303 → Answers (.ctabEntryread h (wordsOf n 2)) s fun t => Completed h t (s.memWords (entAddr n) 128) ∧ t.mem = s.mem ∧ OnlyRegs [] s t) ∧
  (a < 8 → a % 4 ≠ 3 → b < 4096 → d < 2 ^ 128 → Answers (.ctabLookup h ([w16 a, w16 b] ++ wordsOf d 8)) s fun t =>
    Completed h t (match s.findKey ⟨a / 4, b, a % 4, d⟩ with | some k => wordsOf k 2 | none => [0xFFFF, 0xFFFF]) ∧ t.mem = s.mem ∧ OnlyRegs [] s t) ∧
  (Answers (.ctabMemreport h ps) s fun t => Completed h t (s.fw F.CTAB_STAT ++ s.rdWords F.CTAB_ENTRIES.addr 2 ++ s.rdWords F.CTAB_BADCNT.addr 2 ++
    s.fw F.CTAB_ECCCORR ++ s.fw F.CTAB_ECCUNC ++ s.rdWords F.CTAB_ECCLAST.addr 3 ++ s.fw F.CTAB_TRAIN) ∧ OnlyRegs [] s t))

/-! ### Error bounds (spec/13) -/

/-- What a tick publishes (R344, R345, R347, R349): the common bound is the sum of components 0 to 8, a port's bound adds twice its stamp term, and
both are saturated while time is not set or terms are missing; a tick leaves no configuration operation waiting.
The waybills of EBND (R350, R358): a configuration waits for the next tick and is applied there (State.ebndCfgs, which every tick begins EBND's work
with), its generation checked then.
Completes by a next state: dpllTick, ebndAsyncRepublish, ebndCfg, ebndRefunccfg, ebndReport, ebndPortreport, ebndHistory. -/
def Obligations.ErrorBounds : Prop :=
  (∀ (s : State) (b : Nat) (miss : List Nat), s.past 6 = true →
  (Answers (.dpllTick miss) s fun t => (s.ebnd.cfgs = [] → t.get F.EBND_SEQ = (s.get F.EBND_SEQ + 1) % 65536) ∧ t.ebnd.cfgs = [] ∧
    t.get (F.EBND_COMP 8) = 6400 ∧
    (t.on F.TBASE_STAT_TIMESET = true → t.on F.EBND_STAT_STALE = false → (∀ i, i < 9 → t.get (F.EBND_COMP i) < 2 ^ 32 - 1) →
      t.get F.EBND_COMMON = ((List.range 9).map (fun i => t.get (F.EBND_COMP i))).foldl (· + ·) 0 ∧
      (∀ p, p < 8 → t.ebnd.ports.getD p 0 = min SAT48 (t.get F.EBND_COMMON + 2 * t.portTerm p))) ∧
    ((t.on F.TBASE_STAT_TIMESET = false ∨ t.on F.EBND_STAT_STALE = true) → t.get F.EBND_COMMON = 0xFFFFFFFFFFFF ∧ t.get F.EBND_STAT_CLASS = 248 ∧
      (∀ p, p < 8 → t.ebnd.ports.getD p 0 = 0xFFFFFFFFFFFF)) ∧
    (t.on F.HOLD_STAT_HOLDOVER = true → t.get (F.EBND_COMP 0) = 0 ∧ t.get (F.EBND_COMP 1) = 0 ∧ t.get (F.EBND_COMP 2) = 0 ∧ t.get (F.EBND_COMP 5) = 0) ∧
    t.on F.EBND_STAT_BNDOVER = decide (t.get F.EBND_SERVELIM * 1000 < t.get F.EBND_COMMON) ∧
    (t.get F.EBND_LIM248 * 1000 < t.get F.EBND_COMMON → t.get F.EBND_STAT_CLASS = 248) ∧
    (t.get F.EBND_SERVELIM * 1000 < t.get F.EBND_COMMON → t.get F.PKT_SVC_STATE ≠ 2)) ∧
  (∀ k, (b, k) ∈ s.ebnd.missing → look 0 s.ebnd.missing b = k → 1 ≤ k → b ∈ miss → s.ebnd.cfgs = [] → s.on F.EBND_STAT_STALE = false →
    s.on F.TBASE_STAT_TIMESET = true → s.intc.running = true →
    Answers (.dpllTick miss) s fun t => t.on F.TBASE_STAT_TIMESET = true → t.on F.EBND_STAT_STALE = true ∧ Raised 195 t) ∧
  (s.on F.TBASE_STAT_TIMESET = true → Answers (.dpllTick []) s fun t => t.on F.EBND_STAT_STALE = false ∧ t.ebnd.missing = []) ∧
  (∀ b', miss = [b'] → s.on F.TBASE_STAT_TIMESET = true → look 0 s.ebnd.missing b' = 0 → Answers (.dpllTick miss) s fun t => t.on F.EBND_STAT_STALE = false) ∧
  (s.termsRose = true → s.intc.running = true → Answers .ebndAsyncRepublish s fun t => t.get F.EBND_ASYNCCNT = satNat 16 (s.get F.EBND_ASYNCCNT + 1) ∧
    Raised 194 t ∧ t.get F.EBND_SEQ = (s.get F.EBND_SEQ + 1) % 65536 ∧ t.mem = s.mem ∧ t.pending = s.pending ∧
    (s.on F.TBASE_STAT_TIMESET = true → s.on F.EBND_STAT_STALE = false → (∀ i, i < 9 → t.get (F.EBND_COMP i) < 2 ^ 32 - 1) →
      t.get F.EBND_COMMON = ((List.range 9).map (fun i => t.get (F.EBND_COMP i))).foldl (· + ·) 0 ∧
      s.compSynth = t.get (F.EBND_COMP 4) ∧ s.compHold = t.get (F.EBND_COMP 3) ∧
      (∀ p, p < 8 → t.ebnd.ports.getD p 0 = min SAT48 (t.get F.EBND_COMMON + 2 * s.portTerm p))))) ∧
  (∀ (s : State) (h : WbHead) (a b c d e f k n o v w : Nat) (ps : List Word), Ready h s →
  (a < 16 → 1 ≤ b → b < 2 ^ 32 → c < 2 ^ 32 → d < 2 ^ 32 → e < 2 ^ 32 → f < 65536 → o < 2 ^ 24 → v < 65536 → w < 65536 →
    Answers (.ebndCfg h ([w16 (s.get F.EBND_GEN), w16 a] ++ wordsOf b 2 ++ wordsOf c 2 ++ wordsOf d 2 ++ wordsOf e 2 ++ [w16 f] ++ wordsOf o 2 ++
      [w16 v, w16 w])) s fun t => t.ebnd = { s.ebnd with cfgs := t.ebnd.cfgs } ∧ OnlyRegs [] s t ∧ (s.ebnd.cfgs = [] →
      t.ebndCfgs.get F.EBND_CTRL % 16 = a ∧ t.ebndCfgs.get F.EBND_SERVELIM = b ∧ t.ebndCfgs.get F.EBND_LIM248 = c ∧ t.ebndCfgs.get F.EBND_UNKACC = d ∧
      t.ebndCfgs.get F.EBND_ANONASYM = e ∧ t.ebndCfgs.get F.EBND_NTPEFTYPE = f ∧ t.ebndCfgs.get F.EBND_PTPORG = o ∧ t.ebndCfgs.get F.EBND_OSLV = v ∧
      t.ebndCfgs.get F.EBND_OSLVHOLD = w ∧ Completed h t.ebndCfgs [w16 (s.get F.EBND_GEN + 1)] ∧ t.ebndCfgs.ebnd = s.ebnd ∧
        OnlyRegs [F.EBND_CTRL, F.EBND_SERVELIM,
        F.EBND_LIM248, F.EBND_UNKACC, F.EBND_ANONASYM, F.EBND_NTPEFTYPE, F.EBND_PTPORG, F.EBND_OSLV, F.EBND_OSLVHOLD, F.EBND_GEN] s t.ebndCfgs)) ∧
  (k < 12 → b < 2 ^ 32 → Answers (.ebndRefunccfg h ([w16 k, w16 (s.get F.EBND_GEN)] ++ wordsOf b 2)) s fun t =>
      t.ebnd = { s.ebnd with cfgs := t.ebnd.cfgs } ∧ OnlyRegs [] s t ∧ (s.ebnd.cfgs = [] → t.ebndCfgs.get (F.EBND_REFUNC k) = b ∧
        Completed h t.ebndCfgs [w16 (s.get F.EBND_GEN + 1)] ∧ t.ebndCfgs.ebnd = s.ebnd ∧ OnlyRegs [F.EBND_REFUNC k, F.EBND_GEN] s t.ebndCfgs)) ∧
  (k < 12 → a < 65536 → a ≠ s.get F.EBND_GEN → s.ebnd.cfgs = [] → Answers (.ebndRefunccfg h ([w16 k, w16 a] ++ wordsOf b 2)) s fun t =>
      Failed h t.ebndCfgs .genConflict ∧ OnlyRegs [] s t.ebndCfgs) ∧
  (Answers (.ebndReport h ps) s fun t => Completed h t (s.fw F.EBND_STAT ++ s.rdWords F.EBND_COMMON.addr 3 ++ s.rdWords (F.EBND_COMP 0).addr 18 ++
      s.fw F.EBND_SEQ) ∧ OnlyRegs [] s t) ∧
  (k + n ≤ 8 → k < 8 → Answers (.ebndPortreport h [w16 k, w16 n]) s fun t => Completed h t (s.rdWords (F.EBND_PORT k).addr (2 * n)) ∧ OnlyRegs [] s t) ∧
  (k < 8 → a < 4096 → n ≤ 64 → a + n ≤ 4096 → Answers (.ebndHistory h [w16 k, w16 a, w16 n]) s fun t =>
      (∃ m, t.manifestAt h.ring h.slot = some m ∧ m.state = .done ∧ m.results.length = n ∧
        ∀ i, i < n → (m.results.getD i 0).toNat = min 65535 (ceilDiv (s.boundOfSecond k (a + i)) 100)) ∧ t.ebnd = s.ebnd ∧ OnlyRegs [] s t))

/-! ### Waybills (spec/14) -/

/-- Taking a waybill (R369 to R374, R391): ring 1 before the others, which have their turns; its words stand as taken; it is not run yet.  It starts once
those before it allow it; one for a block that waits for step 7 does not start, a long operation among them reading QUEUED.
Completes by a next state: waybillTake, waybillStart. -/
def Obligations.TakingWaybills : Prop :=
  (∀ (c : Instr) (s : State) (w : Nat) (h : WbHead) (ps : List Word) (e : Taken), c.waybill = some (w, h, ps) → s.takenAt h.ring h.slot = some e →
  e.spells w h ps = true → e.started = false → s.mayStart e = true → s.checkWords e.words = none →
  exec (.waybillStart h.ring h.slot) s = exec c s) ∧
  (∀ (s : State) (r k : Nat) (ws : List Word),
  (r < 2 → s.ringTurn r = true → s.mayTake = true → s.ringReady r = true → (s.takenAt r (s.get (F.HIF_RING_CONS r) % s.ringDepth r)).isNone = true →
    Answers (.waybillTake r ws) s fun t => t.get (F.HIF_RING_CONS r) = (s.get (F.HIF_RING_CONS r) + 1) % 65536 ∧
      t.get F.MGMT_TAKEN = (s.get F.MGMT_TAKEN + 1) % 2 ^ 32 ∧ t.mgmt.taken = s.mgmt.taken ++
        [{ ring := r, slot := s.get (F.HIF_RING_CONS r) % s.ringDepth r, w0 := ws.getD 0 0, tag := ws.getD 1 0, words := ws.take 64 }] ∧
      (t.manifestAt r (s.get (F.HIF_RING_CONS r) % s.ringDepth r)).isNone = true ∧ OnlyRegs [F.HIF_RING_CONS r, F.MGMT_TAKEN] s t) ∧
  (∀ b l, s.hif.bells = b :: l → 2 ≤ b.1 → s.mayTake = true → s.ringTurn b.1 = true → Answers (.waybillTake b.1 ws) s fun t =>
    t.hif.bells = l ∧ t.get F.MGMT_TAKEN = (s.get F.MGMT_TAKEN + 1) % 2 ^ 32 ∧ t.mgmt.manifests = s.mgmt.manifests ∧
    (t.mgmt.taken.getLast?.any (fun e => e.ring = b.1 && e.slot = b.2 && e.words = (look [] s.hif.mailbox (b.1 * 256 + b.2)).take 64 && !e.started)) = true ∧
    OnlyRegs [F.MGMT_TAKEN] s t) ∧
  (s.ringTurn r = false → exec (.waybillTake r ws) s = .next s) ∧
  (r ≠ 1 → s.ringReady 1 = true → exec (.waybillTake r ws) s = .next s) ∧
  (64 ≤ (s.mgmt.taken.filter (fun e => e.long)).length → exec (.waybillTake r ws) s = .next s) ∧
  (∀ e, s.takenAt r k = some e → s.intc.running = true → s.mgmtFenced = false → e.started = false → s.mayStart e = true → s.checkWords e.words = none →
    e.w0.toNat / 8 = 0xF00 → s.canWrite r k = true → s.seq.st = .running → e.suspReqs = [] → Answers (.waybillStart r k) s fun t =>
      Completed e.head t e.params ∧ (t.takenAt r k).isNone = true ∧ OnlyRegs [] s t) ∧
  ((∀ e, s.takenAt r k = some e → e.started = true ∨ s.mayStart e = false) → exec (.waybillStart r k) s = .next s) ∧
  (∀ e, s.takenAt r k = some e → s.intc.running = true → s.mgmtFenced = false → e.started = false → s.mayStart e = true → s.checkWords e.words = none →
    earlyBlocks.contains (e.w0.toNat / 2048) = false → s.seq.st ≠ .safe → s.past 7 = false → e.w0.toNat % 64 < 8 → e.long = false → e.upd = 0 →
      s.canWrite r k = true →
    Answers (.waybillStart r k) s fun t =>
      (isLong e.w0.toNat = true → Shows e.head t .queued .ok []) ∧ (isLong e.w0.toNat = false → (t.takenAt r k) = some e ∧
        t.mgmt.manifests = s.mgmt.manifests) ∧
      OnlyRegs [] s t) ∧
  (∀ e, s.takenAt r k = some e → s.intc.running = true → s.mgmtFenced = false → e.started = false → s.mayStart e = true → e.suspReqs = [] →
    s.canWrite r k = true →
    (60 < (e.words.getD 2 0).toNat → Answers (.waybillStart r k) s fun t => Failed e.head t .frame ∧ (t.takenAt r k).isNone = true ∧
      (s.get F.MGMT_FRAMEERR < 65535 → t.get F.MGMT_FRAMEERR = s.get F.MGMT_FRAMEERR + 1) ∧ Raised 202 t ∧ OnlyRegs [F.MGMT_FRAMEERR] s t) ∧
    (s.checkWords e.words = some .crc → Answers (.waybillStart r k) s fun t => Failed e.head t .crc ∧ (t.takenAt r k).isNone = true ∧
      (s.get F.MGMT_CRCERR < 65535 → t.get F.MGMT_CRCERR = s.get F.MGMT_CRCERR + 1) ∧ Raised 201 t ∧ OnlyRegs [F.MGMT_CRCERR] s t) ∧
    (s.checkWords e.words = some .unknown → Answers (.waybillStart r k) s fun t => Failed e.head t .unknown ∧ Raised 202 t ∧
      (s.get F.MGMT_UNKNOWN < 65535 → t.get F.MGMT_UNKNOWN = s.get F.MGMT_UNKNOWN + 1) ∧ OnlyRegs [F.MGMT_UNKNOWN] s t) ∧
    (s.checkWords e.words = some .blockUnavail → Answers (.waybillStart r k) s fun t => Failed e.head t .blockUnavail ∧ OnlyRegs [] s t)))

/-- Stopping and suspending (R378).
The other operations of MGMT (R379) and its audit (R45).
Completes by a next state: mgmtCancel, mgmtSuspend, mgmtResume, mgmtEcho, mgmtList, mgmtAuditreport, mgmtVersion, mgmtCountreport, mgmtAudit. -/
def Obligations.MgmtWaybills : Prop :=
  (∀ (s : State) (h : WbHead) (r k : Nat), Ready h s → r < 4 → k < 65536 →
  (s.named r k = none → (h.ring ≠ r ∨ h.tag ≠ w16 k) → Answers (.mgmtCancel h [w16 r, w16 k]) s fun t => Completed h t [0] ∧ OnlyRegs [] s t) ∧
  (s.named r k = none → Answers (.mgmtSuspend h [w16 r, w16 k]) s fun t => Failed h t .notPermitted ∧ OnlyRegs [] s t) ∧
  (s.named r k = none → Answers (.mgmtResume h [w16 r, w16 k]) s fun t => Failed h t .notPermitted ∧ OnlyRegs [] s t) ∧
  (∀ e, s.named r k = some e → (h.ring ≠ e.ring ∨ h.slot ≠ e.slot) →
    (e.long = true → e.state = .running → suspendable e.w0.toNat = true → s.takenAt e.ring e.slot = some e → Answers (.mgmtCancel h [w16 r, w16 k]) s fun t =>
      Completed h t [2] ∧ (t.takenAt e.ring e.slot).any (fun x => x.stopReq && x.state = .running) = true) ∧
    (e.long = true → e.state = .running → suspendable e.w0.toNat = true → s.takenAt e.ring e.slot = some e → Answers (.mgmtSuspend h [w16 r, w16 k]) s fun t =>
      (t.takenAt e.ring e.slot) = some { e with suspReqs := e.suspReqs ++ [h] } ∧ t.mgmt.manifests = s.mgmt.manifests ∧ OnlyRegs [] s t) ∧
    ((e.long = false ∨ e.state ≠ .running ∨ suspendable e.w0.toNat = false) → Answers (.mgmtSuspend h [w16 r, w16 k]) s fun t =>
      Failed h t .notPermitted ∧ OnlyRegs [] s t) ∧
    (e.state = .partialSt → s.takenAt e.ring e.slot = some e → Answers (.mgmtResume h [w16 r, w16 k]) s fun t => Completed h t [2] ∧
      (t.takenAt e.ring e.slot).any (fun x => x.state = .running && x.results = e.results && x.progress = e.progress) = true) ∧
    (e.state ≠ .partialSt → Answers (.mgmtResume h [w16 r, w16 k]) s fun t => Failed h t .notPermitted ∧ OnlyRegs [] s t))) ∧
  (∀ (s : State) (h : WbHead) (r k : Nat) (e : Taken), s.mayTake = true → s.seq.st = .running → h.flags < 8 → h.flags / 2 % 2 = 0 →
    s.takenAt h.ring h.slot = none →
  (∀ x ∈ s.mgmt.taken, x.w0.toNat / 2048 = 15 → x.long = true) → s.canWrite h.ring h.slot = true → r < 4 → k < 65536 → s.named r k = some e → e.long = false →
  (e.started = true → Answers (.mgmtCancel h [w16 r, w16 k]) s fun t => Failed h t .notPermitted ∧ (t.takenAt e.ring e.slot) = s.takenAt e.ring e.slot) ∧
  (e.started = false → s.canWrite e.ring e.slot = true → s.takenAt e.ring e.slot = some e → e.suspReqs = [] → Answers (.mgmtCancel h [w16 r, w16 k]) s fun t =>
    Completed h t [w16 e.state.code] ∧ (t.takenAt e.ring e.slot).isNone = true ∧
    (t.manifestAt e.ring e.slot).any (fun m => m.state = .aborted && m.status = 0x0A && m.results = []) = true)) ∧
  (∀ (s : State) (h : WbHead) (k n : Nat) (ps : List Word), Ready h s →
  (ps.length ≤ 60 → Answers (.mgmtEcho h ps) s fun t => Completed h t ps ∧ OnlyRegs [] s t) ∧
  (k < 65536 → n ≤ 64 → Answers (.mgmtList h [w16 k, w16 n]) s fun t => OnlyRegs [] s t ∧
    Completed h t ((((s.mgmt.taken ++ [ownTaken 0x7840 h [w16 k, w16 n]]).drop k).take n).flatMap (fun e => [w16 (e.ring + e.state.code * 16), e.tag, e.w0,
      w16 e.progress]))) ∧
  (Answers (.mgmtAuditreport h ps) s fun t => Completed h t (s.fw F.MGMT_AUDGEN ++ s.fw F.MGMT_AUDMIS ++ s.fw F.MGMT_AUDLAST) ∧ t.get F.MGMT_AUDMIS = 0 ∧
    OnlyRegs [F.MGMT_AUDMIS] s t) ∧
  (Answers (.mgmtVersion h ps) s fun t => Completed h t (s.fw F.MGMT_FWVER ++ s.fw F.MGMT_FWBUILD ++ (List.range 20).map (fun b => s.rd (b * 65536))) ∧
    OnlyRegs [] s t) ∧
  (Answers (.mgmtCountreport h ps) s fun t => t.get F.MGMT_CRCERR = 0 ∧ t.get F.MGMT_FRAMEERR = 0 ∧ t.get F.MGMT_UNKNOWN = 0 ∧ t.get F.MGMT_MANFAIL = 0 ∧
    Completed h t (wordsOf ((s.get F.MGMT_TAKEN + 1) % 2 ^ 32) 2 ++ s.fw F.MGMT_CRCERR ++ s.fw F.MGMT_FRAMEERR ++ s.fw F.MGMT_UNKNOWN ++ s.fw F.MGMT_MANFAIL) ∧
    OnlyRegs [F.MGMT_CRCERR, F.MGMT_FRAMEERR, F.MGMT_UNKNOWN, F.MGMT_MANFAIL] s t) ∧
  (s.seq.saving = none → Answers .mgmtAudit s fun t => t.mgmt.cache = s.regs ∧ t.get F.MGMT_AUDGEN = (s.get F.MGMT_AUDGEN + 1) % 2 ^ F.MGMT_AUDGEN.wid ∧
    t.get F.MGMT_AUDMIS = satNat 16 (s.get F.MGMT_AUDMIS + s.staleUnits.length) ∧ (s.staleUnits ≠ [] → Raised 214 t) ∧
    (s.staleUnits = [] → t.get F.MGMT_AUDLAST = s.get F.MGMT_AUDLAST) ∧ OnlyRegs [F.MGMT_AUDGEN, F.MGMT_AUDMIS, F.MGMT_AUDLAST] s t))

/-- R46, R374: a waybill whose generation is not its unit's when its change is applied completes FAILED with GENCONFLICT and changes nothing; the change is
applied at the next convoy close for PKT (R292) and at the next tick for EBND (R358).  A TBASE_SETTIME
that finds a load announced waits for it first (log entry 5).  GNSS_NFCAL and AUTH_ROTATE check again as they change their blocks. -/
def Obligations.GenerationChecks : Prop := ∀ (c : Instr) (s : State) (w : Nat) (h : WbHead) (ps : List Word), c.waybill = some (w, h, ps) →
  ∀ (g : Field) (v : Word), c.unitGen = some (g, v) →
  Ready h s → v.toNat ≠ s.get g →
  (c.atClose = false → c.atTick = false → (w = 0x3000 → s.tb.load = none) → Answers c s fun t => Failed h t .genConflict ∧
    OnlyRegs [] s t ∧ t.mem = s.mem ∧ t.refs = s.refs ∧ t.dpll = s.dpll ∧ t.hold = s.hold ∧ t.apll = s.apll ∧ t.tb = s.tb ∧ t.tic = s.tic ∧ t.gnss = s.gnss ∧
    t.mts = s.mts ∧ t.pkt = s.pkt ∧ t.auth = s.auth ∧ t.ctab = s.ctab ∧ t.rdn = s.rdn) ∧
  (c.atClose = true → s.pkt.cfgs = [] → s.pkt.ready = [] → AtClose c s fun t => Failed h t .genConflict ∧ OnlyRegs ((List.range 8).map F.PKT_PORT_STAT) s t ∧
    t.pkt = s.pkt ∧ t.mem = s.mem) ∧
  (c.atTick = true → s.ebnd.cfgs = [] → Answers c s fun t => Failed h t.ebndCfgs .genConflict ∧ OnlyRegs [] s t.ebndCfgs ∧ t.ebndCfgs.ebnd = s.ebnd)

/-- When waybills run (R71, R360, R373, R431): reserved flags are a host error, whose manifest takes some final state while no other
block's registers move (the model's choice, log entry 19); nothing runs before step 3 or while all MGMT cores are fenced;
safe configuration turns away every block but SEQ, PSU, FCOL and HIF; other blocks wait for step 7, a long operation as QUEUED;
one that may not start yet is taken and waits, and a row that is not the waybill taken, or whose waybill has started, changes nothing (log entry 5).
A lost manifest (R381, R388, R391): where a final header cannot be written, the operation takes its full effect, MANFAIL counts, and the slot
stays as it was. -/
def Obligations.WaybillGate : Prop :=
  (∀ (c : Instr) (s : State) (w : Nat) (h : WbHead) (ps : List Word), c.waybill = some (w, h, ps) →
  (Takes h s → 8 ≤ h.flags → s.canWrite h.ring h.slot = true → Answers c s fun t =>
    (t.manifestAt h.ring h.slot).any (fun m => m.tag = h.tag && (m.state = .done || m.state = .failed || m.state = .aborted)) = true ∧
    (t.takenAt h.ring h.slot).isNone = true ∧ t.mem = s.mem ∧
    (∀ a, blockOf a ≠ w / 2048 → blockOf a ≠ 0x0F → blockOf a ≠ 0x12 → t.rd a = s.rd a)) ∧
  (s.intc.running = false ∨ s.mgmtFenced = true → exec c s = .next s) ∧
  (Takes h s → h.flags < 8 → s.seq.st = .safe → ¬ w / 2048 ∈ [0, 1, 0x10, 0x12] → s.canWrite h.ring h.slot = true →
    Answers c s fun t => Failed h t .blockUnavail ∧ OnlyRegs [] s t) ∧
  (Takes h s → h.flags < 8 → s.seq.st ≠ .safe → s.past 7 = false → ¬ w / 2048 ∈ [0, 1, 0x0F, 0x10, 0x12] →
    (c.isLong = false → Answers c s fun t => (t.takenAt h.ring h.slot).any (fun e => !e.started && e.tag = h.tag) = true ∧
      t.mgmt.manifests = s.mgmt.manifests ∧ OnlyRegs [] s t) ∧
    (c.isLong = true → s.canWrite h.ring h.slot = true → Answers c s fun t => Shows h t .queued .ok [] ∧ OnlyRegs [] s t)) ∧
  (s.mayTake = true → s.takenAt h.ring h.slot = none → s.mayStart (ownTaken w h ps) = false → Answers c s fun t =>
    t.takenAt h.ring h.slot = some (ownTaken w h ps) ∧ t.mgmt.manifests = s.mgmt.manifests ∧ t.mem = s.mem ∧ OnlyRegs [] s t) ∧
  (∀ e, s.takenAt h.ring h.slot = some e → (e.started = true ∨ e.spells w h ps = false ∨ s.mayStart e = false) → exec c s = .next s)) ∧
  (∀ (s : State) (h : WbHead) (k b : Nat), Takes h s → h.flags < 8 → s.seq.st = .running →
  s.canWrite h.ring h.slot = false → k < 65536 → b < 65536 →
  Answers (.mtsCfg h [w16 (s.get F.MTS_GEN), w16 k, w16 b]) s fun t => t.get F.MTS_METERTOL = k ∧ t.get F.MTS_PREDTOL = b ∧
    t.get F.MTS_GEN = (s.get F.MTS_GEN + 1) % 65536 ∧ t.get F.MGMT_MANFAIL = satNat 16 (s.get F.MGMT_MANFAIL + 1) ∧ t.mgmt.manifests = s.mgmt.manifests ∧
    (t.takenAt h.ring h.slot).isNone = true ∧ OnlyRegs [F.MTS_METERTOL, F.MTS_PREDTOL, F.MTS_GEN] s t)

/-! ### Host interface and interrupts (spec/15, spec/16) -/

/-- Reads: a word is answered as it stands; the least significant word of a longer register latches the others for its requester (R102); RC fields
clear (R12); TBASE_TIME has its own latch (R173); a POP takes the oldest stamp (R187, R206); where no block stands the answer is 0 (R383, R384).
Completes by a next state: lswLatchRead, rcFieldRead, tbaseTimeRead, tbaseCapPop, ticChPop. -/
def Obligations.RegisterReads : Prop := ∀ (s : State) (req a n : Nat), s.pathUp req = true →
  (∀ r i, regAt a = some (r, i) → a = blockOf a * 65536 + r.off + i * r.stride → blockOf a ∈ [2, 3, 4, 5, 8, 9, 0xA, 0xC, 0xD, 0xE, 0xF, 0x10] →
    a < 0x140000 → s.noBlock a = false → s.latched req a = none → (Answers (.lswLatchRead req a) s fun t => look [] t.hif.replies req = [s.rd a] ∧
      (∀ k, k < r.words → (t.rd (a + 2 * k)).toNat = (s.rd (a + 2 * k)).toNat &&& (0xFFFF ^^^ accMask .rc (a + 2 * k))) ∧
      (∀ k, 1 ≤ k → k < r.words → t.latched req (a + 2 * k) = some (s.rd (a + 2 * k))) ∧
      (∀ b, (b < a ∨ a + 2 * r.words ≤ b) → t.rd b = s.rd b) ∧ t.mem = s.mem ∧ t.pending = s.pending) ∧
    Answers (.rcFieldRead req a) s fun t => look [] t.hif.replies req = [s.rd a] ∧ (t.rd a).toNat &&& accMask .rc a = 0 ∧
      (∀ b, (b < a ∨ a + 2 * r.words ≤ b) → t.rd b = s.rd b)) ∧
  (∀ w, s.latched req (2 * a) = some w → 2 * a < 0x140000 → s.noBlock (2 * a) = false → (regAt (2 * a)).isSome = true → (2 * a < 0x060010 ∨ 0x060024 ≤ 2 * a) →
    s.actRead req (2 * a) = none → Answers (.lswLatchRead req (2 * a)) s fun t => look [] t.hif.replies req = [w] ∧ t.regs = s.regs) ∧
  (Answers (.tbaseTimeRead req) s fun t => look [] t.hif.replies req = [w16 (time128 s.now)] ∧
    look [] t.hif.timeLatch req = wordsOf (time128 s.now) 8 ++ [w16 (s.get F.TBASE_STAT % 2), s.rd F.TBASE_STEPCNT.addr] ∧ t.regs = s.regs ∧ t.tb = s.tb) ∧
  (1 ≤ n → n < 8 → Answers (.lswLatchRead req (0x060010 + 2 * n)) s fun t => look [] t.hif.replies req = [(look [] s.hif.timeLatch req).getD n 0] ∧
    t.regs = s.regs) ∧
  (n < 8 → s.tb.caps.length = 8 → (∀ x r, (s.cap n).fifo = x :: r → Answers (.tbaseCapPop req n) s fun t => look [] t.hif.replies req = [w16 x.pop] ∧
      t.get (F.TBASE_CAP_STAMP n) = time128 (x.time * 65536) % 2 ^ 128 ∧ (t.cap n).fifo = r ∧ OnlyRegs [F.TBASE_CAP_STAMP n] s t) ∧
    ((s.cap n).fifo = [] → Answers (.tbaseCapPop req n) s fun t => look [] t.hif.replies req = [0] ∧ t.get (F.TBASE_CAP_STAMP n) = 0 ∧ t.tb = s.tb ∧
      OnlyRegs [F.TBASE_CAP_STAMP n] s t)) ∧
  (n < 16 → s.tic.chans.length = 16 → (∀ x r, (s.ticCh n).fifo = x :: r → Answers (.ticChPop req n) s fun t => look [] t.hif.replies req = [w16 x.pop] ∧
      t.get (F.TIC_CH_STAMP n) = time128 (x.time * 65536) % 2 ^ 128 ∧ (t.ticCh n).fifo = r ∧ OnlyRegs [F.TIC_CH_STAMP n] s t) ∧
    ((s.ticCh n).fifo = [] → Answers (.ticChPop req n) s fun t => look [] t.hif.replies req = [0] ∧ t.get (F.TIC_CH_STAMP n) = 0 ∧ t.tic = s.tic)) ∧
  (0x140000 ≤ a → a < 0x200000 → Answers (.lswLatchRead req a) s fun t => look [] t.hif.replies req = [0] ∧
    t.get F.HIF_UNMAPCNT = satNat 16 (s.get F.HIF_UNMAPCNT + 1) ∧ (s.get F.HIF_UNMAPCNT = 0 → Raised 222 t) ∧ OnlyRegs [F.HIF_UNMAPCNT] s t) ∧
  (a < 0x140000 → s.seq.st = .safe → blockOf a ∈ [8, 9, 0xA, 0xB, 0xC, 0xD] → Answers (.lswLatchRead req a) s fun t => look [] t.hif.replies req = [0] ∧
    t.get F.HIF_UNMAPCNT = satNat 16 (s.get F.HIF_UNMAPCNT + 1) ∧ OnlyRegs [F.HIF_UNMAPCNT] s t)

/-- Direct writes (R13, R384, R385, R396): a word of a plain register takes effect at once and counts as a change of its unit; a longer register
changes with its most significant word; a write of reserved bits is a host error, which leaves every other block's registers alone (log entry 19); a path without the right to write changes nothing but through the key.
Completes by a next state: registerWrite. -/
def Obligations.RegisterWrites : Prop := ∀ (s : State) (req : Nat) (w : Word), s.pathUp req = true →
  (∀ f ∈ [F.EBND_NTPEFTYPE, F.EBND_OSLV, F.EBND_OSLVHOLD], s.mayWrite req = true → Answers (.registerWrite req f.addr w .whole) s fun t =>
    t.get f = w.toNat ∧ t.get F.EBND_GEN = (s.get F.EBND_GEN + 1) % 65536 ∧ t.mem = s.mem ∧ OnlyRegs [f, F.EBND_GEN] s t) ∧
  (∀ f ∈ [F.EBND_SERVELIM, F.EBND_LIM248, F.EBND_UNKACC, F.EBND_ANONASYM], s.mayWrite req = true →
    (Answers (.registerWrite req f.addr w .whole) s fun t => t.regs = s.regs ∧ t.hif.shadow.find? (fun p => p.1 = f.addr) = some (f.addr, w)) ∧
    (Answers (.registerWrite req (f.addr + 2) w .whole) s fun t => t.get F.EBND_GEN = (s.get F.EBND_GEN + 1) % 65536 ∧ t.get f = w.toNat * 65536 +
      (((s.hif.shadow.find? (fun p => p.1 = f.addr)).map Prod.snd).getD (s.rd f.addr)).toNat ∧ OnlyRegs [f, F.EBND_GEN] s t)) ∧
  (16 ≤ w.toNat → s.mayWrite req = true → Answers (.registerWrite req F.EBND_CTRL.addr w .whole) s fun t => t.mem = s.mem ∧ t.mgmt = s.mgmt ∧
    t.pending = s.pending ∧ ∀ a, blockOf a ≠ 0x0E → t.rd a = s.rd a) ∧
  (∀ f ∈ [F.EBND_COMMON, F.EBND_SEQ, F.DPLL_FREQ, F.LANE_MODE, F.PSU_VIN], s.noBlock f.addr = false → s.mayWrite req = true → w.toNat < 4 →
    Answers (.registerWrite req f.addr w .whole) s fun t => t.regs = s.regs ∧ t.mem = s.mem) ∧
  (req ≠ 0 → s.mayWrite req = true → w.toNat < 4 → Answers (.registerWrite req F.HIF_ACCESS.addr w .whole) s fun t => t.regs = s.regs) ∧
  (req = 0 → w.toNat < 4 → Answers (.registerWrite req F.HIF_ACCESS.addr w .whole) s fun t => t.get F.HIF_ACCESS % 4 = w.toNat ∧
    OnlyRegs [F.HIF_ACCESS, F.HIF_GEN] s t) ∧
  (req = 0 → Answers (.registerWrite req F.EBND_OSLV.addr w .oneByte) s fun t => t.get F.HIF_PARTCNT = satNat 16 (s.get F.HIF_PARTCNT + 1) ∧
    OnlyRegs [F.HIF_PARTCNT] s t) ∧
  (s.mayWrite req = true → Answers (.registerWrite req 0x140000 w .whole) s fun t => t.get F.HIF_UNMAPCNT = satNat 16 (s.get F.HIF_UNMAPCNT + 1) ∧
    OnlyRegs [F.HIF_UNMAPCNT] s t) ∧
  (∀ f ∈ [F.EBND_OSLV, F.DPLL_SELMAN, F.FCOL_DOMCLR, F.TBASE_LEAP], s.mayWrite req = false → Answers (.registerWrite req f.addr w .whole) s fun t =>
    t.regs = s.regs ∧ t.seq = s.seq ∧ t.fcol = s.fcol) ∧
  (∀ n, 1 ≤ n → n < 256 → w.toNat < 64 → s.mayWrite req = true → Answers (.registerWrite req (F.INTC_SRC_MCFG n).addr w .whole) s fun t =>
    (3 ≤ req → t.get (F.INTC_SRC_MCFG n) = w.toNat % 32 + s.get (F.INTC_SRC_MCFG n) / 32 * 32) ∧ (req < 3 → t.regs = s.regs) ∧
      OnlyRegs [F.INTC_SRC_MCFG n] s t) ∧
  (s.mayWrite req = false → Answers (.registerWrite req F.SEQ_SAFECLR.addr 0xC1EA .whole) s fun t =>
    Leaves (.seqSafeclrWrite 0xC1EA) s fun u => t.seq = u.seq ∧ t.regs = u.regs)

/-- Rings, queues and bulk transfer (R390, R391, R397, R398).
Completes by a next state: hifRingDoorbell, hifRingEnable, hifQueueProdWrite, hifDmaStart, hifDmaAbort, dmaComplete. -/
def Obligations.RingsAndTransfers : Prop := ∀ (s : State) (req r v d : Nat) (l : List (Nat × Nat)), s.pathUp req = true → s.mayWrite req = true → r < 2 →
  (v < 65536 → (v + 65536 - s.get (F.HIF_RING_CONS r)) % 65536 ≤ s.ringDepth r → Answers (.hifRingDoorbell req r (w16 v)) s fun t =>
    t.get (F.HIF_RING_PROD r) = v ∧ OnlyRegs [F.HIF_RING_PROD r, F.HIF_GEN] s t) ∧
  (s.on (F.HIF_RING_CFG_EN r) = true → s.ringDepth r < (v % 65536 + 65536 - s.get (F.HIF_RING_CONS r)) % 65536 →
    Answers (.hifRingDoorbell req r (w16 v)) s fun t => t.mem = s.mem ∧ t.mgmt = s.mgmt ∧ ∀ a, blockOf a ≠ 0x10 → t.rd a = s.rd a) ∧
  (s.on (F.HIF_RING_CFG_EN r) = false → 4 ≤ v → v ≤ 8 → Answers (.hifRingEnable req r (w16 (2 * v + 1))) s fun t => t.on (F.HIF_RING_CFG_EN r) = true ∧
    t.get (F.HIF_RING_CFG_DEPTHLOG r) = v ∧ t.get (F.HIF_RING_PROD r) = 0 ∧ t.get (F.HIF_RING_CONS r) = 0 ∧
    OnlyRegs [F.HIF_RING_CFG r, F.HIF_RING_PROD r, F.HIF_RING_CONS r, F.HIF_GEN] s t) ∧
  (s.on (F.HIF_RING_CFG_EN r) = false → v < 16 → (v < 4 ∨ 8 < v) → Answers (.hifRingEnable req r (w16 (2 * v + 1))) s fun t => t.regs = s.regs) ∧
  (s.on (F.HIF_RING_CFG_EN r) = true → v < 16 → Answers (.hifRingEnable req r (w16 (2 * v))) s fun t => t.on (F.HIF_RING_CFG_EN r) = false ∧
    t.get (F.HIF_RING_CFG_DEPTHLOG r) = s.get (F.HIF_RING_CFG_DEPTHLOG r) ∧ t.mgmt = s.mgmt ∧ OnlyRegs [F.HIF_RING_CFG r, F.HIF_GEN] s t) ∧
  (v < 65536 → Answers (.hifQueueProdWrite req 0 (w16 v) l) s fun t => t.get (F.HIF_Q_PROD 0) = v ∧
    t.hif.rxUntaken = s.hif.rxUntaken - (v + 65536 - s.get (F.HIF_Q_PROD 0)) % 65536 ∧ OnlyRegs [F.HIF_Q_PROD 0, F.HIF_GEN] s t) ∧
  (∀ p f, l = [(p, f)] → v = (s.get (F.HIF_Q_PROD 1) + 1) % 65536 → s.on (F.HIF_Q_CFG_EN 1) = true → s.hostMem = false →
    Answers (.hifQueueProdWrite req 1 (w16 v) l) s fun t => t.get (F.HIF_Q_PROD 1) = v ∧ t.hif.txWait = s.hif.txWait ++ [⟨p, f⟩] ∧
      t.hif.txPend = s.hif.txPend ∧ OnlyRegs [F.HIF_Q_PROD 1, F.HIF_GEN] s t) ∧
  (∀ p f, l = [(p, f)] → v = (s.get (F.HIF_Q_PROD 1) + 1) % 65536 → s.on (F.HIF_Q_CFG_EN 1) = true → s.hostMem = true → s.hif.txWait = [] →
    Answers (.hifQueueProdWrite req 1 (w16 v) l) s fun t =>
    t.get (F.HIF_Q_PROD 1) = v ∧ (60 ≤ f → f ≤ 2048 → s.portUp p = true → t.hif.txPend = s.hif.txPend ++ [⟨p, f⟩] ∧
      t.get (F.HIF_Q_DROP 1) = s.get (F.HIF_Q_DROP 1)) ∧
    ((f < 60 ∨ 2048 < f ∨ s.portUp p = false) → t.get (F.HIF_Q_DROP 1) = satNat 16 (s.get (F.HIF_Q_DROP 1) + 1))) ∧
  (s.on (F.HIF_DMA_STAT_BUSY r) = false → s.bit F.FCOL_FENCEMAP (4 + r) = false → s.get (F.HIF_DMA_LEN r) = 0 →
    Answers (.hifDmaStart req r) s fun t => t.on (F.HIF_DMA_STAT_DONE r) = true ∧
    t.get (F.HIF_DMA_STAT_ERR r) = 0 ∧ t.on (F.HIF_DMA_STAT_BUSY r) = false ∧ t.mem = s.mem ∧ (s.intc.running = true → Raised (217 + r) t)) ∧
  (s.on (F.HIF_DMA_STAT_BUSY r) = false → s.bit F.FCOL_FENCEMAP (4 + r) = false → 0 < s.get (F.HIF_DMA_LEN r) → s.get (F.HIF_DMA_HADDR r) % 64 = 0 →
    s.get (F.HIF_DMA_MADDR r) % 64 = 0 →
    s.get (F.HIF_DMA_LEN r) % 64 = 0 → dmaArea r (s.get (F.HIF_DMA_MADDR r)) (s.get (F.HIF_DMA_LEN r)) = true → Answers (.hifDmaStart req r) s fun t =>
    t.on (F.HIF_DMA_STAT_BUSY r) = true ∧ t.get (F.HIF_DMA_STAT_ERR r) = 0 ∧ t.mem = s.mem ∧ OnlyRegs [F.HIF_DMA_STAT r, F.HIF_DMA_MOVED r] s t) ∧
  (s.on (F.HIF_DMA_STAT_BUSY r) = false → s.bit F.FCOL_FENCEMAP (4 + r) = false → 0 < s.get (F.HIF_DMA_LEN r) → (s.get (F.HIF_DMA_HADDR r) % 64 ≠ 0 ∨
    s.get (F.HIF_DMA_MADDR r) % 64 ≠ 0 ∨
    s.get (F.HIF_DMA_LEN r) % 64 ≠ 0 ∨ dmaArea r (s.get (F.HIF_DMA_MADDR r)) (s.get (F.HIF_DMA_LEN r)) = false) → Answers (.hifDmaStart req r) s fun t =>
    t.get (F.HIF_DMA_STAT_ERR r) = 1 ∧ t.on (F.HIF_DMA_STAT_BUSY r) = false ∧ t.mem = s.mem ∧ t.get (F.HIF_DMA_MOVED r) = 0) ∧
  (s.on (F.HIF_DMA_STAT_BUSY r) = false → s.bit F.FCOL_FENCEMAP (4 + r) = true → Answers (.hifDmaStart req r) s fun t =>
    t.get (F.HIF_DMA_STAT_ERR r) = 3 ∧ t.on (F.HIF_DMA_STAT_BUSY r) = false ∧ t.mem = s.mem ∧ t.get (F.HIF_DMA_MOVED r) = 0) ∧
  (s.on (F.HIF_DMA_STAT_BUSY r) = true → Answers (.hifDmaStart req r) s fun t => t.regs = s.regs ∧ t.mem = s.mem) ∧
  (s.on (F.HIF_DMA_STAT_BUSY r) = true → Answers (.hifDmaAbort req r) s fun t => t.on (F.HIF_DMA_STAT_BUSY r) = false ∧ t.get (F.HIF_DMA_STAT_ERR r) = 2 ∧
    t.get (F.HIF_DMA_MOVED r) ≤ (s.dmaRange r).2 % 2 ^ 32 ∧ (r = 1 → t.mem = s.mem)) ∧
  (∀ m n, s.dmaRange 0 = (m, n) → s.on (F.HIF_DMA_STAT_BUSY 0) = true → s.hostMem = true → s.bit F.FCOL_FENCEMAP 4 = false → n < 2 ^ 20 →
    Answers (.dmaComplete 0 d false) s fun t =>
    t.memN m n = d % 256 ^ n ∧ t.on (F.HIF_DMA_STAT_DONE 0) = true ∧ (∀ a, (a < m ∨ m + n ≤ a) → t.byte a = s.byte a) ∧ t.get (F.HIF_DMA_MOVED 0) = n) ∧
  (s.on (F.HIF_DMA_STAT_BUSY 1) = true → s.hostMem = true → s.bit F.FCOL_FENCEMAP 5 = false →
    Answers (.dmaComplete 1 d true) s fun t => t.get (F.HIF_DMA_STAT_ERR 1) = 4 ∧
    t.on (F.HIF_DMA_STAT_BUSY 1) = false ∧ t.mem = s.mem)

/-- The endpoint (R387 to R389, R400).
The SPI target and the console (R392 to R396).
Completes by a next state: pcieLinkTrain, pcieLinkLoss, pcieReset, spiFrame, spiFrameCut, consoleLine. -/
def Obligations.HostPaths : Prop :=
  (∀ (s : State) (v w : Nat) (a b : Bool), s.past 2 = true →
  (1 ≤ v → v ≤ 4 → (w = 1 ∨ w = 2 ∨ w = 4) → Answers (.pcieLinkTrain v w a b) s fun t => t.on F.HIF_STAT_LINKUP = true ∧ t.get F.HIF_STAT_SPEED = v ∧
    t.get F.HIF_STAT_WIDTH = w ∧ t.on F.HIF_STAT_BUSMASTER = a ∧ t.on F.HIF_STAT_MSIXEN = b ∧
    (s.on F.HIF_STAT_LINKUP = false → s.intc.running = true → Raised 216 t) ∧ OnlyRegs [F.HIF_STAT] s t) ∧
  (s.on F.HIF_STAT_LINKUP = true → Answers (.pcieLinkLoss .aer) s fun t => OnlyRegs [] s t ∧ t.hif = s.hif ∧ t.mgmt = s.mgmt) ∧
  (∀ e, e ≠ .aer → s.on F.HIF_STAT_LINKUP = true → Answers (.pcieLinkLoss e) s fun t => t.on F.HIF_STAT_LINKUP = false ∧ t.get F.HIF_STAT_SPEED = 0 ∧
    t.get F.HIF_STAT_WIDTH = 0 ∧
    (s.intc.running = true → Raised 216 t) ∧ t.hostMem = false ∧ OnlyRegs [F.HIF_STAT] s t) ∧
  (Answers (.pcieReset b) s fun t => t.on F.HIF_STAT_BUSMASTER = false ∧ t.on F.HIF_STAT_MSIXEN = false ∧ t.intc.msixMasked = true ∧
    (∀ r, r < 2 → t.get (F.HIF_RING_CFG r) = 0 ∧ t.get (F.HIF_RING_WBASE r) = 0 ∧ t.get (F.HIF_RING_PROD r) = 0 ∧ t.get (F.HIF_RING_CONS r) = 0 ∧
      t.get (F.HIF_Q_CFG r) = 0 ∧ t.on (F.HIF_DMA_STAT_BUSY r) = false ∧ t.get (F.HIF_DMA_STAT_ERR r) = (if s.on (F.HIF_DMA_STAT_BUSY r) then 3 else 0)) ∧
    (b = true → t.on F.HIF_STAT_LINKUP = s.on F.HIF_STAT_LINKUP) ∧ (b = false → t.on F.HIF_STAT_LINKUP = false) ∧
    t.mgmt.manifests = s.mgmt.manifests ∧ t.mgmt.taken.length = s.mgmt.taken.length ∧ t.dpll = s.dpll ∧ t.pkt = s.pkt ∧ t.ctab = s.ctab ∧
      t.pending = s.pending)) ∧
  (∀ (s : State) (a n : Nat) (ws : List Word) (late : Bool), s.pathUp 1 = true →
  (a < 0x200000 → n ≤ 2048 → let body := [w16 (0x1000 + n), w16 (a % 65536), w16 (a / 65536)]
    (Answers (.spiFrame (body ++ [w16 (crc16 (wordBytes body))]) false) s fun t => let x := s.busReads 1 a n; t.regs = x.1.regs ∧ t.tb = x.1.tb ∧
      t.mem = s.mem ∧
      look [] t.hif.replies 1 = 0 :: x.2 ++ [w16 (crc16 (wordBytes (0 :: x.2)))]) ∧
    Answers (.spiFrame (body ++ [w16 (crc16 (wordBytes body))]) true) s fun t => t.regs = s.regs ∧ t.tb = s.tb ∧
      look [] t.hif.replies 1 = 2 :: List.replicate n 0 ++ [w16 (crc16 (wordBytes (2 :: List.replicate n 0)))]) ∧
  (a < 4 → 4 ≤ ws.length → ws.length ≤ 64 → s.mayWrite 1 = true → s.slotBusy 2 a = false → let body := [w16 (0x3000 + ws.length), w16 a, 0] ++ ws
    Answers (.spiFrame (body ++ [w16 (crc16 (wordBytes body))]) false) s fun t => t.hif.bells = s.hif.bells ++ [(2, a)] ∧
      (look [] t.hif.mailbox (2 * 256 + a)).take ws.length = ws ∧ (t.manifestAt 2 a).all (fun m => m.state = .none) = true ∧
      look [] t.hif.replies 1 = [0, w16 (crc16 [0, 0])] ∧ t.regs = s.regs) ∧
  (∀ w, s.mayWrite 1 = false → w = ws.headD 0 → let body := [0x2001, w16 F.EBND_OSLV.addr, w16 (F.EBND_OSLV.addr / 65536), w]
    Answers (.spiFrame (body ++ [w16 (crc16 (wordBytes body))]) false) s fun t => t.get F.HIF_SPIERR = satNat 16 (s.get F.HIF_SPIERR + 1) ∧
      look [] t.hif.replies 1 = [3, w16 (crc16 [3, 0])] ∧ OnlyRegs [F.HIF_SPIERR] s t) ∧
  (∀ w, s.mayWrite 1 = true → w = ws.headD 0 → let body := [0x2001, w16 F.EBND_OSLV.addr, w16 (F.EBND_OSLV.addr / 65536), w]
    Answers (.spiFrame (body ++ [w16 (crc16 (wordBytes body))]) false) s fun t => t.get F.EBND_OSLV = w.toNat ∧
      look [] t.hif.replies 1 = [0, w16 (crc16 [0, 0])] ∧ OnlyRegs [F.EBND_OSLV, F.EBND_GEN] s t) ∧
  (4 ≤ ws.length → (ws.getD 0 0).toNat / 4096 ≠ 2 → (ws.getD 0 0).toNat / 4096 ≠ 3 → crc16 (wordBytes (ws.take 3)) ≠ (ws.getD 3 0).toNat →
    Answers (.spiFrame ws late) s fun t => t.get F.HIF_SPIERR = satNat 16 (s.get F.HIF_SPIERR + 1) ∧
      (look [] t.hif.replies 1).length = 2 + spiData ((ws.getD 0 0).toNat / 4096) ((ws.getD 0 0).toNat % 4096) ∧ (look [] t.hif.replies 1).headD 0 = 1 ∧
      (look [] t.hif.replies 1).getLastD 0 = w16 (crc16 (wordBytes (look [] t.hif.replies 1).dropLast)) ∧
      (s.get F.HIF_SPIERR = 0 → Raised 221 t) ∧ t.mem = s.mem ∧ OnlyRegs [F.HIF_SPIERR] s t) ∧
  (Answers .spiFrameCut s fun t => t.get F.HIF_SPIERR = satNat 16 (s.get F.HIF_SPIERR + 1) ∧ (s.get F.HIF_SPIERR = 0 → Raised 221 t) ∧
    t.hif = s.hif ∧ OnlyRegs [F.HIF_SPIERR] s t) ∧
  (a < 0x200000 → Answers (.consoleLine ([114, 32, hexChar (a / 0x100000), hexChar (a / 0x10000 % 16)] ++ hexWord (w16 a))) s fun t =>
    let x := s.busRead 2 a; t.hif.console = 61 :: 32 :: hexWord x.2 ∧ t.regs = x.1.regs ∧ t.tb = x.1.tb) ∧
  (s.mayWrite 2 = true → Answers (.consoleLine ([119, 32, 69, 48, 48, 50, 65, 32] ++ hexWord (w16 n))) s fun t => t.hif.console = [111, 107] ∧
    t.get F.EBND_OSLV = n % 65536 ∧ OnlyRegs [F.EBND_OSLV, F.EBND_GEN] s t) ∧
  (s.mayWrite 2 = false → Answers (.consoleLine ([119, 32, 69, 48, 48, 50, 65, 32] ++ hexWord (w16 n))) s fun t => t.hif.console = [63] ∧ t.regs = s.regs) ∧
  (4 ≤ ws.length → ws.length ≤ 64 → s.mayWrite 2 = true → s.slotBusy 3 0 = false →
    Answers (.consoleLine (98 :: ws.flatMap (fun w => 32 :: hexWord w))) s fun t =>
    t.hif.console = [111, 107] ∧ t.hif.bells = s.hif.bells ++ [(3, 0)] ∧ (look [] t.hif.mailbox (3 * 256)).take ws.length = ws ∧ t.regs = s.regs) ∧
  (∀ m, s.manifestAt 3 0 = some m → Answers (.consoleLine [109, 32, 48, 32, 53]) s fun t => t.regs = s.regs ∧ t.hif.console = 61 ::
    [w16 m.status, m.tag, w16 (m.state.code + m.upd * 256 + (if m.spec then 32768 else 0)), w16 m.progress, w16 m.results.length].flatMap (fun w => 32 ::
      hexWord w)) ∧
  (n ≤ 1000 → Answers (.consoleLine (List.replicate n 113 ++ [33])) s fun t => t.hif.console = [63] ∧ t.regs = s.regs))

/-- Claims and completions (R402 to R410).
Completes by a next state: intcSourceEvent, intcClaim, intcComplete, msixUnmask. -/
def Obligations.ClaimsAndCompletions : Prop := ∀ (s : State) (req n : Nat) (w : Word), s.pathUp req = true → s.intc.running = true →
  (unusedSource n = false → levelSources.contains n = false → Answers (.intcSourceEvent n) s fun t => Raised n t ∧
    (∀ m, m ≠ n → m ∈ s.intc.host.pend → levelSources.contains m = false → m ∈ t.intc.host.pend) ∧ t.regs = s.regs ∧ t.mem = s.mem) ∧
  (unusedSource n = true → Answers (.intcSourceEvent n) s fun t => n ∉ s.intc.host.pend → n ∉ t.intc.host.pend) ∧
  (∀ m, s.eligible false s.intc.host = some m → Answers (.intcClaim req false) s fun t => look [] t.hif.replies req = [w16 m] ∧ m ∉ t.intc.host.pend ∧
    t.intc.host.stack.map StackEnt.src = m :: s.intc.host.stack.map StackEnt.src ∧
    t.intc.host.stack.map StackEnt.prio = s.get (F.INTC_SRC_HCFG_PRIO m) :: s.intc.host.stack.map StackEnt.prio ∧
    m ∈ s.intc.host.pend ∧ s.on (F.INTC_SRC_HCFG_EN m) = true ∧
    (∀ e ∈ s.intc.host.stack.head?, e.prio < s.get (F.INTC_SRC_HCFG_PRIO m)) ∧
    (s.intc.host.pend.Pairwise (· < ·) → ∀ k ∈ s.intc.host.pend, s.on (F.INTC_SRC_HCFG_EN k) = true →
      s.get (F.INTC_SRC_HCFG_PRIO k) < s.get (F.INTC_SRC_HCFG_PRIO m) ∨ (s.get (F.INTC_SRC_HCFG_PRIO k) = s.get (F.INTC_SRC_HCFG_PRIO m) ∧ m ≤ k)) ∧
    t.regs = s.regs) ∧
  (s.eligible false s.intc.host = none → Answers (.intcClaim req false) s fun t => look [] t.hif.replies req = [0] ∧ t.regs = s.regs ∧
    t.intc.host.stack.map StackEnt.src = s.intc.host.stack.map StackEnt.src) ∧
  (∀ m, s.eligible true s.intc.mgmt = some m → 3 ≤ req → Answers (.intcClaim req true) s fun t => look [] t.hif.replies req = [w16 m] ∧
    t.intc.mgmt.stack.map StackEnt.src = m :: s.intc.mgmt.stack.map StackEnt.src) ∧
  (req < 3 → Answers (.intcClaim req true) s fun t => look [] t.hif.replies req = [0] ∧
    t.intc.mgmt.stack.map StackEnt.src = s.intc.mgmt.stack.map StackEnt.src) ∧
  (∀ e r, s.intc.host.stack = e :: r → s.mayWrite req = true → 0 < e.src → e.src < 256 → Answers (.intcComplete req false (w16 e.src)) s fun t =>
    t.intc.host.stack.map StackEnt.src = r.map StackEnt.src ∧
    (s.spurious e = true → t.get F.INTC_HOST_SPUR = satNat 16 (s.get F.INTC_HOST_SPUR + 1)) ∧ (s.spurious e = false → t.regs = s.regs) ∧
    (levelSources.contains e.src = true → r.any (fun x => x.src = e.src) = false → (e.src ∈ t.intc.host.pend ↔ t.levelIn e.src = true))) ∧
  (∀ e r, s.intc.host.stack = e :: r → s.mayWrite req = true → ∀ x, x ∈ r → x.src ≠ e.src → 0 < x.src → x.src < 256 →
    Answers (.intcComplete req false (w16 x.src)) s fun t => t.intc.host.stack = [] ∧ t.get F.INTC_HOST_REBUILD = satNat 16 (s.get F.INTC_HOST_REBUILD + 1) ∧
      Raised 224 t ∧ (∀ y ∈ s.intc.host.stack, y.src ≠ x.src → levelSources.contains y.src = false → y.src ∈ t.intc.host.pend)) ∧
  (s.intc.host.stack.any (fun e => e.src = n) = false → s.mayWrite req = true → 0 < n → n < 256 → Answers (.intcComplete req false (w16 n)) s fun t =>
    t.get F.INTC_HOST_COMPERR = satNat 16 (s.get F.INTC_HOST_COMPERR + 1) ∧ (s.get F.INTC_HOST_COMPERR = 0 → Raised 227 t) ∧
    t.intc.host.stack.map StackEnt.src = s.intc.host.stack.map StackEnt.src ∧ OnlyRegs [F.INTC_HOST_COMPERR] s t) ∧
  (s.mayWrite req = true → Answers (.intcComplete req false 0) s fun t => t.regs = s.regs ∧
    t.intc.host.stack.map StackEnt.src = s.intc.host.stack.map StackEnt.src) ∧
  (req < 3 → s.mayWrite req = true → w.toNat < 256 → Answers (.intcComplete req true w) s fun t => t.regs = s.regs ∧
    t.intc.mgmt.stack.map StackEnt.src = s.intc.mgmt.stack.map StackEnt.src) ∧
  (Answers .msixUnmask s fun t => t.intc.msixMasked = false ∧ t.regs = s.regs ∧ (s.intc.msixPending = true → s.intc.host.line = true →
    s.on F.HIF_STAT_MSIXEN = true → t.intc.msixSent = s.intc.msixSent + 1))

/-- R407: every step keeps the priorities on both targets' stacks falling strictly from the top, so each stack holds at most one entry per priority,
16 in all. -/
def Obligations.NestedStacks : Prop := ∀ s t : State, s.intc.host.nested → s.intc.mgmt.nested → step s = .next t →
  t.intc.host.nested ∧ t.intc.mgmt.nested ∧ t.intc.host.stack.length ≤ 16 ∧ t.intc.mgmt.stack.length ≤ 16

/-- The waybills of INTC and HIF (R401, R414).
Completes by a next state: intcSrccfg, intcReport, hifCfg, hifReport. -/
def Obligations.IntcHifWaybills : Prop := ∀ (s : State) (h : WbHead) (a n c v : Nat) (ps : List Word) (l : List Nat), Ready h s →
  (1 ≤ a → l.length ≤ 57 → a + l.length ≤ 256 → 1 ≤ l.length → (∀ x ∈ l, x < 32) →
    Answers (.intcSrccfg h ([w16 (s.get F.INTC_GEN), w16 a, w16 l.length] ++ l.map w16)) s fun t =>
      (∀ k, k < l.length → t.get (F.INTC_SRC_HCFG (a + k)) % 32 = l.getD k 0) ∧ (∀ m, (m < a ∨ a + l.length ≤ m) →
        t.get (F.INTC_SRC_HCFG m) = s.get (F.INTC_SRC_HCFG m)) ∧
      Completed h t [w16 (s.get F.INTC_GEN + 1)] ∧ t.intc.host.stack.map StackEnt.src = s.intc.host.stack.map StackEnt.src ∧
      t.intc.host.stack.map StackEnt.prio = s.intc.host.stack.map StackEnt.prio ∧
      OnlyRegs (F.INTC_GEN :: (List.range l.length).map (fun k => F.INTC_SRC_HCFG (a + k))) s t) ∧
  (Answers (.intcReport h ps) s fun t => t.get F.INTC_HOST_SPUR = 0 ∧ t.get F.INTC_HOST_COMPERR = 0 ∧ t.get F.INTC_HOST_REBUILD = 0 ∧
      (t.manifestAt h.ring h.slot).any (fun m => m.state = .done && m.results.length = 21 && m.results.getD 1 0 = w16 (s.get F.INTC_HOST_SPUR) &&
        m.results.getD 2 0 = w16 (s.get F.INTC_HOST_COMPERR) && m.results.getD 3 0 = w16 (s.get F.INTC_HOST_REBUILD)) = true) ∧
  (n < 4 → c < 7 → 1 ≤ v → v < 16 → Answers (.hifCfg h [w16 (s.get F.HIF_GEN), w16 n, w16 c, w16 v]) s fun t => t.get F.HIF_ACCESS % 4 = n ∧
      t.get F.HIF_CONCFG % 8 = c ∧ t.get F.HIF_SPIWAIT % 16 = v ∧ Completed h t [w16 (s.get F.HIF_GEN + 1)] ∧ t.mem = s.mem ∧
      OnlyRegs [F.HIF_ACCESS, F.HIF_CONCFG, F.HIF_SPIWAIT, F.HIF_GEN] s t) ∧
  (Answers (.hifReport h ps) s fun t => Completed h t (s.fw F.HIF_STAT ++ s.fw F.HIF_UNMAPCNT ++ s.fw F.HIF_PARTCNT ++ s.fw F.HIF_SPIERR ++
      s.fw (F.HIF_Q_DROP 0) ++ s.fw (F.HIF_Q_DROP 1)) ∧ OnlyRegs [F.HIF_UNMAPCNT, F.HIF_PARTCNT, F.HIF_SPIERR, F.HIF_Q_DROP 0, F.HIF_Q_DROP 1] s t)

/-! ### Faults and the Ledger (spec/17) -/

/-- A fault message arrives (R416, R422, R427, R432 to R434): it takes the next number, enters the log ring, is the first-error record where none
is held, and stops its domain; a privileged one drives FLT_CRIT.
Completes by a next state: faultMessage. -/
def Obligations.FaultMessages : Prop := ∀ (s : State) (i : Nat), s.fcol.running = true → s.intc.running = true → s.fcol.doms.length = 4 →
  ∀ m, s.arrives i = some m → m.src < 20 → m.kind < 16 → s.get F.FCOL_LDGNEXT < 2 ^ 48 - 1 → Answers (.faultMessage i) s fun t =>
    let num := s.get F.FCOL_LDGNEXT
    let d := domainOf m.src
    t.get F.FCOL_LDGNEXT = num + 1 ∧ (t.dom d).st ≠ .alive ∧ (t.dom d).quiet = false ∧
    ((s.dom d).st ≠ .down → (t.dom d).st = .faulted ∧ m.cls ∈ (t.dom d).classes) ∧
    ((s.dom d).st = .alive → Raised 235 t) ∧ (∀ e, e < 4 → e ≠ d → t.dom e = s.dom e) ∧
    (s.on F.FCOL_FIRSTSTAT = false → t.on F.FCOL_FIRSTSTAT = true ∧ t.get F.FCOL_FIRSTNUM = num ∧ Raised 232 t ∧
      t.get (F.FCOL_FIRST 0) = m.src + m.kind * 256 ∧ t.get (F.FCOL_FIRST 2) = m.detail % 65536) ∧
    (s.on F.FCOL_FIRSTSTAT = true → t.get F.FCOL_FIRSTNUM = s.get F.FCOL_FIRSTNUM ∧ ∀ k, k < 16 → t.get (F.FCOL_FIRST k) = s.get (F.FCOL_FIRST k)) ∧
    (s.fcol.log.length < 128 → t.fcol.log.length = s.fcol.log.length + 1 ∧ t.fcol.log.take s.fcol.log.length = s.fcol.log ∧
      (t.fcol.log.getLast?.any (fun e => e.1 = num)) = true) ∧
    (128 ≤ s.fcol.log.length → t.fcol.log = s.fcol.log ∧ t.get F.FCOL_LOGOVF = satNat 16 (s.get F.FCOL_LOGOVF + 1) ∧ Raised 234 t) ∧
    look 0 t.ledger.counts m.cls = satNat 32 (look 0 s.ledger.counts m.cls + 1) ∧
    (1000 ≤ s.fcol.bucket → t.fcol.bucket = s.fcol.bucket - 1000 ∧ t.fcol.toWrite.length = s.fcol.toWrite.length + 1) ∧
    (s.fcol.bucket < 1000 → s.privileged m = false → t.fcol.toWrite = s.fcol.toWrite ∧ t.get F.FCOL_LDGSUPPR = satNat 16 (s.get F.FCOL_LDGSUPPR + 1)) ∧
    (s.privileged m = true → t.get F.FCOL_CRITCNT = satNat 16 (s.get F.FCOL_CRITCNT + 1) ∧ Raised 237 t ∧ t.on F.FCOL_CRIT_PIN = decide (s.seq.st ≠ .safe) ∧
      t.on F.FCOL_CRIT_PULSE = true ∧
      (s.on F.FCOL_CTRL_CRITHOLD = true → t.on F.FCOL_CRIT_LATCH = true)) ∧
    (s.privileged m = false → t.get F.FCOL_CRITCNT = s.get F.FCOL_CRITCNT ∧ t.on F.FCOL_CRIT_PIN = s.on F.FCOL_CRIT_PIN) ∧ t.mem = s.mem ∧ t.pending = s.pending

/-- The domains recover or are cleared, FLT_CRIT is released, masters are fenced (R422 to R424, R427, R429 to R431).
Completes by a next state: quietExpiry, fcolDomclrWrite, fcolCritLatchClear, critPulseExpiry, masterStall, fenceForcedRelease. -/
def Obligations.DomainsAndFences : Prop := ∀ (s : State) (d v m b c : Nat) (wbs : List (Nat × Nat)), s.fcol.running = true → s.intc.running = true →
  s.fcol.doms.length = 4 →
  (d < 4 → (s.dom d).quiet = false → (s.dom d).st = .faulted → s.on F.FCOL_CTRL_COMPAT = false → Answers (.quietExpiry d) s fun t =>
    (t.dom d).st = .alive ∧ (t.dom d).quiet = true ∧ (t.dom d).classes = [] ∧ Raised 236 t ∧ (d = 3 → t.get F.FCOL_FENCEMAP = 0) ∧
    (∀ e, e < 4 → e ≠ d → t.dom e = s.dom e) ∧
    (∀ k, (s.dom d).classes = [k] → k < 320 → t.get (F.FCOL_RCNT k) = satNat 16 (s.get (F.FCOL_RCNT k) + 1))) ∧
  (d < 4 → (s.dom d).quiet = false → (s.dom d).st = .faulted → s.on F.FCOL_CTRL_COMPAT = true → Answers (.quietExpiry d) s fun t =>
    (t.dom d).st = .clearable ∧ (t.dom d).quiet = true ∧ Raised 243 t ∧ t.regs = s.regs) ∧
  (v < 16 → s.busUp 0x12 = true → Answers (.fcolDomclrWrite v) s fun t => ∀ e, e < 4 →
    (v / 2 ^ e % 2 = 1 → (s.dom e).st = .clearable → (t.dom e).st = .alive ∧ (t.dom e).classes = []) ∧
    ((v / 2 ^ e % 2 = 0 ∨ (s.dom e).st ≠ .clearable) → t.dom e = s.dom e)) ∧
  (v < 8 → s.busUp 0x12 = true → Answers (.fcolCritLatchClear v) s fun t =>
    (v % 2 = 1 → s.fcol.privAt.any (fun k => s.tb.ticks ≤ k + 1) = false →
      t.on F.FCOL_CRIT_LATCH = false ∧ t.on F.FCOL_CRIT_PIN = (s.on F.FCOL_CRIT_PULSE && s.seq.st ≠ .safe)) ∧
    (v % 2 = 0 → t.regs = s.regs) ∧ OnlyRegs [F.FCOL_CRIT] s t) ∧
  (s.on F.FCOL_CRIT_PULSE = true → Answers .critPulseExpiry s fun t => t.on F.FCOL_CRIT_PULSE = false ∧ t.on F.FCOL_CRIT_LATCH = s.on F.FCOL_CRIT_LATCH ∧
    t.on F.FCOL_CRIT_PIN = (s.on F.FCOL_CRIT_LATCH && s.seq.st ≠ .safe) ∧ OnlyRegs [F.FCOL_CRIT] s t) ∧
  (fenceBit m = some b → s.bit F.FCOL_FENCEMAP b = false → s.canStall m = true → Answers (.masterStall m c wbs) s fun t =>
    t.bit F.FCOL_FENCEMAP b = true ∧ Raised 238 t ∧ (m = 0x0B → t.get (F.HIF_DMA_STAT_ERR 0) = 3 ∧ t.on (F.HIF_DMA_STAT_BUSY 0) = false) ∧
    (m = 0x0C → t.get (F.HIF_DMA_STAT_ERR 1) = 3 ∧ t.on (F.HIF_DMA_STAT_BUSY 1) = false) ∧ (m = 0x14 → t.ctab.bulks = []) ∧
    (m ≤ 4 → ∀ e, s.takenAt d v = some e → wbs = [(d, v)] → e.long = false → (t.takenAt d v).isNone = true ∧ (s.canWrite d v = true → e.suspReqs = [] →
      (t.manifestAt d v).any (fun x => x.state = .aborted && x.status = 0x0B) = true))) ∧
  (s.get F.FCOL_FENCEMAP ≠ 0 → d < 5 → d ≠ 2 → Answers (.fenceForcedRelease d) s fun t => t.get F.FCOL_FORCECNT = satNat 16 (s.get F.FCOL_FORCECNT + 1) ∧
    Raised 239 t ∧ t.mem = s.mem ∧ OnlyRegs [F.FCOL_FORCECNT] s t)

/-- The Ledger (R436, R437, R442).
The waybills of FCOL (R424, R432, R434, R442).
Completes by a next state: ledgerWrite, ledgerSummary, ledgerDumpRecord, fcolCfg, fcolFirstread, fcolAck, fcolLogread, fcolClear, fcolCountreport,
fcolLedgerdump, fcolLedgerreport. -/
def Obligations.LedgerAndFcolWaybills : Prop :=
  (∀ (s : State) (good : Bool), s.fcol.running = true →
  (∀ p r, s.fcol.toWrite = p :: r → Answers (.ledgerWrite good) s fun t => t.fcol.toWrite = r ∧ t.ledger.maxNum = max s.ledger.maxNum p.1 ∧
    (t.ledger.events.getLast?.any (fun e => e.num = p.1 && e.words = p.2 && e.suppressed = satNat 16 (p.1 - s.ledger.maxNum - 1))) = true ∧
    t.ledger.events.length = min 65536 (s.ledger.events.length + 1) ∧ (good = true → t.ledger.spare = s.ledger.spare ∧ t.ledger.remap = s.ledger.remap) ∧
    (good = false → 0 < s.ledger.spare → t.ledger.spare = s.ledger.spare - 1 ∧ (s.intc.running = true → Raised 240 t)) ∧
    t.ledger.counts = s.ledger.counts ∧ t.ledger.summaries = s.ledger.summaries ∧ OnlyRegs [F.FCOL_LDGOLDEST, F.FCOL_LDGSTAT_SPARE, F.FCOL_LDGWEAR] s t) ∧
  (Answers .ledgerSummary s fun t => t.ledger.nextSlot = (s.ledger.nextSlot + 1) % 128 ∧ t.ledger.events = s.ledger.events ∧ t.regs = s.regs ∧
    (t.ledger.summaries.getLast?.any (fun x => x.slot = s.ledger.nextSlot && x.counts = s.ledger.counts && x.powered = s.ledger.powered &&
      x.starts = s.ledger.starts && x.holdSecs = s.ledger.holdSecs && x.temps = s.ledger.temps && x.maxNum = s.ledger.maxNum)) = true ∧
    (∀ x ∈ s.ledger.summaries, x.slot ≠ s.ledger.nextSlot → x ∈ t.ledger.summaries)) ∧
  (∀ d, s.fcol.dump = some d → s.running d.wb = true → ∀ e, s.recordFrom d.next = some e → d.summary = false → Answers .ledgerDumpRecord s fun t =>
    t.memN (ldgBase + d.done * 48) 48 = ofWords e.out % 256 ^ 48 ∧ t.ledger = s.ledger ∧
    (∀ a, (a < ldgBase + d.done * 48 ∨ ldgBase + d.done * 48 + 48 ≤ a) → t.byte a = s.byte a) ∧
    (d.done + 1 < d.total → (s.entryOf d.wb).stopReq = false → t.fcol.dump = some { d with next := e.num + 1, left := d.left - 1, done := d.done + 1 }) ∧
    (d.total ≤ d.done + 1 → s.canWrite d.wb.ring d.wb.slot = true → (s.entryOf d.wb).suspReqs = [] → t.fcol.dump = none ∧
      Completed d.wb t (wordsOf (d.done + 1) 2)))) ∧
  (∀ (s : State) (h : WbHead) (a b c d n k : Nat) (l : List Nat) (ps : List Word), Ready h s → s.fcol.doms.length = 4 →
  (a < 4 → 1 ≤ b → b ≤ 60000 → 20 ≤ c → c < 65536 → 1 ≤ d → d ≤ 20000 → k + l.length ≤ 320 → k < 320 → l.length ≤ 50 → (∀ x ∈ l, x < 2) →
    Answers (.fcolCfg h ([w16 (s.get F.FCOL_GEN), w16 a, w16 b, w16 c, w16 d, w16 k, w16 l.length] ++ l.map w16)) s fun t => t.get F.FCOL_CTRL % 4 = a ∧
      t.get F.FCOL_QUIET = b ∧ t.get F.FCOL_CRITPULSE = c ∧ t.get F.FCOL_LEDGERMAX = d ∧
      (∀ i, i < l.length → fixedClasses.contains (k + i) = false → t.get (F.FCOL_CLS_CFG_CRIT (k + i)) = l.getD i 0) ∧
      (∀ i, i < 320 → fixedClasses.contains i = true → t.get (F.FCOL_CLS_CFG i) = s.get (F.FCOL_CLS_CFG i)) ∧
      ((a % 2 = 1 ∨ (∀ e, e < 4 → s.clearable e = false)) → t.fcol = s.fcol ∧ Completed h t [w16 (s.get F.FCOL_GEN + 1)] ∧
        OnlyRegs ([F.FCOL_CTRL, F.FCOL_QUIET, F.FCOL_CRITPULSE, F.FCOL_LEDGERMAX, F.FCOL_GEN] ++ (List.range l.length).map (fun i => F.FCOL_CLS_CFG (k + i)))
          s t) ∧
      (a % 2 = 0 → ∀ e, e < 4 → (s.dom e).st = .clearable → (t.dom e).st = .alive)) ∧
  (Answers (.fcolFirstread h ps) s fun t => Completed h t (s.fw F.FCOL_FIRSTSTAT ++ s.rdWords F.FCOL_FIRSTNUM.addr 3 ++ s.rdWords (F.FCOL_FIRST 0).addr 16) ∧
      OnlyRegs [] s t) ∧
  (s.on F.FCOL_FIRSTSTAT = true → Answers (.fcolAck h (wordsOf (s.get F.FCOL_FIRSTNUM) 3)) s fun t => t.on F.FCOL_FIRSTSTAT = false ∧ Completed h t [] ∧
      OnlyRegs [F.FCOL_FIRSTSTAT] s t) ∧
  ((s.on F.FCOL_FIRSTSTAT = false ∨ n % 2 ^ 48 ≠ s.get F.FCOL_FIRSTNUM) → Answers (.fcolAck h (wordsOf n 3)) s fun t => Failed h t .notPermitted ∧
    OnlyRegs [] s t) ∧
  (n ≤ 64 → Answers (.fcolLogread h [w16 n]) s fun t => t.fcol = { s.fcol with log := s.fcol.log.drop n } ∧ OnlyRegs [] s t ∧
      Completed h t ((s.fcol.log.take n).flatMap (fun e => wordsOf e.1 3 ++ e.2))) ∧
  (n < 32 → (s.dom 3).st ≠ .clearable → (n < 16 ∨ s.fcol.privAt.any (fun k => s.tb.ticks ≤ k + 1) = false) → Answers (.fcolClear h [w16 n]) s fun t =>
    (16 ≤ n → t.on F.FCOL_CRIT_LATCH = false ∧ t.on F.FCOL_CRIT_PIN = s.on F.FCOL_CRIT_PULSE) ∧
      (∀ e, e < 4 → (n / 2 ^ e % 2 = 1 → (s.dom e).st = .clearable → (t.dom e).st = .alive) ∧ ((n / 2 ^ e % 2 = 0 ∨ (s.dom e).st ≠ .clearable) →
        t.dom e = s.dom e)) ∧
      Completed h t [w16 (domMap (fun e => n / 2 ^ e % 2 = 1 && s.clearable e) + n / 16 * 16), w16 (domMap (fun e => n / 2 ^ e % 2 = 1 && s.faultedDom e))]) ∧
  (16 ≤ n → n < 32 → (s.dom 3).st ≠ .clearable → Answers (.fcolClear h [w16 n]) s fun t =>
    (t.on F.FCOL_CRIT_LATCH = false ∧ (t.manifestAt h.ring h.slot).any (fun m => (m.results.getD 0 0).toNat / 16 = 1 && (m.results.getD 1 0).toNat / 16 = 0) = true) ∨
    (t.on F.FCOL_CRIT_LATCH = s.on F.FCOL_CRIT_LATCH ∧
      (t.manifestAt h.ring h.slot).any (fun m => (m.results.getD 0 0).toNat / 16 = 0 && (m.results.getD 1 0).toNat / 16 = 1) = true)) ∧
  (k + n ≤ 320 → k < 320 → n ≤ 64 → Answers (.fcolCountreport h [w16 k, w16 n]) s fun t => t.get F.FCOL_LOGOVF = 0 ∧ t.get F.FCOL_CRITCNT = 0 ∧
    t.get F.FCOL_FORCECNT = 0 ∧
      t.get F.FCOL_LDGSUPPR = 0 ∧ (∀ i, i < n → t.get (F.FCOL_RCNT (k + i)) = 0) ∧ (∀ i, i < 320 → (i < k ∨ k + n ≤ i) →
        t.get (F.FCOL_RCNT i) = s.get (F.FCOL_RCNT i)) ∧
      (t.manifestAt h.ring h.slot).any (fun m => m.state = .done && (m.results.drop 6 = (List.range n).map (fun i => w16 (s.get (F.FCOL_RCNT (k + i)))) &&
        m.results.getD 0 0 = w16 (s.get F.FCOL_LOGOVF) && m.results.getD 2 0 = w16 (s.get F.FCOL_CRITCNT))) = true) ∧
  (n ≤ 65536 → s.fcol.dump = none → (s.recordsFrom k n).length ≠ 0 → k < 2 ^ 48 →
    Answers (.fcolLedgerdump h ([0] ++ wordsOf k 3 ++ wordsOf n 2)) s fun t => Accepted h t ∧
      t.fcol.dump = some ⟨h, false, k, (s.recordsFrom k n).length, 0, (s.recordsFrom k n).length⟩ ∧ t.mem = s.mem ∧ OnlyRegs [] s t) ∧
  (s.fcol.dump = none → Answers (.fcolLedgerdump h ([0] ++ wordsOf k 3 ++ wordsOf 0 2)) s fun t => Completed h t [] ∧ t.fcol.dump = none ∧ OnlyRegs [] s t) ∧
  (n ≤ 65536 → 1 ≤ n → s.fcol.dump = none → k < 2 ^ 48 → s.recordsFrom k n = [] → Answers (.fcolLedgerdump h ([0] ++ wordsOf k 3 ++ wordsOf n 2)) s fun t =>
      Completed h t [0, 0] ∧ t.fcol.dump = none ∧ OnlyRegs [] s t) ∧
  (n ≤ 65536 → 1 ≤ n → s.fcol.dump.isSome = true → Answers (.fcolLedgerdump h ([0] ++ wordsOf k 3 ++ wordsOf n 2)) s fun t => Failed h t .busy ∧
    t.fcol = s.fcol) ∧
  (k < 2 ^ 48 → n ≤ 64 → Answers (.fcolLedgerreport h (wordsOf k 3 ++ [w16 n])) s fun t => t.ledger = s.ledger ∧ OnlyRegs [] s t ∧
      Completed h t (s.fw F.FCOL_LDGOLDEST ++ s.fw F.FCOL_LDGNEXT ++ s.fw F.FCOL_LDGSTAT ++ s.fw F.FCOL_LDGWEAR ++ (s.recordsFrom k n).flatMap LedgerRec.out)))

/-! ### Redundancy (spec/18) -/

/-- Claims (R444 to R446, R461): a frame sent says this unit's claim and gate; a higher partner claim is taken, stored, and closes this unit's gate;
a bad frame or a claim that goes back changes only its counter.
The arbiter (R451, Table 18-5).
Completes by a next state: claimFrameSend, claimFrameReceive, claimSilence, arbiterRequestChange, arbiterQualify, arbiterHandoverTimeout. -/
def Obligations.ClaimsAndArbiter : Prop :=
  (∀ (s : State) (c : Nat) (a b d : Bool) (u : Nat), s.paired = true → c < 65536 → u < 2 →
  (Answers .claimFrameSend s fun t => t.rdn.claimSent / 2 % 65536 = s.get F.RDN_CLAIM ∧ t.rdn.claimSent / 2 ^ 17 % 2 = (if s.claimGate then 1 else 0) ∧
    t.rdn.claimSent / 2 ^ 18 % 2 = (if s.readyNow then 1 else 0) ∧ t.rdn.claimSent / 2 ^ 20 % 2 = s.get F.RDN_CFG_UNIT ∧ t.regs = s.regs) ∧
  (exceeds c (s.get F.RDN_PCLAIM) = true → Answers (.claimFrameReceive (claimFrame c a b d u)) s fun t => t.get F.RDN_PCLAIM = c ∧ t.store.pclaim = c ∧
    t.get F.RDN_GEN = (s.get F.RDN_GEN + 1) % 65536 ∧ t.get F.RDN_PFLAGS = (if a then 1 else 0) + (if b then 2 else 0) + (if d then 4 else 0) + 8 * u ∧
    t.on F.RDN_STAT_CLMOK = true ∧ (exceeds c (s.get F.RDN_CLAIM) = true → t.claimGate = false) ∧
    (exceeds c (s.get F.RDN_CLAIM) = true → a = true → (s.role = 3 ∨ s.role = 4) → t.get F.RDN_DUALACT = satNat 16 (s.get F.RDN_DUALACT + 1)) ∧
    OnlyRegs [F.RDN_PCLAIM, F.RDN_PFLAGS, F.RDN_GEN, F.RDN_STAT_CLMOK, F.RDN_DUALACT] s t) ∧
  (c = s.get F.RDN_PCLAIM → Answers (.claimFrameReceive (claimFrame c a b d u)) s fun t => t.get F.RDN_PCLAIM = c ∧ t.on F.RDN_STAT_CLMOK = true ∧
    t.get F.RDN_PFLAGS = (if a then 1 else 0) + (if b then 2 else 0) + (if d then 4 else 0) + 8 * u ∧ t.store = s.store ∧
    ((a = false ∨ s.get F.RDN_PFLAGS % 2 = 1 ∨ (s.role ≠ 3 ∧ s.role ≠ 4) ∨ exceeds c (s.get F.RDN_CLAIM) = false) → t.get F.RDN_DUALACT = s.get F.RDN_DUALACT) ∧
    OnlyRegs [F.RDN_PFLAGS, F.RDN_STAT_CLMOK, F.RDN_DUALACT] s t) ∧
  (c ≠ s.get F.RDN_PCLAIM → exceeds c (s.get F.RDN_PCLAIM) = false → s.rdn.heardClaim = true → Answers (.claimFrameReceive (claimFrame c a b d u)) s fun t =>
    t.get F.RDN_CLMBACK = satNat 16 (s.get F.RDN_CLMBACK + 1) ∧ t.get F.RDN_PCLAIM = s.get F.RDN_PCLAIM ∧ t.store = s.store ∧
    OnlyRegs [F.RDN_CLMBACK, F.RDN_STAT_CLMOK] s t) ∧
  (Answers (.claimFrameReceive (claimFrame c a b d u ^^^ 2)) s fun t => t.get F.RDN_CLMERR = satNat 16 (s.get F.RDN_CLMERR + 1) ∧ t.rdn = s.rdn ∧
    t.store = s.store ∧
    OnlyRegs [F.RDN_CLMERR] s t) ∧
  (s.on F.RDN_STAT_CLMOK = true → s.fcol.running = true → s.intc.running = true → Answers .claimSilence s fun t => t.on F.RDN_STAT_CLMOK = false ∧
    t.get F.RDN_PCLAIM = s.get F.RDN_PCLAIM ∧ Raised 250 t ∧ OnlyRegs [F.RDN_STAT_CLMOK] s t)) ∧
  (∀ (s : State) (u : Nat), s.arbiter = true → s.intc.running = true → u < 2 →
  (Answers (.arbiterRequestChange u 0) s fun t => t.on (arbReqF u) = true ∧ t.get F.RDN_ARBSTAT_STATE = s.get F.RDN_ARBSTAT_STATE ∧
    OnlyRegs [F.RDN_ARBSTAT] s t) ∧
  (s.on (arbReqF u) = true → s.on (arbReqF (1 - u)) = true → s.get F.RDN_ARBSTAT_STATE = u + 1 → Answers (.arbiterRequestChange u 1) s fun t =>
    t.get F.RDN_ARBSTAT_STATE = u + 3 ∧ t.get F.RDN_ARBCNT = s.get F.RDN_ARBCNT ∧ Raised 254 t) ∧
  (s.on (arbReqF u) = true → s.get F.RDN_ARBSTAT_STATE = u + 1 → Answers (.arbiterRequestChange u 2) s fun t => t.get F.RDN_ARBSTAT_STATE = 0 ∧
    t.on (arbReqF u) = false ∧ Raised 254 t) ∧
  (s.on (arbReqF u) = true → s.get F.RDN_ARBSTAT_STATE = u + 3 → Answers (.arbiterRequestChange u 2) s fun t => t.get F.RDN_ARBSTAT_STATE = 2 - u ∧
    t.get F.RDN_ARBCNT = satNat 16 (s.get F.RDN_ARBCNT + 1) ∧ t.on (arbReqF u) = false ∧ Raised 254 t) ∧
  (s.get F.RDN_ARBSTAT_STATE = 0 → s.on (arbReqF 0) = true → s.on (arbReqF 1) = true → Answers (.arbiterQualify true true) s fun t =>
    t.get F.RDN_ARBSTAT_STATE = s.get F.RDN_CFG_PREFER + 1 ∧ t.get F.RDN_ARBCNT = satNat 16 (s.get F.RDN_ARBCNT + 1) ∧ Raised 254 t ∧
      OnlyRegs [F.RDN_ARBSTAT, F.RDN_ARBCNT] s t) ∧
  (s.get F.RDN_ARBSTAT_STATE = 0 → s.on (arbReqF u) = true → s.on (arbReqF (1 - u)) = false → Answers (.arbiterQualify true true) s fun t =>
    t.get F.RDN_ARBSTAT_STATE = u + 1 ∧ Raised 254 t) ∧
  (s.get F.RDN_ARBSTAT_STATE = u + 3 → Answers .arbiterHandoverTimeout s fun t => t.get F.RDN_ARBSTAT_STATE = u + 1 ∧ t.get F.RDN_ARBCNT = s.get F.RDN_ARBCNT ∧
    Raised 254 t ∧ OnlyRegs [F.RDN_ARBSTAT_STATE] s t))

/-- The grant line and the handovers (R448, R450, R456 to R460).
Drover (R452 to R454, R456, R461).
Completes by a next state: arbGntDecode, handoverTime, handoverWithdraw, arbReqPulseEnd, networkAnnounce, autoReleaseBound, heartbeatSend,
heartbeatReceive, heartbeatTimeout, grantMirrorReceive. -/
def Obligations.Handovers : Prop :=
  (∀ s : State, s.paired = true → s.intc.running = true →
  (s.role = 1 → s.rdn.owes = false → s.rdn.withdraw = false → s.rdn.ho = none → Answers (.arbGntDecode 1) s fun t => t.role = 2 ∧ t.grantSt = 1 ∧ t.rdn.newClaim.isSome = true ∧ t.claimGate = false ∧
    t.rdn.newClaim = some t.store.claim ∧ exceeds t.store.claim (s.get F.RDN_CLAIM) = true ∧
    t.rdn.ho.any (fun x => !x.leaving && !x.planned && s.now + 100 * US48 ≤ x.h && x.h % US48 = 0) = true ∧ t.get F.RDN_CLAIM = s.get F.RDN_CLAIM) ∧
  (s.role = 1 → s.rdn.owes = false → s.rdn.withdraw = false → s.rdn.ho.any (fun x => x.planned) = true → Answers (.arbGntDecode 1) s fun t =>
    t.role = 2 ∧ t.rdn.ho = s.rdn.ho ∧ t.store = s.store) ∧
  (s.role = 1 → s.grantSt = 1 → (s.rdn.owes = true ∨ s.rdn.withdraw = true) → Answers (.arbGntDecode 1) s fun t => t.rdn = s.rdn ∧ t.role = 1 ∧ OnlyRegs [] s t) ∧
  (s.role = 3 → s.grantSt ≠ 0 → Answers (.arbGntDecode 0) s fun t => t.role = 1 ∧ t.grantSt = 0 ∧ t.claimGate = false ∧
    t.get F.RDN_UNCOORD = satNat 16 (s.get F.RDN_UNCOORD + 1) ∧ Raised 251 t ∧ Raised 248 t) ∧
  (s.grantSt = 1 → Answers (.arbGntDecode 2) s fun t => t.grantSt = 2 ∧ t.role = s.role ∧ t.claimGate = s.claimGate ∧ Raised 251 t) ∧
  (∀ x, s.rdn.ho = some x → x.h ≤ s.now →
    (x.leaving = true → x.heardOk = true → s.role = 4 → Answers .handoverTime s fun t => t.role = 1 ∧ t.claimGate = false ∧ t.rdn.owes = true ∧
      t.rdn.ho = none ∧
      t.get F.RDN_SWCNT = satNat 16 (s.get F.RDN_SWCNT + 1)) ∧
    (x.leaving = true → x.heardOk = false → s.role = 4 → Answers .handoverTime s fun t => t.role = 3 ∧ t.rdn.ho = none ∧ Raised 252 t ∧
      t.claimGate = s.claimGate ∧ t.get F.RDN_HOFAIL = satNat 16 (s.get F.RDN_HOFAIL + 1)) ∧
    (x.leaving = false → x.planned = false → s.role = 2 → Answers .handoverTime s fun t => t.role = 3 ∧ t.rdn.ho = none ∧
      t.get F.RDN_CLAIM = s.rdn.newClaim.getD (s.get F.RDN_CLAIM) % 65536 ∧ t.get F.RDN_SWCNT = satNat 16 (s.get F.RDN_SWCNT + 1) ∧ t.rdn.rounds = 2) ∧
    (x.leaving = false → x.planned = true → x.heardOk = true → s.role = 2 → s.grantSt = 1 → s.rdn.grantedAt.any (fun g => g + 100 * US48 ≤ x.h) = true →
      Answers .handoverTime s fun t => t.role = 3 ∧ t.get F.RDN_CLAIM = s.rdn.newClaim.getD (s.get F.RDN_CLAIM) % 65536) ∧
    (x.leaving = false → x.planned = true → (x.heardOk = false ∨ s.role ≠ 2 ∨ s.grantSt ≠ 1) → (s.role = 1 ∨ s.role = 2) →
      Answers .handoverTime s fun t => t.role = 1 ∧
      t.rdn.ho = none ∧ t.rdn.newClaim = none ∧ t.get F.RDN_CLAIM = s.get F.RDN_CLAIM ∧ t.get F.RDN_HOFAIL = satNat 16 (s.get F.RDN_HOFAIL + 1))) ∧
  (s.rdn.owes = true → Answers (.handoverWithdraw false) s fun t => t.rdn = { s.rdn with owes := false, withdraw := true } ∧ t.arbReqHigh = false ∧
    t.regs = s.regs) ∧
  (s.rdn.withdraw = true → Answers (.handoverWithdraw true) s fun t => t.rdn = { s.rdn with withdraw := false } ∧ t.regs = s.regs) ∧
  (s.rdn.pulse = true → Answers .arbReqPulseEnd s fun t => t.rdn = { s.rdn with pulse := false } ∧ t.regs = s.regs) ∧
  (0 < s.rdn.rounds → Answers .networkAnnounce s fun t => t.rdn.rounds = s.rdn.rounds - 1 ∧ t.regs = s.regs ∧ t.pkt.grants = s.pkt.grants) ∧
  (s.on F.RDN_CFG_BNDREL = true → s.boundOver = true → s.get F.RDN_PBOUND ≤ s.get F.EBND_SERVELIM * 1000 →
    (s.canRelease = true → Answers .autoReleaseBound s fun t => t.role = 4 ∧ t.rdn.ho.any (fun x => x.leaving && x.planned &&
      s.now + s.get F.RDN_PREP * US48 ≤ x.h && x.h % US48 = 0) = true ∧ t.claimGate = s.claimGate ∧ Raised 248 t) ∧
    (s.canRelease = false → Answers .autoReleaseBound s fun t => t.rdn = s.rdn ∧ t.regs = s.regs))) ∧
  (∀ (s : State) (i a b : Nat) (hb : Heartbeat) (m : MeterPoint) (k : Key) (ty rec : Nat), s.paired = true → s.intc.running = true →
  s.rdn.lanes.length = 2 → i < 2 →
  (s.droverOn i = true → Answers (.heartbeatSend a b) s fun t => ((t.drover i).sent).getD 0 0 = 0x11 ∧ ((t.drover i).sent).getD 2 0 = w16 (s.get F.RDN_CLAIM) ∧
    ((t.drover i).sent).getD 3 0 = w16 (s.drover i).seq ∧ (t.drover i).seq = ((s.drover i).seq + 1) % 65536 ∧ ((t.drover i).sent).length = 32 ∧
    t.rdn.ho = s.rdn.ho ∧ t.rdn.mirror = []) ∧
  (s.droverOn i = true → hb.bound < 2 ^ 48 → Answers (.heartbeatReceive i hb m) s fun t => t.on F.RDN_STAT_PARTNER = true ∧ t.get F.RDN_PBOUND = hb.bound ∧
    t.rdn.partnerReady = hb.ready ∧ (t.drover i).rxSeq = some hb.seq ∧ t.role = s.role ∧
    (hb.handover = true → hb.role = 4 → s.role = 1 → s.rdn.ho = none → s.readyNow = true → t.now = s.now → t.readyNow = true → s.now + 100 * US48 ≤ hb.h →
      t.rdn.ho.any (fun x => x.h = hb.h && !x.leaving && x.planned && x.acked) = true ∧ t.rdn.newClaim = some t.store.claim) ∧
    (hb.handover = true → hb.role = 4 → s.role = 1 → s.rdn.ho = none → hb.h < s.now + 100 * US48 → s.rdn.refused ≠ some hb.h →
      t.rdn.ho = none ∧ t.get F.RDN_HOFAIL = satNat 16 (s.get F.RDN_HOFAIL + 1)) ∧
    (∀ x, s.rdn.ho = some x → hb.h = x.h → hb.ack = true → x.leaving = true → x.acked = false → t.rdn.pulse = true ∧
      t.rdn.ho = some { x with acked := true, heard := some t.now })) ∧
  (s.on F.RDN_STAT_PARTNER = true → Answers .heartbeatTimeout s fun t => t.on F.RDN_STAT_PARTNER = false ∧
    t.get F.RDN_HBLOSS = satNat 16 (s.get F.RDN_HBLOSS + 1) ∧
    t.rdn.partnerReady = false ∧ Raised 249 t ∧ OnlyRegs [F.RDN_STAT_PARTNER, F.RDN_HBLOSS] s t) ∧
  (s.role = 1 → ty < 3 → s.ctabUp = true → s.droverOn i = true → ∀ n, s.findKey k = some n → Answers (.grantMirrorReceive k ty rec) s fun t =>
    t.ctab.commits = s.ctab.commits ++ [.grant n (s.eGen n) ty (rec % 2 ^ 128) (s.eGet n 0xA0 10)] ∧ t.mem = s.mem) ∧
  (s.role = 1 → ty < 3 → s.ctabUp = true → s.droverOn i = true → s.findKey k = none → Answers (.grantMirrorReceive k ty rec) s fun t => t.ctab = s.ctab ∧
    t.pkt = s.pkt ∧ t.regs = s.regs))

/-- The waybills of RDN (R456, R464).
Completes by a next state: rdnCfg, rdnRelease, rdnReport. -/
def Obligations.RdnWaybills : Prop := ∀ (s : State) (h : WbHead) (c a b : Nat) (ps : List Word), Ready h s →
  (c < 256 → c % 4 ≠ 3 → 300 ≤ a → a ≤ 10000 → 600 ≤ b → b ≤ 10000 → Answers (.rdnCfg h [w16 (s.get F.RDN_GEN), w16 c, w16 a, w16 b]) s fun t =>
    t.get F.RDN_CFG % 256 = c ∧ t.get F.RDN_HBTMO = a ∧ t.get F.RDN_PREP = b ∧ t.rdn = s.rdn ∧ Completed h t [w16 (s.get F.RDN_GEN + 1)] ∧
    OnlyRegs [F.RDN_CFG, F.RDN_HBTMO, F.RDN_PREP, F.RDN_GEN] s t) ∧
  (s.canRelease = true → Answers (.rdnRelease h [w16 (s.get F.RDN_GEN)]) s fun t => t.role = 4 ∧
    Completed h t (w16 (s.get F.RDN_GEN + 1) :: t.rdWords F.RDN_HOTIME.addr 4) ∧ t.claimGate = s.claimGate ∧
    t.rdn.ho.any (fun x => x.leaving && x.planned && s.now + s.get F.RDN_PREP * US48 ≤ x.h) = true ∧ OnlyRegs [F.RDN_STAT_ROLE, F.RDN_GEN, F.RDN_HOTIME] s t) ∧
  (s.canRelease = false → Answers (.rdnRelease h [w16 (s.get F.RDN_GEN)]) s fun t => Failed h t .notPermitted ∧ t.rdn = s.rdn ∧ OnlyRegs [] s t) ∧
  (Answers (.rdnReport h ps) s fun t => t.rdn = s.rdn ∧ t.get F.RDN_SWCNT = 0 ∧ t.get F.RDN_HOFAIL = 0 ∧ t.get F.RDN_HBLOSS = 0 ∧ t.get F.RDN_CLMERR = 0 ∧
    t.get F.RDN_CLMBACK = 0 ∧
    t.get F.RDN_DUALACT = 0 ∧ t.get F.RDN_UNCOORD = 0 ∧ (t.manifestAt h.ring h.slot).any (fun m => m.state = .done && m.results.drop 7 =
      s.fw F.RDN_SWCNT ++ s.fw F.RDN_HOFAIL ++ s.fw F.RDN_HBLOSS ++ s.fw F.RDN_CLMERR ++ s.fw F.RDN_CLMBACK ++ s.fw F.RDN_DUALACT ++ s.fw F.RDN_UNCOORD ++
        s.fw F.RDN_ARBSTAT) = true)

/-! ### The block as a whole -/

/-- A step takes the command at the front of the queue and runs it on the state with the queue's rest; on an empty queue the block idles (the
model's choice, log entry 1). -/
def Obligations.StepTakesFront : Prop := ∀ (c : Instr) (s : State),
  step { s with pending := c :: s.pending } = exec c s ∧ (s.pending = [] → step s = .next s)

/-- What reset leaves: nothing waits, the block is unpowered and starts nothing, nothing is held in memory, and the forms of the state hold. -/
def Obligations.ResetState : Prop := State.reset.pending = [] ∧ State.reset.psu.sup = .off ∧ State.reset.seq.st = .idle ∧ State.reset.intc.running = false ∧
  State.reset.fcol.running = false ∧ Memory.wf State.reset.mem = true ∧ State.reset.regsWf = true ∧ State.reset.shaped = true ∧ State.reset.latchesWf = true ∧
  State.reset.intc.host.nested ∧ State.reset.intc.mgmt.nested ∧ State.reset.get F.SEQ_PART = 0x7400 ∧ State.reset.get F.RDN_STAT_ROLE = 0 ∧
  State.reset.claimGate = false ∧ State.reset.get F.TBASE_STAT = 0

/-- Every command completes in every state, leaves the queue alone, and changes no part of the state that it is not named for.
Every byte of memory stays as it was under every command but those that store to it. -/
def Obligations.StateFrames : Prop :=
  (∀ (c : Instr) (s : State), Answers c s fun t => t.pending = s.pending ∧ (c.mayPsu = false → t.psu = s.psu) ∧
  (c.mayAon = false → t.aon = s.aon) ∧ (c.maySeq = false → t.seq = s.seq) ∧ (c.mayRefs = false → t.refs = s.refs) ∧ (c.mayDpll = false → t.dpll = s.dpll) ∧
  (c.mayApll = false → t.apll = s.apll) ∧ (c.mayTb = false → t.tb = s.tb) ∧ (c.mayEbnd = false → t.ebnd = s.ebnd) ∧ (c.mayGnss = false → t.gnss = s.gnss) ∧
  (c.mayMts = false → t.mts = s.mts) ∧ (c.mayRdn = false → t.rdn = s.rdn) ∧ (c.mayLedger = false → t.ledger = s.ledger)) ∧
  (∀ (c : Instr) (s : State), c.mayMem = false → Answers c s fun t => t.mem = s.mem ∧ ∀ a, t.byte a = s.byte a)

/-- Every step keeps the canonical forms of memory and of the register file, the lengths of the tables of the state, and what a latch may hold. -/
def Obligations.StateForms : Prop :=
  (∀ s t : State, Memory.wf s.mem = true → s.regsWf = true → step s = .next t → Memory.wf t.mem = true ∧ t.regsWf = true) ∧
  (∀ s t : State, s.shaped = true → step s = .next t → t.shaped = true) ∧
  (∀ s t : State, s.latchesWf = true → step s = .next t → t.latchesWf = true)
end

