-- ==== Sys2Proof/Laws/Sparse.lean ====
section
/-! SUPPORT. The laws of the sparse maps: reading after a write, and that a write keeps the canonical form. -/
namespace Sys2Proof.Machine

variable {α : Type}

theorem look_insertKey (d : α) (m : List (Nat × α)) (a b : Nat) (x : α) :
    look d (insertKey m a x) b = if b = a then x else look d m b := by
  induction m with
  | nil => simp [insertKey, look]
  | cons p r ih =>
    obtain ⟨k, v⟩ := p
    simp only [insertKey]
    split
    · simp [look]
    · split
      · subst_vars; simp only [look]; split <;> rfl
      · simp only [look, ih]; split <;> (split <;> simp_all)

theorem look_eraseKey (d : α) (m : List (Nat × α)) (a b : Nat) :
    look d (eraseKey m a) b = if b = a then d else look d m b := by
  induction m with
  | nil => simp [eraseKey, look]
  | cons p r ih =>
    obtain ⟨k, v⟩ := p
    simp only [eraseKey]
    split
    · simp only [ih, look]; split <;> simp_all
    · simp only [look, ih]; split <;> (split <;> simp_all)

theorem rising_mono (m : List (Nat × α)) (lo hi : Nat) (h : rising hi m = true) (hl : lo ≤ hi) : rising lo m = true := by
  cases m with
  | nil => rfl
  | cons p r =>
    obtain ⟨k, v⟩ := p
    simp only [rising, Bool.and_eq_true, decide_eq_true_eq] at h ⊢
    exact ⟨by omega, h.2⟩

theorem rising_insertKey (m : List (Nat × α)) (a lo : Nat) (x : α) (h : rising lo m = true) (ha : lo ≤ a) :
    rising lo (insertKey m a x) = true := by
  induction m generalizing lo with
  | nil => simp [insertKey, rising, ha]
  | cons p r ih =>
    obtain ⟨k, v⟩ := p
    have h0 := h
    simp only [rising, Bool.and_eq_true, decide_eq_true_eq] at h
    simp only [insertKey]
    split
    · simp only [rising, Bool.and_eq_true, decide_eq_true_eq]; exact ⟨ha, by omega, h.2⟩
    · split
      · subst_vars; simp only [rising, Bool.and_eq_true, decide_eq_true_eq]; exact ⟨ha, h.2⟩
      · simp only [rising, Bool.and_eq_true, decide_eq_true_eq]; exact ⟨h.1, ih (k + 1) h.2 (by omega)⟩

theorem rising_eraseKey (m : List (Nat × α)) (a lo : Nat) (h : rising lo m = true) : rising lo (eraseKey m a) = true := by
  induction m generalizing lo with
  | nil => rfl
  | cons p r ih =>
    obtain ⟨k, v⟩ := p
    simp only [rising, Bool.and_eq_true, decide_eq_true_eq] at h
    simp only [eraseKey]
    split
    · exact rising_mono _ lo (k + 1) (ih (k + 1) h.2) (by omega)
    · simp only [rising, Bool.and_eq_true, decide_eq_true_eq]; exact ⟨h.1, ih (k + 1) h.2⟩

theorem mem_insertKey (m : List (Nat × α)) (a : Nat) (x : α) (p : Nat × α) (h : p ∈ insertKey m a x) : p = (a, x) ∨ p ∈ m := by
  induction m with
  | nil => simpa [insertKey] using h
  | cons q r ih =>
    obtain ⟨k, v⟩ := q
    simp only [insertKey] at h
    split at h
    · simpa using h
    · split at h
      · rcases List.mem_cons.mp h with h | h
        · exact .inl h
        · exact .inr (List.mem_cons_of_mem _ h)
      · rcases List.mem_cons.mp h with h | h
        · exact .inr (h ▸ List.mem_cons_self)
        · exact (ih h).imp_right (List.mem_cons_of_mem _)

theorem mem_eraseKey (m : List (Nat × α)) (a : Nat) (p : Nat × α) (h : p ∈ eraseKey m a) : p ∈ m := by
  induction m with
  | nil => simp [eraseKey] at h
  | cons q r ih =>
    obtain ⟨k, v⟩ := q
    simp only [eraseKey] at h
    split at h
    · exact List.mem_cons_of_mem _ (ih h)
    · rcases List.mem_cons.mp h with h | h
      · exact h ▸ List.mem_cons_self
      · exact List.mem_cons_of_mem _ (ih h)

/-- Every write keeps the canonical form. -/
theorem canon_store [DecidableEq α] (d : Nat → α) (m : List (Nat × α)) (a : Nat) (x : α) (h : canon d m = true) :
    canon d (store (d a) m a x) = true := by
  simp only [canon, Bool.and_eq_true, List.all_eq_true, decide_eq_true_eq] at h ⊢
  simp only [store]
  split
  · exact ⟨rising_eraseKey m a 0 h.1, fun p hp => h.2 p (mem_eraseKey m a p hp)⟩
  · refine ⟨rising_insertKey m a 0 x h.1 (Nat.zero_le a), fun p hp => ?_⟩
    rcases mem_insertKey m a x p hp with rfl | hp
    · assumption
    · exact h.2 p hp

/-- Reading after a write. -/
theorem look_store [DecidableEq α] (d : α) (m : List (Nat × α)) (a b : Nat) (x : α) :
    look d (store d m a x) b = if b = a then x else look d m b := by
  simp only [store]
  split
  · rw [look_eraseKey]; split <;> simp_all
  · exact look_insertKey d m a b x

/-- A write elsewhere changes nothing here, whatever the two defaults. -/
theorem look_store_ne [DecidableEq α] (d e : α) (m : List (Nat × α)) (a b : Nat) (x : α) (h : b ≠ a) :
    look e (store d m a x) b = look e m b := by
  simp only [store]
  split
  · rw [look_eraseKey, if_neg h]
  · rw [look_insertKey, if_neg h]

end Sys2Proof.Machine
end

