-- ==== Sys2Proof/Laws/Mem.lean ====
section
/-! SUPPORT. The laws of the in-package memory: reading after a write, writes elsewhere, and that every write keeps the canonical form. -/
namespace Sys2Proof.Machine

theorem look_clearCells (m : List Host.Cell) (a n b : Nat) :
    look (0 : Byte) (clearCells m a n) b = if a ≤ b ∧ b < a + n then 0 else look (0 : Byte) m b := by
  induction m with
  | nil => simp [clearCells, look]
  | cons p r ih =>
    obtain ⟨k, v⟩ := p
    rw [clearCells, List.filter_cons]
    change look 0 (if _ then (k, v) :: clearCells r a n else clearCells r a n) b = _
    by_cases hk : (decide (k < a) || decide (a + n ≤ k)) = true
    · rw [if_pos hk]
      simp only [look, ih]
      simp only [Bool.or_eq_true, decide_eq_true_eq] at hk
      by_cases hb : b = k
      · rw [if_pos hb, if_pos hb, if_neg (by omega)]
      · rw [if_neg hb, if_neg hb]
    · rw [if_neg hk, ih]
      simp only [Bool.or_eq_true, decide_eq_true_eq] at hk
      simp only [look]
      by_cases hb : b = k
      · rw [if_pos hb, if_pos (by omega), if_pos (by omega)]
      · rw [if_neg hb]

theorem look_putCells (m : List Host.Cell) (a v n b : Nat) :
    look (0 : Byte) (putCells m a v n) b =
      if a ≤ b ∧ b < a + n then BitVec.ofNat 8 (v / 256 ^ (b - a)) else look (0 : Byte) m b := by
  induction n generalizing m a v with
  | zero => rw [if_neg (by omega)]; rfl
  | succ n ih =>
    rw [putCells, ih]
    by_cases h0 : b = a
    · subst h0
      rw [if_neg (by omega), look_store, if_pos rfl, if_pos (by omega), Nat.sub_self, Nat.pow_zero, Nat.div_one]
    · by_cases h : a + 1 ≤ b ∧ b < a + 1 + n
      · rw [if_pos h, if_pos (by omega), Nat.div_div_eq_div_mul, ← Nat.pow_succ', show (b - (a + 1)).succ = b - a by omega]
      · rw [if_neg h, look_store, if_neg h0, if_neg (by omega)]

/-- A byte after a write of `n` bytes. -/
theorem byte_memPut (s : State) (a n v b : Nat) :
    (s.memPut a n v).byte b = if a ≤ b ∧ b < a + n then v / 256 ^ (b - a) % 256 else s.byte b := by
  unfold State.byte State.memPut
  by_cases hv : v = 0
  · simp only [hv, if_pos, look_clearCells]; split <;> simp
  · simp only [if_neg hv, look_putCells]; split <;> simp

/-- A write leaves every byte outside it. -/
theorem byte_memPut_apart (s : State) (a n v b : Nat) (h : b < a ∨ a + n ≤ b) : (s.memPut a n v).byte b = s.byte b := by
  rw [byte_memPut, if_neg (by omega)]

theorem memN_congr {s t : State} (a n : Nat) (h : ∀ b, a ≤ b → b < a + n → t.byte b = s.byte b) : t.memN a n = s.memN a n := by
  induction n generalizing a with
  | zero => rfl
  | succ n ih => rw [State.memN, State.memN, h a (by omega) (by omega), ih (a + 1) (fun b h1 h2 => h b (by omega) (by omega))]

/-- A number read where another was written next to it. -/
theorem memN_memPut_apart (s : State) (a n v b m : Nat) (h : b + m ≤ a ∨ a + n ≤ b) : (s.memPut a n v).memN b m = s.memN b m :=
  memN_congr b m (fun c h1 h2 => byte_memPut_apart s a n v c (by omega))

theorem memN_part (s : State) (a n v k m : Nat) (h : k + m ≤ n) : (s.memPut a n v).memN (a + k) m = v / 256 ^ k % 256 ^ m := by
  induction m generalizing k with
  | zero => simp [State.memN, Nat.mod_one]
  | succ m ih =>
    rw [State.memN, byte_memPut, if_pos (by omega), Nat.add_assoc, ih (k + 1) (by omega), Nat.add_sub_cancel_left, Nat.pow_succ' (n := m), Nat.mod_mul,
      Nat.div_div_eq_div_mul, ← Nat.pow_succ]

/-- A number reads back as it was written, cut to the bytes written. -/
theorem memN_memPut (s : State) (a n v : Nat) : (s.memPut a n v).memN a n = v % 256 ^ n := by
  simpa using memN_part s a n v 0 n (by omega)

theorem wf_clearCells (m : List Host.Cell) (a n : Nat) (h : Memory.wf m = true) : Memory.wf (clearCells m a n) = true := by
  simp only [Memory.wf, canon, Bool.and_eq_true, List.all_eq_true] at h ⊢
  refine ⟨?_, fun p hp => h.2 p (List.mem_filter.mp hp).1⟩
  have hr := h.1
  clear h
  generalize 0 = lo at hr ⊢
  induction m generalizing lo with
  | nil => rfl
  | cons p r ih =>
    obtain ⟨k, v⟩ := p
    simp only [rising, Bool.and_eq_true, decide_eq_true_eq] at hr
    rw [clearCells, List.filter_cons]
    change rising lo (if _ then (k, v) :: clearCells r a n else clearCells r a n) = true
    split
    · simp only [rising, Bool.and_eq_true, decide_eq_true_eq]; exact ⟨hr.1, ih _ hr.2⟩
    · exact rising_mono _ lo (k + 1) (ih _ hr.2) (by omega)

theorem wf_putCells (m : List Host.Cell) (a v n : Nat) (h : Memory.wf m = true) : Memory.wf (putCells m a v n) = true := by
  induction n generalizing m a v with
  | zero => exact h
  | succ n ih => exact ih _ _ _ (canon_store (fun _ => (0 : Byte)) m a _ h)

/-- Every write of the in-package memory keeps its canonical form. -/
theorem wf_memPut (s : State) (a n v : Nat) (h : Memory.wf s.mem = true) : Memory.wf (s.memPut a n v).mem = true := by
  simp only [State.memPut]
  split
  · exact wf_clearCells _ _ _ h
  · exact wf_putCells _ _ _ _ h

/-- Memory after reset has the canonical form. -/
theorem wf_reset : Memory.wf State.reset.mem = true := rfl

/-- A word written to the register file keeps its canonical form. -/
theorem regsWf_wr (s : State) (a : Nat) (w : Word) (h : s.regsWf = true) : (s.wr a w).regsWf = true := canon_store regDefault s.regs a w h

theorem regsWf_wrN (s : State) (a v n : Nat) (h : s.regsWf = true) : (s.wrN a v n).regsWf = true := by
  induction n generalizing s a v with
  | zero => exact h
  | succ n ih => exact ih _ _ _ (regsWf_wr s a _ h)

/-- A field put into the register file keeps its canonical form. -/
theorem regsWf_set (s : State) (f : Field) (v : Nat) (h : s.regsWf = true) : (s.set f v).regsWf = true := regsWf_wrN s _ _ _ h

end Sys2Proof.Machine
end

