-- ==== Sys2Proof/Laws/Regs.lean ====
section
/-! SUPPORT. The laws of registers and fields: reading after a write, writes elsewhere, and that every write keeps the canonical form. -/
namespace Sys2Proof.Machine

@[simp] theorem rd_wr (s : State) (a b : Nat) (w : Word) : (s.wr a w).rd b = if b = a then w else s.rd b := by
  by_cases h : b = a
  · subst h; simp [State.rd, State.wr, look_store]
  · simp [State.rd, State.wr, look_store_ne _ _ _ _ _ _ h, h]

theorem rd_wrN_apart (s : State) (a b v n : Nat) (h : b < a ∨ a + 2 * n ≤ b) : (s.wrN a v n).rd b = s.rd b := by
  induction n generalizing s a v with
  | zero => rfl
  | succ n ih =>
    rw [State.wrN, ih _ _ _ (by omega), rd_wr, if_neg (by omega)]

theorem rdN_wr_apart (s : State) (a b n : Nat) (w : Word) (h : a < b ∨ b + 2 * n ≤ a) : (s.wr a w).rdN b n = s.rdN b n := by
  induction n generalizing b with
  | zero => rfl
  | succ n ih => rw [State.rdN, State.rdN, ih _ (by omega), rd_wr, if_neg (by omega)]

theorem rdN_wrN_apart (s : State) (a b v n m : Nat) (h : b + 2 * m ≤ a ∨ a + 2 * n ≤ b) : (s.wrN a v n).rdN b m = s.rdN b m := by
  induction m generalizing b with
  | zero => rfl
  | succ m ih => rw [State.rdN, State.rdN, ih _ (by omega), rd_wrN_apart _ _ _ _ _ (by omega)]

theorem rdN_wrN (s : State) (a v n : Nat) : (s.wrN a v n).rdN a n = v % 65536 ^ n := by
  induction n generalizing s a v with
  | zero => simp [State.rdN, Nat.mod_one]
  | succ n ih =>
    rw [State.wrN, State.rdN, ih, rd_wrN_apart _ _ _ _ _ (by omega), rd_wr, if_pos rfl, BitVec.toNat_ofNat, show 65536 ^ (n + 1) = 65536 * 65536 ^ n from Nat.pow_succ', Nat.mod_mul]

theorem rdN_lt (s : State) (a n : Nat) : s.rdN a n < 65536 ^ n := by
  induction n generalizing a with
  | zero => simp [State.rdN]
  | succ n ih =>
    have := ih (a + 2)
    have h : (s.rd a).toNat < 65536 := (s.rd a).isLt
    rw [State.rdN, Nat.pow_succ]; omega

/-- A field's bits lie in its words. -/
theorem Field.fits (f : Field) : f.lo + f.wid ≤ 16 * f.words := by unfold Field.words; omega

theorem pow16 (n : Nat) : 65536 ^ n = 2 ^ (16 * n) := by rw [Nat.pow_mul]

/-- A field below bit `k` is the same in a number cut to `k` bits. -/
theorem bits_mod (x lo wid k : Nat) (h : lo + wid ≤ k) : x % 2 ^ k / 2 ^ lo % 2 ^ wid = x / 2 ^ lo % 2 ^ wid := by
  apply Nat.eq_of_testBit_eq
  intro i
  simp only [Nat.testBit_mod_two_pow, Nat.testBit_div_two_pow]
  by_cases hi : i < wid
  · simp [hi]; omega
  · simp [hi]

theorem putBits_bits (old lo wid v : Nat) : putBits old lo wid v / 2 ^ lo % 2 ^ wid = v % 2 ^ wid := by
  have h1 : old % 2 ^ lo < 2 ^ lo := Nat.mod_lt _ (Nat.two_pow_pos lo)
  rw [putBits, Nat.pow_add, Nat.mul_comm (2 ^ lo) (2 ^ wid), ← Nat.mul_assoc, Nat.add_assoc, ← Nat.add_mul, Nat.add_mul_div_right _ _ (Nat.two_pow_pos lo),
    Nat.div_eq_of_lt h1, Nat.zero_add, Nat.add_mul_mod_self_right, Nat.mod_mod]

/-- A field reads what was put in it, cut to its width. -/
@[simp] theorem get_set (s : State) (f : Field) (v : Nat) : (s.set f v).get f = v % 2 ^ f.wid := by
  rw [State.get, State.set, rdN_wrN, pow16, bits_mod _ _ _ _ f.fits, putBits_bits]

/-- Putting a field changes no field of another register. -/
theorem get_set_apart (s : State) (f g : Field) (v : Nat) (h : f.apart g = true) : (s.set f v).get g = s.get g := by
  rw [State.get, State.set, rdN_wrN_apart _ _ _ _ _ _ (of_decide_eq_true h), State.get]

theorem putBits_other (old lo wid v lo' wid' : Nat) (h : lo + wid ≤ lo' ∨ lo' + wid' ≤ lo) :
    putBits old lo wid v / 2 ^ lo' % 2 ^ wid' = old / 2 ^ lo' % 2 ^ wid' := by
  have h1 : old % 2 ^ lo < 2 ^ lo := Nat.mod_lt _ (Nat.two_pow_pos lo)
  have h2 : v % 2 ^ wid < 2 ^ wid := Nat.mod_lt _ (Nat.two_pow_pos wid)
  have e : putBits old lo wid v = 2 ^ (lo + wid) * (old / 2 ^ (lo + wid)) + (2 ^ lo * (v % 2 ^ wid) + old % 2 ^ lo) := by
    unfold putBits; rw [Nat.mul_comm (2 ^ (lo + wid)), Nat.mul_comm (2 ^ lo)]; omega
  have h3 : 2 ^ lo * (v % 2 ^ wid) + old % 2 ^ lo < 2 ^ (lo + wid) := by
    rw [Nat.pow_add]
    calc _ < 2 ^ lo * (v % 2 ^ wid) + 2 ^ lo := by omega
      _ = 2 ^ lo * (v % 2 ^ wid + 1) := by rw [Nat.mul_add, Nat.mul_one]
      _ ≤ _ := Nat.mul_le_mul_left _ h2
  apply Nat.eq_of_testBit_eq
  intro i
  simp only [Nat.testBit_mod_two_pow, Nat.testBit_div_two_pow]
  by_cases hi : i < wid'
  · simp only [hi, decide_true, Bool.true_and]
    rw [e, Nat.testBit_two_pow_mul_add _ h3]
    rcases h with h | h
    · rw [if_neg (by omega), Nat.testBit_div_two_pow]; congr 1; omega
    · rw [if_pos (by omega), Nat.testBit_two_pow_mul_add _ h1, if_pos (by omega), Nat.testBit_mod_two_pow]; simp; omega
  · simp [hi]

theorem rdN_mod (s : State) (a n m : Nat) (h : m ≤ n) : s.rdN a m = s.rdN a n % 65536 ^ m := by
  induction m generalizing a n with
  | zero => simp [State.rdN, Nat.mod_one]
  | succ m ih =>
    obtain ⟨n, rfl⟩ : ∃ k, n = k + 1 := ⟨n - 1, by omega⟩
    have hl : (s.rd a).toNat < 65536 := (s.rd a).isLt
    rw [State.rdN, State.rdN, ih (a + 2) n (by omega), Nat.pow_succ, Nat.mul_comm (65536 ^ m), Nat.mod_mul,
      Nat.add_mul_mod_self_left, Nat.mod_eq_of_lt hl, Nat.add_mul_div_left _ _ (by decide), Nat.div_eq_of_lt hl, Nat.zero_add]

/-- Putting a field leaves the other bits of its register. -/
theorem get_set_beside (s : State) (f g : Field) (v : Nat) (h : f.beside g = true) : (s.set f v).get g = s.get g := by
  obtain ⟨ha, hb, hw⟩ := of_decide_eq_true h
  have hf := g.fits
  rw [State.get, State.get, rdN_mod _ _ f.words _ hw, rdN_mod s _ f.words _ hw, State.set, ← ha, rdN_wrN, pow16, pow16,
    bits_mod _ _ _ _ hf, bits_mod _ _ _ _ hf, bits_mod _ _ _ _ (by omega), putBits_other _ _ _ _ _ _ hb]

theorem get_set_disj (s : State) (f g : Field) (v : Nat) (h : f.disj g = true) : (s.set f v).get g = s.get g := by
  rcases Bool.or_eq_true _ _ ▸ h with h | h
  · exact get_set_apart s f g v h
  · exact get_set_beside s f g v h

theorem get_lt (s : State) (f : Field) : s.get f < 2 ^ f.wid := Nat.mod_lt _ (Nat.two_pow_pos _)

theorem satNat_lt (w v : Nat) : satNat w v < 2 ^ w := by
  have := Nat.two_pow_pos w
  unfold satNat; split <;> omega

theorem get_setSat (s : State) (f : Field) (v : Nat) : (s.setSat f v).get f = satNat f.wid v := by
  rw [State.setSat, get_set, Nat.mod_eq_of_lt (satNat_lt _ _)]

theorem get_inc (s : State) (f : Field) : (s.inc f).get f = satNat f.wid (s.get f + 1) := get_setSat _ _ _

theorem get_bump (s : State) (f : Field) : (s.bump f).get f = (s.get f + 1) % 2 ^ f.wid := get_set _ _ _

theorem get_setB (s : State) (f : Field) (b : Bool) (h : 0 < f.wid) : (s.setB f b).get f = if b then 1 else 0 := by
  have : 1 < 2 ^ f.wid := Nat.one_lt_two_pow (by omega)
  rw [State.setB, get_set]; split
  · exact Nat.mod_eq_of_lt this
  · exact Nat.zero_mod _

theorem get_setSat_disj (s : State) (f g : Field) (v : Nat) (h : f.disj g = true) : (s.setSat f v).get g = s.get g := get_set_disj s f g _ h
theorem get_inc_disj (s : State) (f g : Field) (h : f.disj g = true) : (s.inc f).get g = s.get g := get_set_disj s f g _ h
theorem get_bump_disj (s : State) (f g : Field) (h : f.disj g = true) : (s.bump f).get g = s.get g := get_set_disj s f g _ h
theorem get_setB_disj (s : State) (f g : Field) (b : Bool) (h : f.disj g = true) : (s.setB f b).get g = s.get g := get_set_disj s f g _ h
theorem get_setI_disj (s : State) (f g : Field) (v : Int) (h : f.disj g = true) : (s.setI f v).get g = s.get g := get_set_disj s f g _ h

end Sys2Proof.Machine
end

