-- ==== Sys2Proof/Laws/State.lean ====
section
/-! SUPPORT. What the shared operations leave as it is: for each, the parts of the state it does not touch. -/
namespace Sys2Proof.Machine

theorem get_congr {s t : State} (h : t.regs = s.regs) (f : Field) : t.get f = s.get f := by
  have : ∀ n a, t.rdN a n = s.rdN a n := by
    intro n; induction n with
    | zero => intro a; rfl
    | succ n ih => intro a; simp only [State.rdN, State.rd, ih, h]
  simp only [State.get, this]

theorem foldl_regs {α : Type} (f : State → α → State) (h : ∀ s x, (f s x).regs = s.regs) (l : List α) (s : State) :
    (l.foldl f s).regs = s.regs := by
  induction l generalizing s with
  | nil => rfl
  | cons x r ih => simp only [List.foldl_cons, ih, h]

theorem foldl_psu {α : Type} (f : State → α → State) (h : ∀ s x, (f s x).psu = s.psu) (l : List α) (s : State) :
    (l.foldl f s).psu = s.psu := by
  induction l generalizing s with
  | nil => rfl
  | cons x r ih => simp only [List.foldl_cons, ih, h]

theorem foldl_aon {α : Type} (f : State → α → State) (h : ∀ s x, (f s x).aon = s.aon) (l : List α) (s : State) :
    (l.foldl f s).aon = s.aon := by
  induction l generalizing s with
  | nil => rfl
  | cons x r ih => simp only [List.foldl_cons, ih, h]

theorem foldl_store {α : Type} (f : State → α → State) (h : ∀ s x, (f s x).store = s.store) (l : List α) (s : State) :
    (l.foldl f s).store = s.store := by
  induction l generalizing s with
  | nil => rfl
  | cons x r ih => simp only [List.foldl_cons, ih, h]

theorem foldl_refs {α : Type} (f : State → α → State) (h : ∀ s x, (f s x).refs = s.refs) (l : List α) (s : State) :
    (l.foldl f s).refs = s.refs := by
  induction l generalizing s with
  | nil => rfl
  | cons x r ih => simp only [List.foldl_cons, ih, h]

theorem foldl_dpll {α : Type} (f : State → α → State) (h : ∀ s x, (f s x).dpll = s.dpll) (l : List α) (s : State) :
    (l.foldl f s).dpll = s.dpll := by
  induction l generalizing s with
  | nil => rfl
  | cons x r ih => simp only [List.foldl_cons, ih, h]

theorem foldl_hold {α : Type} (f : State → α → State) (h : ∀ s x, (f s x).hold = s.hold) (l : List α) (s : State) :
    (l.foldl f s).hold = s.hold := by
  induction l generalizing s with
  | nil => rfl
  | cons x r ih => simp only [List.foldl_cons, ih, h]

theorem foldl_apll {α : Type} (f : State → α → State) (h : ∀ s x, (f s x).apll = s.apll) (l : List α) (s : State) :
    (l.foldl f s).apll = s.apll := by
  induction l generalizing s with
  | nil => rfl
  | cons x r ih => simp only [List.foldl_cons, ih, h]

theorem foldl_tb {α : Type} (f : State → α → State) (h : ∀ s x, (f s x).tb = s.tb) (l : List α) (s : State) :
    (l.foldl f s).tb = s.tb := by
  induction l generalizing s with
  | nil => rfl
  | cons x r ih => simp only [List.foldl_cons, ih, h]

theorem foldl_tic {α : Type} (f : State → α → State) (h : ∀ s x, (f s x).tic = s.tic) (l : List α) (s : State) :
    (l.foldl f s).tic = s.tic := by
  induction l generalizing s with
  | nil => rfl
  | cons x r ih => simp only [List.foldl_cons, ih, h]

theorem foldl_ebnd {α : Type} (f : State → α → State) (h : ∀ s x, (f s x).ebnd = s.ebnd) (l : List α) (s : State) :
    (l.foldl f s).ebnd = s.ebnd := by
  induction l generalizing s with
  | nil => rfl
  | cons x r ih => simp only [List.foldl_cons, ih, h]

theorem foldl_gnss {α : Type} (f : State → α → State) (h : ∀ s x, (f s x).gnss = s.gnss) (l : List α) (s : State) :
    (l.foldl f s).gnss = s.gnss := by
  induction l generalizing s with
  | nil => rfl
  | cons x r ih => simp only [List.foldl_cons, ih, h]

theorem foldl_mts {α : Type} (f : State → α → State) (h : ∀ s x, (f s x).mts = s.mts) (l : List α) (s : State) :
    (l.foldl f s).mts = s.mts := by
  induction l generalizing s with
  | nil => rfl
  | cons x r ih => simp only [List.foldl_cons, ih, h]

theorem foldl_pkt {α : Type} (f : State → α → State) (h : ∀ s x, (f s x).pkt = s.pkt) (l : List α) (s : State) :
    (l.foldl f s).pkt = s.pkt := by
  induction l generalizing s with
  | nil => rfl
  | cons x r ih => simp only [List.foldl_cons, ih, h]

theorem foldl_auth {α : Type} (f : State → α → State) (h : ∀ s x, (f s x).auth = s.auth) (l : List α) (s : State) :
    (l.foldl f s).auth = s.auth := by
  induction l generalizing s with
  | nil => rfl
  | cons x r ih => simp only [List.foldl_cons, ih, h]

theorem foldl_ctab {α : Type} (f : State → α → State) (h : ∀ s x, (f s x).ctab = s.ctab) (l : List α) (s : State) :
    (l.foldl f s).ctab = s.ctab := by
  induction l generalizing s with
  | nil => rfl
  | cons x r ih => simp only [List.foldl_cons, ih, h]

theorem foldl_rdn {α : Type} (f : State → α → State) (h : ∀ s x, (f s x).rdn = s.rdn) (l : List α) (s : State) :
    (l.foldl f s).rdn = s.rdn := by
  induction l generalizing s with
  | nil => rfl
  | cons x r ih => simp only [List.foldl_cons, ih, h]

theorem foldl_mem {α : Type} (f : State → α → State) (h : ∀ s x, (f s x).mem = s.mem) (l : List α) (s : State) :
    (l.foldl f s).mem = s.mem := by
  induction l generalizing s with
  | nil => rfl
  | cons x r ih => simp only [List.foldl_cons, ih, h]

theorem foldl_seq {α : Type} (f : State → α → State) (h : ∀ s x, (f s x).seq = s.seq) (l : List α) (s : State) :
    (l.foldl f s).seq = s.seq := by
  induction l generalizing s with
  | nil => rfl
  | cons x r ih => simp only [List.foldl_cons, ih, h]

theorem foldl_mgmt {α : Type} (f : State → α → State) (h : ∀ s x, (f s x).mgmt = s.mgmt) (l : List α) (s : State) :
    (l.foldl f s).mgmt = s.mgmt := by
  induction l generalizing s with
  | nil => rfl
  | cons x r ih => simp only [List.foldl_cons, ih, h]

theorem foldl_hif {α : Type} (f : State → α → State) (h : ∀ s x, (f s x).hif = s.hif) (l : List α) (s : State) :
    (l.foldl f s).hif = s.hif := by
  induction l generalizing s with
  | nil => rfl
  | cons x r ih => simp only [List.foldl_cons, ih, h]

theorem foldl_intc {α : Type} (f : State → α → State) (h : ∀ s x, (f s x).intc = s.intc) (l : List α) (s : State) :
    (l.foldl f s).intc = s.intc := by
  induction l generalizing s with
  | nil => rfl
  | cons x r ih => simp only [List.foldl_cons, ih, h]

theorem foldl_fcol {α : Type} (f : State → α → State) (h : ∀ s x, (f s x).fcol = s.fcol) (l : List α) (s : State) :
    (l.foldl f s).fcol = s.fcol := by
  induction l generalizing s with
  | nil => rfl
  | cons x r ih => simp only [List.foldl_cons, ih, h]

theorem foldl_ledger {α : Type} (f : State → α → State) (h : ∀ s x, (f s x).ledger = s.ledger) (l : List α) (s : State) :
    (l.foldl f s).ledger = s.ledger := by
  induction l generalizing s with
  | nil => rfl
  | cons x r ih => simp only [List.foldl_cons, ih, h]

theorem foldl_fresh {α : Type} (f : State → α → State) (h : ∀ s x, (f s x).fresh = s.fresh) (l : List α) (s : State) :
    (l.foldl f s).fresh = s.fresh := by
  induction l generalizing s with
  | nil => rfl
  | cons x r ih => simp only [List.foldl_cons, ih, h]

theorem foldl_pending {α : Type} (f : State → α → State) (h : ∀ s x, (f s x).pending = s.pending) (l : List α) (s : State) :
    (l.foldl f s).pending = s.pending := by
  induction l generalizing s with
  | nil => rfl
  | cons x r ih => simp only [List.foldl_cons, ih, h]

@[simp] theorem State.wr_frame (s : State) (x1 : Nat) (w : Word) :
    (s.wr x1 w).psu = s.psu ∧ (s.wr x1 w).aon = s.aon ∧ (s.wr x1 w).store = s.store ∧ (s.wr x1 w).refs = s.refs ∧ (s.wr x1 w).dpll = s.dpll ∧ (s.wr x1 w).hold = s.hold ∧ (s.wr x1 w).apll = s.apll ∧ (s.wr x1 w).tb = s.tb ∧ (s.wr x1 w).tic = s.tic ∧ (s.wr x1 w).ebnd = s.ebnd ∧ (s.wr x1 w).gnss = s.gnss ∧ (s.wr x1 w).mts = s.mts ∧ (s.wr x1 w).pkt = s.pkt ∧ (s.wr x1 w).auth = s.auth ∧ (s.wr x1 w).ctab = s.ctab ∧ (s.wr x1 w).rdn = s.rdn ∧ (s.wr x1 w).mem = s.mem ∧ (s.wr x1 w).seq = s.seq ∧ (s.wr x1 w).mgmt = s.mgmt ∧ (s.wr x1 w).hif = s.hif ∧ (s.wr x1 w).intc = s.intc ∧ (s.wr x1 w).fcol = s.fcol ∧ (s.wr x1 w).ledger = s.ledger ∧ (s.wr x1 w).fresh = s.fresh ∧ (s.wr x1 w).pending = s.pending := by
  simp [State.wr]

@[simp] theorem State.wrN_frame (s : State) (x1 : Nat) (v : Nat) (x3 : Nat) :
    (s.wrN x1 v x3).psu = s.psu ∧ (s.wrN x1 v x3).aon = s.aon ∧ (s.wrN x1 v x3).store = s.store ∧ (s.wrN x1 v x3).refs = s.refs ∧ (s.wrN x1 v x3).dpll = s.dpll ∧ (s.wrN x1 v x3).hold = s.hold ∧ (s.wrN x1 v x3).apll = s.apll ∧ (s.wrN x1 v x3).tb = s.tb ∧ (s.wrN x1 v x3).tic = s.tic ∧ (s.wrN x1 v x3).ebnd = s.ebnd ∧ (s.wrN x1 v x3).gnss = s.gnss ∧ (s.wrN x1 v x3).mts = s.mts ∧ (s.wrN x1 v x3).pkt = s.pkt ∧ (s.wrN x1 v x3).auth = s.auth ∧ (s.wrN x1 v x3).ctab = s.ctab ∧ (s.wrN x1 v x3).rdn = s.rdn ∧ (s.wrN x1 v x3).mem = s.mem ∧ (s.wrN x1 v x3).seq = s.seq ∧ (s.wrN x1 v x3).mgmt = s.mgmt ∧ (s.wrN x1 v x3).hif = s.hif ∧ (s.wrN x1 v x3).intc = s.intc ∧ (s.wrN x1 v x3).fcol = s.fcol ∧ (s.wrN x1 v x3).ledger = s.ledger ∧ (s.wrN x1 v x3).fresh = s.fresh ∧ (s.wrN x1 v x3).pending = s.pending := by
  induction x3 generalizing s x1 v with
  | zero => simp [State.wrN]
  | succ n ih => simp [State.wrN, ih]

@[simp] theorem State.set_frame (s : State) (f : Field) (v : Nat) :
    (s.set f v).psu = s.psu ∧ (s.set f v).aon = s.aon ∧ (s.set f v).store = s.store ∧ (s.set f v).refs = s.refs ∧ (s.set f v).dpll = s.dpll ∧ (s.set f v).hold = s.hold ∧ (s.set f v).apll = s.apll ∧ (s.set f v).tb = s.tb ∧ (s.set f v).tic = s.tic ∧ (s.set f v).ebnd = s.ebnd ∧ (s.set f v).gnss = s.gnss ∧ (s.set f v).mts = s.mts ∧ (s.set f v).pkt = s.pkt ∧ (s.set f v).auth = s.auth ∧ (s.set f v).ctab = s.ctab ∧ (s.set f v).rdn = s.rdn ∧ (s.set f v).mem = s.mem ∧ (s.set f v).seq = s.seq ∧ (s.set f v).mgmt = s.mgmt ∧ (s.set f v).hif = s.hif ∧ (s.set f v).intc = s.intc ∧ (s.set f v).fcol = s.fcol ∧ (s.set f v).ledger = s.ledger ∧ (s.set f v).fresh = s.fresh ∧ (s.set f v).pending = s.pending := by
  simp [State.set]

@[simp] theorem State.setSat_frame (s : State) (f : Field) (v : Nat) :
    (s.setSat f v).psu = s.psu ∧ (s.setSat f v).aon = s.aon ∧ (s.setSat f v).store = s.store ∧ (s.setSat f v).refs = s.refs ∧ (s.setSat f v).dpll = s.dpll ∧ (s.setSat f v).hold = s.hold ∧ (s.setSat f v).apll = s.apll ∧ (s.setSat f v).tb = s.tb ∧ (s.setSat f v).tic = s.tic ∧ (s.setSat f v).ebnd = s.ebnd ∧ (s.setSat f v).gnss = s.gnss ∧ (s.setSat f v).mts = s.mts ∧ (s.setSat f v).pkt = s.pkt ∧ (s.setSat f v).auth = s.auth ∧ (s.setSat f v).ctab = s.ctab ∧ (s.setSat f v).rdn = s.rdn ∧ (s.setSat f v).mem = s.mem ∧ (s.setSat f v).seq = s.seq ∧ (s.setSat f v).mgmt = s.mgmt ∧ (s.setSat f v).hif = s.hif ∧ (s.setSat f v).intc = s.intc ∧ (s.setSat f v).fcol = s.fcol ∧ (s.setSat f v).ledger = s.ledger ∧ (s.setSat f v).fresh = s.fresh ∧ (s.setSat f v).pending = s.pending := by
  simp [State.setSat]

@[simp] theorem State.inc_frame (s : State) (f : Field) :
    (s.inc f).psu = s.psu ∧ (s.inc f).aon = s.aon ∧ (s.inc f).store = s.store ∧ (s.inc f).refs = s.refs ∧ (s.inc f).dpll = s.dpll ∧ (s.inc f).hold = s.hold ∧ (s.inc f).apll = s.apll ∧ (s.inc f).tb = s.tb ∧ (s.inc f).tic = s.tic ∧ (s.inc f).ebnd = s.ebnd ∧ (s.inc f).gnss = s.gnss ∧ (s.inc f).mts = s.mts ∧ (s.inc f).pkt = s.pkt ∧ (s.inc f).auth = s.auth ∧ (s.inc f).ctab = s.ctab ∧ (s.inc f).rdn = s.rdn ∧ (s.inc f).mem = s.mem ∧ (s.inc f).seq = s.seq ∧ (s.inc f).mgmt = s.mgmt ∧ (s.inc f).hif = s.hif ∧ (s.inc f).intc = s.intc ∧ (s.inc f).fcol = s.fcol ∧ (s.inc f).ledger = s.ledger ∧ (s.inc f).fresh = s.fresh ∧ (s.inc f).pending = s.pending := by
  simp [State.inc]

@[simp] theorem State.dropMsg_frame (s : State) (b : Nat) :
    (s.dropMsg b).psu = s.psu ∧ (s.dropMsg b).aon = s.aon ∧ (s.dropMsg b).store = s.store ∧ (s.dropMsg b).refs = s.refs ∧ (s.dropMsg b).dpll = s.dpll ∧ (s.dropMsg b).hold = s.hold ∧ (s.dropMsg b).apll = s.apll ∧ (s.dropMsg b).tb = s.tb ∧ (s.dropMsg b).tic = s.tic ∧ (s.dropMsg b).ebnd = s.ebnd ∧ (s.dropMsg b).gnss = s.gnss ∧ (s.dropMsg b).mts = s.mts ∧ (s.dropMsg b).pkt = s.pkt ∧ (s.dropMsg b).auth = s.auth ∧ (s.dropMsg b).ctab = s.ctab ∧ (s.dropMsg b).rdn = s.rdn ∧ (s.dropMsg b).mem = s.mem ∧ (s.dropMsg b).seq = s.seq ∧ (s.dropMsg b).mgmt = s.mgmt ∧ (s.dropMsg b).hif = s.hif ∧ (s.dropMsg b).intc = s.intc ∧ (s.dropMsg b).ledger = s.ledger ∧ (s.dropMsg b).fresh = s.fresh ∧ (s.dropMsg b).pending = s.pending := by
  simp [State.dropMsg]

@[simp] theorem State.pushMsg_frame (s : State) (m : FMsg) :
    (s.pushMsg m).regs = s.regs ∧ (s.pushMsg m).psu = s.psu ∧ (s.pushMsg m).aon = s.aon ∧ (s.pushMsg m).store = s.store ∧ (s.pushMsg m).refs = s.refs ∧ (s.pushMsg m).dpll = s.dpll ∧ (s.pushMsg m).hold = s.hold ∧ (s.pushMsg m).apll = s.apll ∧ (s.pushMsg m).tb = s.tb ∧ (s.pushMsg m).tic = s.tic ∧ (s.pushMsg m).ebnd = s.ebnd ∧ (s.pushMsg m).gnss = s.gnss ∧ (s.pushMsg m).mts = s.mts ∧ (s.pushMsg m).pkt = s.pkt ∧ (s.pushMsg m).auth = s.auth ∧ (s.pushMsg m).ctab = s.ctab ∧ (s.pushMsg m).rdn = s.rdn ∧ (s.pushMsg m).mem = s.mem ∧ (s.pushMsg m).seq = s.seq ∧ (s.pushMsg m).mgmt = s.mgmt ∧ (s.pushMsg m).hif = s.hif ∧ (s.pushMsg m).intc = s.intc ∧ (s.pushMsg m).ledger = s.ledger ∧ (s.pushMsg m).fresh = s.fresh ∧ (s.pushMsg m).pending = s.pending := by
  simp [State.pushMsg]

@[simp] theorem State.pushMsg_rd (s : State) (m : FMsg) (q : Nat) : (s.pushMsg m).rd q = s.rd q := by simp only [State.rd, State.pushMsg_frame]

@[simp] theorem State.pushMsg_get (s : State) (m : FMsg) (q : Field) : (s.pushMsg m).get q = s.get q := get_congr (by simp) q

@[simp] theorem State.reportLoss_frame (s : State) (b : Nat) :
    (s.reportLoss b).regs = s.regs ∧ (s.reportLoss b).psu = s.psu ∧ (s.reportLoss b).aon = s.aon ∧ (s.reportLoss b).store = s.store ∧ (s.reportLoss b).refs = s.refs ∧ (s.reportLoss b).dpll = s.dpll ∧ (s.reportLoss b).hold = s.hold ∧ (s.reportLoss b).apll = s.apll ∧ (s.reportLoss b).tb = s.tb ∧ (s.reportLoss b).tic = s.tic ∧ (s.reportLoss b).ebnd = s.ebnd ∧ (s.reportLoss b).gnss = s.gnss ∧ (s.reportLoss b).mts = s.mts ∧ (s.reportLoss b).pkt = s.pkt ∧ (s.reportLoss b).auth = s.auth ∧ (s.reportLoss b).ctab = s.ctab ∧ (s.reportLoss b).rdn = s.rdn ∧ (s.reportLoss b).mem = s.mem ∧ (s.reportLoss b).seq = s.seq ∧ (s.reportLoss b).mgmt = s.mgmt ∧ (s.reportLoss b).hif = s.hif ∧ (s.reportLoss b).intc = s.intc ∧ (s.reportLoss b).ledger = s.ledger ∧ (s.reportLoss b).fresh = s.fresh ∧ (s.reportLoss b).pending = s.pending := by
  unfold State.reportLoss; (repeat' split) <;> simp

@[simp] theorem State.reportLoss_rd (s : State) (b : Nat) (q : Nat) : (s.reportLoss b).rd q = s.rd q := by simp only [State.rd, State.reportLoss_frame]

@[simp] theorem State.reportLoss_get (s : State) (b : Nat) (q : Field) : (s.reportLoss b).get q = s.get q := get_congr (by simp) q

@[simp] theorem State.reportLosses_frame (s : State) :
    (s.reportLosses).regs = s.regs ∧ (s.reportLosses).psu = s.psu ∧ (s.reportLosses).aon = s.aon ∧ (s.reportLosses).store = s.store ∧ (s.reportLosses).refs = s.refs ∧ (s.reportLosses).dpll = s.dpll ∧ (s.reportLosses).hold = s.hold ∧ (s.reportLosses).apll = s.apll ∧ (s.reportLosses).tb = s.tb ∧ (s.reportLosses).tic = s.tic ∧ (s.reportLosses).ebnd = s.ebnd ∧ (s.reportLosses).gnss = s.gnss ∧ (s.reportLosses).mts = s.mts ∧ (s.reportLosses).pkt = s.pkt ∧ (s.reportLosses).auth = s.auth ∧ (s.reportLosses).ctab = s.ctab ∧ (s.reportLosses).rdn = s.rdn ∧ (s.reportLosses).mem = s.mem ∧ (s.reportLosses).seq = s.seq ∧ (s.reportLosses).mgmt = s.mgmt ∧ (s.reportLosses).hif = s.hif ∧ (s.reportLosses).intc = s.intc ∧ (s.reportLosses).ledger = s.ledger ∧ (s.reportLosses).fresh = s.fresh ∧ (s.reportLosses).pending = s.pending := by
  simp [State.reportLosses, foldl_regs, foldl_psu, foldl_aon, foldl_store, foldl_refs, foldl_dpll, foldl_hold, foldl_apll, foldl_tb, foldl_tic, foldl_ebnd, foldl_gnss, foldl_mts, foldl_pkt, foldl_auth, foldl_ctab, foldl_rdn, foldl_mem, foldl_seq, foldl_mgmt, foldl_hif, foldl_intc, foldl_ledger, foldl_fresh, foldl_pending]

@[simp] theorem State.reportLosses_rd (s : State) (q : Nat) : (s.reportLosses).rd q = s.rd q := by simp only [State.rd, State.reportLosses_frame]

@[simp] theorem State.reportLosses_get (s : State) (q : Field) : (s.reportLosses).get q = s.get q := get_congr (by simp) q

@[simp] theorem State.sendMsg_frame (s : State) (m : FMsg) :
    (s.sendMsg m).psu = s.psu ∧ (s.sendMsg m).aon = s.aon ∧ (s.sendMsg m).refs = s.refs ∧ (s.sendMsg m).dpll = s.dpll ∧ (s.sendMsg m).hold = s.hold ∧ (s.sendMsg m).apll = s.apll ∧ (s.sendMsg m).tb = s.tb ∧ (s.sendMsg m).tic = s.tic ∧ (s.sendMsg m).ebnd = s.ebnd ∧ (s.sendMsg m).gnss = s.gnss ∧ (s.sendMsg m).mts = s.mts ∧ (s.sendMsg m).pkt = s.pkt ∧ (s.sendMsg m).auth = s.auth ∧ (s.sendMsg m).ctab = s.ctab ∧ (s.sendMsg m).rdn = s.rdn ∧ (s.sendMsg m).mem = s.mem ∧ (s.sendMsg m).seq = s.seq ∧ (s.sendMsg m).mgmt = s.mgmt ∧ (s.sendMsg m).hif = s.hif ∧ (s.sendMsg m).intc = s.intc ∧ (s.sendMsg m).ledger = s.ledger ∧ (s.sendMsg m).fresh = s.fresh ∧ (s.sendMsg m).pending = s.pending := by
  unfold State.sendMsg; (repeat' split) <;> simp

@[simp] theorem State.fault_frame (s : State) (src : Nat) (kind : Nat) (detail : optParam Nat 0) :
    (s.fault src kind detail).psu = s.psu ∧ (s.fault src kind detail).aon = s.aon ∧ (s.fault src kind detail).refs = s.refs ∧ (s.fault src kind detail).dpll = s.dpll ∧ (s.fault src kind detail).hold = s.hold ∧ (s.fault src kind detail).apll = s.apll ∧ (s.fault src kind detail).tb = s.tb ∧ (s.fault src kind detail).tic = s.tic ∧ (s.fault src kind detail).ebnd = s.ebnd ∧ (s.fault src kind detail).gnss = s.gnss ∧ (s.fault src kind detail).mts = s.mts ∧ (s.fault src kind detail).pkt = s.pkt ∧ (s.fault src kind detail).auth = s.auth ∧ (s.fault src kind detail).ctab = s.ctab ∧ (s.fault src kind detail).rdn = s.rdn ∧ (s.fault src kind detail).mem = s.mem ∧ (s.fault src kind detail).seq = s.seq ∧ (s.fault src kind detail).mgmt = s.mgmt ∧ (s.fault src kind detail).hif = s.hif ∧ (s.fault src kind detail).intc = s.intc ∧ (s.fault src kind detail).ledger = s.ledger ∧ (s.fault src kind detail).fresh = s.fresh ∧ (s.fault src kind detail).pending = s.pending := by
  simp [State.fault]

@[simp] theorem State.raise_frame (s : State) (n : Nat) :
    (s.raise n).regs = s.regs ∧ (s.raise n).psu = s.psu ∧ (s.raise n).aon = s.aon ∧ (s.raise n).store = s.store ∧ (s.raise n).refs = s.refs ∧ (s.raise n).dpll = s.dpll ∧ (s.raise n).hold = s.hold ∧ (s.raise n).apll = s.apll ∧ (s.raise n).tb = s.tb ∧ (s.raise n).tic = s.tic ∧ (s.raise n).ebnd = s.ebnd ∧ (s.raise n).gnss = s.gnss ∧ (s.raise n).mts = s.mts ∧ (s.raise n).pkt = s.pkt ∧ (s.raise n).auth = s.auth ∧ (s.raise n).ctab = s.ctab ∧ (s.raise n).rdn = s.rdn ∧ (s.raise n).mem = s.mem ∧ (s.raise n).seq = s.seq ∧ (s.raise n).mgmt = s.mgmt ∧ (s.raise n).hif = s.hif ∧ (s.raise n).fcol = s.fcol ∧ (s.raise n).ledger = s.ledger ∧ (s.raise n).fresh = s.fresh ∧ (s.raise n).pending = s.pending := by
  unfold State.raise; (repeat' split) <;> simp

@[simp] theorem State.raise_rd (s : State) (n : Nat) (q : Nat) : (s.raise n).rd q = s.rd q := by simp only [State.rd, State.raise_frame]

@[simp] theorem State.raise_get (s : State) (n : Nat) (q : Field) : (s.raise n).get q = s.get q := get_congr (by simp) q

@[simp] theorem State.bump_frame (s : State) (f : Field) :
    (s.bump f).psu = s.psu ∧ (s.bump f).aon = s.aon ∧ (s.bump f).store = s.store ∧ (s.bump f).refs = s.refs ∧ (s.bump f).dpll = s.dpll ∧ (s.bump f).hold = s.hold ∧ (s.bump f).apll = s.apll ∧ (s.bump f).tb = s.tb ∧ (s.bump f).tic = s.tic ∧ (s.bump f).ebnd = s.ebnd ∧ (s.bump f).gnss = s.gnss ∧ (s.bump f).mts = s.mts ∧ (s.bump f).pkt = s.pkt ∧ (s.bump f).auth = s.auth ∧ (s.bump f).ctab = s.ctab ∧ (s.bump f).rdn = s.rdn ∧ (s.bump f).mem = s.mem ∧ (s.bump f).seq = s.seq ∧ (s.bump f).mgmt = s.mgmt ∧ (s.bump f).hif = s.hif ∧ (s.bump f).intc = s.intc ∧ (s.bump f).fcol = s.fcol ∧ (s.bump f).ledger = s.ledger ∧ (s.bump f).fresh = s.fresh ∧ (s.bump f).pending = s.pending := by
  simp [State.bump]

@[simp] theorem State.countLong_frame (s : State) :
    (s.countLong).psu = s.psu ∧ (s.countLong).aon = s.aon ∧ (s.countLong).store = s.store ∧ (s.countLong).refs = s.refs ∧ (s.countLong).dpll = s.dpll ∧ (s.countLong).hold = s.hold ∧ (s.countLong).apll = s.apll ∧ (s.countLong).tb = s.tb ∧ (s.countLong).tic = s.tic ∧ (s.countLong).ebnd = s.ebnd ∧ (s.countLong).gnss = s.gnss ∧ (s.countLong).mts = s.mts ∧ (s.countLong).pkt = s.pkt ∧ (s.countLong).auth = s.auth ∧ (s.countLong).ctab = s.ctab ∧ (s.countLong).rdn = s.rdn ∧ (s.countLong).mem = s.mem ∧ (s.countLong).seq = s.seq ∧ (s.countLong).mgmt = s.mgmt ∧ (s.countLong).hif = s.hif ∧ (s.countLong).intc = s.intc ∧ (s.countLong).fcol = s.fcol ∧ (s.countLong).ledger = s.ledger ∧ (s.countLong).fresh = s.fresh ∧ (s.countLong).pending = s.pending := by
  simp [State.countLong]

@[simp] theorem State.modTaken_frame (s : State) (ring : Nat) (slot : Nat) (f : Taken → Taken) :
    (s.modTaken ring slot f).regs = s.regs ∧ (s.modTaken ring slot f).psu = s.psu ∧ (s.modTaken ring slot f).aon = s.aon ∧ (s.modTaken ring slot f).store = s.store ∧ (s.modTaken ring slot f).refs = s.refs ∧ (s.modTaken ring slot f).dpll = s.dpll ∧ (s.modTaken ring slot f).hold = s.hold ∧ (s.modTaken ring slot f).apll = s.apll ∧ (s.modTaken ring slot f).tb = s.tb ∧ (s.modTaken ring slot f).tic = s.tic ∧ (s.modTaken ring slot f).ebnd = s.ebnd ∧ (s.modTaken ring slot f).gnss = s.gnss ∧ (s.modTaken ring slot f).mts = s.mts ∧ (s.modTaken ring slot f).pkt = s.pkt ∧ (s.modTaken ring slot f).auth = s.auth ∧ (s.modTaken ring slot f).ctab = s.ctab ∧ (s.modTaken ring slot f).rdn = s.rdn ∧ (s.modTaken ring slot f).mem = s.mem ∧ (s.modTaken ring slot f).seq = s.seq ∧ (s.modTaken ring slot f).hif = s.hif ∧ (s.modTaken ring slot f).intc = s.intc ∧ (s.modTaken ring slot f).fcol = s.fcol ∧ (s.modTaken ring slot f).ledger = s.ledger ∧ (s.modTaken ring slot f).fresh = s.fresh ∧ (s.modTaken ring slot f).pending = s.pending := by
  simp [State.modTaken]

@[simp] theorem State.modTaken_rd (s : State) (ring : Nat) (slot : Nat) (f : Taken → Taken) (q : Nat) : (s.modTaken ring slot f).rd q = s.rd q := by simp only [State.rd, State.modTaken_frame]

@[simp] theorem State.modTaken_get (s : State) (ring : Nat) (slot : Nat) (f : Taken → Taken) (q : Field) : (s.modTaken ring slot f).get q = s.get q := get_congr (by simp) q

@[simp] theorem State.putManifest_frame (s : State) (m : Manifest) :
    (s.putManifest m).psu = s.psu ∧ (s.putManifest m).aon = s.aon ∧ (s.putManifest m).refs = s.refs ∧ (s.putManifest m).dpll = s.dpll ∧ (s.putManifest m).hold = s.hold ∧ (s.putManifest m).apll = s.apll ∧ (s.putManifest m).tb = s.tb ∧ (s.putManifest m).tic = s.tic ∧ (s.putManifest m).ebnd = s.ebnd ∧ (s.putManifest m).gnss = s.gnss ∧ (s.putManifest m).mts = s.mts ∧ (s.putManifest m).pkt = s.pkt ∧ (s.putManifest m).auth = s.auth ∧ (s.putManifest m).ctab = s.ctab ∧ (s.putManifest m).rdn = s.rdn ∧ (s.putManifest m).mem = s.mem ∧ (s.putManifest m).seq = s.seq ∧ (s.putManifest m).hif = s.hif ∧ (s.putManifest m).intc = s.intc ∧ (s.putManifest m).ledger = s.ledger ∧ (s.putManifest m).fresh = s.fresh ∧ (s.putManifest m).pending = s.pending := by
  unfold State.putManifest; (repeat' split) <;> simp

@[simp] theorem State.acceptLong_frame (s : State) (h : WbHead) (w0 : Nat) (st : ManSt) :
    (s.acceptLong h w0 st).psu = s.psu ∧ (s.acceptLong h w0 st).aon = s.aon ∧ (s.acceptLong h w0 st).refs = s.refs ∧ (s.acceptLong h w0 st).dpll = s.dpll ∧ (s.acceptLong h w0 st).hold = s.hold ∧ (s.acceptLong h w0 st).apll = s.apll ∧ (s.acceptLong h w0 st).tb = s.tb ∧ (s.acceptLong h w0 st).tic = s.tic ∧ (s.acceptLong h w0 st).ebnd = s.ebnd ∧ (s.acceptLong h w0 st).gnss = s.gnss ∧ (s.acceptLong h w0 st).mts = s.mts ∧ (s.acceptLong h w0 st).pkt = s.pkt ∧ (s.acceptLong h w0 st).auth = s.auth ∧ (s.acceptLong h w0 st).ctab = s.ctab ∧ (s.acceptLong h w0 st).rdn = s.rdn ∧ (s.acceptLong h w0 st).mem = s.mem ∧ (s.acceptLong h w0 st).seq = s.seq ∧ (s.acceptLong h w0 st).hif = s.hif ∧ (s.acceptLong h w0 st).intc = s.intc ∧ (s.acceptLong h w0 st).ledger = s.ledger ∧ (s.acceptLong h w0 st).fresh = s.fresh ∧ (s.acceptLong h w0 st).pending = s.pending := by
  unfold State.acceptLong; dsimp only; generalize ((s.entryOf h).long && decide (h.flags / 4 % 2 = 1)) = q; cases q <;> (repeat' split) <;> simp_all

@[simp] theorem State.setB_frame (s : State) (f : Field) (b : Bool) :
    (s.setB f b).psu = s.psu ∧ (s.setB f b).aon = s.aon ∧ (s.setB f b).store = s.store ∧ (s.setB f b).refs = s.refs ∧ (s.setB f b).dpll = s.dpll ∧ (s.setB f b).hold = s.hold ∧ (s.setB f b).apll = s.apll ∧ (s.setB f b).tb = s.tb ∧ (s.setB f b).tic = s.tic ∧ (s.setB f b).ebnd = s.ebnd ∧ (s.setB f b).gnss = s.gnss ∧ (s.setB f b).mts = s.mts ∧ (s.setB f b).pkt = s.pkt ∧ (s.setB f b).auth = s.auth ∧ (s.setB f b).ctab = s.ctab ∧ (s.setB f b).rdn = s.rdn ∧ (s.setB f b).mem = s.mem ∧ (s.setB f b).seq = s.seq ∧ (s.setB f b).mgmt = s.mgmt ∧ (s.setB f b).hif = s.hif ∧ (s.setB f b).intc = s.intc ∧ (s.setB f b).fcol = s.fcol ∧ (s.setB f b).ledger = s.ledger ∧ (s.setB f b).fresh = s.fresh ∧ (s.setB f b).pending = s.pending := by
  simp [State.setB]

@[simp] theorem State.setI_frame (s : State) (f : Field) (v : Int) :
    (s.setI f v).psu = s.psu ∧ (s.setI f v).aon = s.aon ∧ (s.setI f v).store = s.store ∧ (s.setI f v).refs = s.refs ∧ (s.setI f v).dpll = s.dpll ∧ (s.setI f v).hold = s.hold ∧ (s.setI f v).apll = s.apll ∧ (s.setI f v).tb = s.tb ∧ (s.setI f v).tic = s.tic ∧ (s.setI f v).ebnd = s.ebnd ∧ (s.setI f v).gnss = s.gnss ∧ (s.setI f v).mts = s.mts ∧ (s.setI f v).pkt = s.pkt ∧ (s.setI f v).auth = s.auth ∧ (s.setI f v).ctab = s.ctab ∧ (s.setI f v).rdn = s.rdn ∧ (s.setI f v).mem = s.mem ∧ (s.setI f v).seq = s.seq ∧ (s.setI f v).mgmt = s.mgmt ∧ (s.setI f v).hif = s.hif ∧ (s.setI f v).intc = s.intc ∧ (s.setI f v).fcol = s.fcol ∧ (s.setI f v).ledger = s.ledger ∧ (s.setI f v).fresh = s.fresh ∧ (s.setI f v).pending = s.pending := by
  simp [State.setI]

@[simp] theorem State.advance_frame (s : State) (h : WbHead) (st : ManSt) (progress : Nat) (results : List Word) :
    (s.advance h st progress results).psu = s.psu ∧ (s.advance h st progress results).aon = s.aon ∧ (s.advance h st progress results).refs = s.refs ∧ (s.advance h st progress results).dpll = s.dpll ∧ (s.advance h st progress results).hold = s.hold ∧ (s.advance h st progress results).apll = s.apll ∧ (s.advance h st progress results).tb = s.tb ∧ (s.advance h st progress results).tic = s.tic ∧ (s.advance h st progress results).ebnd = s.ebnd ∧ (s.advance h st progress results).gnss = s.gnss ∧ (s.advance h st progress results).mts = s.mts ∧ (s.advance h st progress results).pkt = s.pkt ∧ (s.advance h st progress results).auth = s.auth ∧ (s.advance h st progress results).ctab = s.ctab ∧ (s.advance h st progress results).rdn = s.rdn ∧ (s.advance h st progress results).mem = s.mem ∧ (s.advance h st progress results).seq = s.seq ∧ (s.advance h st progress results).hif = s.hif ∧ (s.advance h st progress results).intc = s.intc ∧ (s.advance h st progress results).ledger = s.ledger ∧ (s.advance h st progress results).fresh = s.fresh ∧ (s.advance h st progress results).pending = s.pending := by
  unfold State.advance; (repeat' split) <;> simp

@[simp] theorem State.dropTaken_frame (s : State) (ring : Nat) (slot : Nat) :
    (s.dropTaken ring slot).regs = s.regs ∧ (s.dropTaken ring slot).psu = s.psu ∧ (s.dropTaken ring slot).aon = s.aon ∧ (s.dropTaken ring slot).store = s.store ∧ (s.dropTaken ring slot).refs = s.refs ∧ (s.dropTaken ring slot).dpll = s.dpll ∧ (s.dropTaken ring slot).hold = s.hold ∧ (s.dropTaken ring slot).apll = s.apll ∧ (s.dropTaken ring slot).tb = s.tb ∧ (s.dropTaken ring slot).tic = s.tic ∧ (s.dropTaken ring slot).ebnd = s.ebnd ∧ (s.dropTaken ring slot).gnss = s.gnss ∧ (s.dropTaken ring slot).mts = s.mts ∧ (s.dropTaken ring slot).pkt = s.pkt ∧ (s.dropTaken ring slot).auth = s.auth ∧ (s.dropTaken ring slot).ctab = s.ctab ∧ (s.dropTaken ring slot).rdn = s.rdn ∧ (s.dropTaken ring slot).mem = s.mem ∧ (s.dropTaken ring slot).seq = s.seq ∧ (s.dropTaken ring slot).hif = s.hif ∧ (s.dropTaken ring slot).intc = s.intc ∧ (s.dropTaken ring slot).fcol = s.fcol ∧ (s.dropTaken ring slot).ledger = s.ledger ∧ (s.dropTaken ring slot).fresh = s.fresh ∧ (s.dropTaken ring slot).pending = s.pending := by
  simp [State.dropTaken]

@[simp] theorem State.dropTaken_rd (s : State) (ring : Nat) (slot : Nat) (q : Nat) : (s.dropTaken ring slot).rd q = s.rd q := by simp only [State.rd, State.dropTaken_frame]

@[simp] theorem State.dropTaken_get (s : State) (ring : Nat) (slot : Nat) (q : Field) : (s.dropTaken ring slot).get q = s.get q := get_congr (by simp) q

@[simp] theorem State.dropWaiter_frame (s : State) (h : WbHead) :
    (s.dropWaiter h).regs = s.regs ∧ (s.dropWaiter h).psu = s.psu ∧ (s.dropWaiter h).aon = s.aon ∧ (s.dropWaiter h).store = s.store ∧ (s.dropWaiter h).refs = s.refs ∧ (s.dropWaiter h).dpll = s.dpll ∧ (s.dropWaiter h).hold = s.hold ∧ (s.dropWaiter h).apll = s.apll ∧ (s.dropWaiter h).tb = s.tb ∧ (s.dropWaiter h).tic = s.tic ∧ (s.dropWaiter h).ebnd = s.ebnd ∧ (s.dropWaiter h).gnss = s.gnss ∧ (s.dropWaiter h).mts = s.mts ∧ (s.dropWaiter h).pkt = s.pkt ∧ (s.dropWaiter h).auth = s.auth ∧ (s.dropWaiter h).ctab = s.ctab ∧ (s.dropWaiter h).rdn = s.rdn ∧ (s.dropWaiter h).mem = s.mem ∧ (s.dropWaiter h).seq = s.seq ∧ (s.dropWaiter h).hif = s.hif ∧ (s.dropWaiter h).intc = s.intc ∧ (s.dropWaiter h).fcol = s.fcol ∧ (s.dropWaiter h).ledger = s.ledger ∧ (s.dropWaiter h).fresh = s.fresh ∧ (s.dropWaiter h).pending = s.pending := by
  simp [State.dropWaiter]

@[simp] theorem State.dropWaiter_rd (s : State) (h : WbHead) (q : Nat) : (s.dropWaiter h).rd q = s.rd q := by simp only [State.rd, State.dropWaiter_frame]

@[simp] theorem State.dropWaiter_get (s : State) (h : WbHead) (q : Field) : (s.dropWaiter h).get q = s.get q := get_congr (by simp) q

@[simp] theorem State.raiseIf_frame (s : State) (b : Bool) (n : Nat) :
    (s.raiseIf b n).regs = s.regs ∧ (s.raiseIf b n).psu = s.psu ∧ (s.raiseIf b n).aon = s.aon ∧ (s.raiseIf b n).store = s.store ∧ (s.raiseIf b n).refs = s.refs ∧ (s.raiseIf b n).dpll = s.dpll ∧ (s.raiseIf b n).hold = s.hold ∧ (s.raiseIf b n).apll = s.apll ∧ (s.raiseIf b n).tb = s.tb ∧ (s.raiseIf b n).tic = s.tic ∧ (s.raiseIf b n).ebnd = s.ebnd ∧ (s.raiseIf b n).gnss = s.gnss ∧ (s.raiseIf b n).mts = s.mts ∧ (s.raiseIf b n).pkt = s.pkt ∧ (s.raiseIf b n).auth = s.auth ∧ (s.raiseIf b n).ctab = s.ctab ∧ (s.raiseIf b n).rdn = s.rdn ∧ (s.raiseIf b n).mem = s.mem ∧ (s.raiseIf b n).seq = s.seq ∧ (s.raiseIf b n).mgmt = s.mgmt ∧ (s.raiseIf b n).hif = s.hif ∧ (s.raiseIf b n).fcol = s.fcol ∧ (s.raiseIf b n).ledger = s.ledger ∧ (s.raiseIf b n).fresh = s.fresh ∧ (s.raiseIf b n).pending = s.pending := by
  unfold State.raiseIf; (repeat' split) <;> simp

@[simp] theorem State.raiseIf_rd (s : State) (b : Bool) (n : Nat) (q : Nat) : (s.raiseIf b n).rd q = s.rd q := by simp only [State.rd, State.raiseIf_frame]

@[simp] theorem State.raiseIf_get (s : State) (b : Bool) (n : Nat) (q : Field) : (s.raiseIf b n).get q = s.get q := get_congr (by simp) q

@[simp] theorem State.finishOne_frame (s : State) (h : WbHead) (st : ManSt) (status : Status) (progress : Nat) (results : List Word) (spec : optParam Bool false) :
    (s.finishOne h st status progress results spec).psu = s.psu ∧ (s.finishOne h st status progress results spec).aon = s.aon ∧ (s.finishOne h st status progress results spec).refs = s.refs ∧ (s.finishOne h st status progress results spec).dpll = s.dpll ∧ (s.finishOne h st status progress results spec).hold = s.hold ∧ (s.finishOne h st status progress results spec).apll = s.apll ∧ (s.finishOne h st status progress results spec).tb = s.tb ∧ (s.finishOne h st status progress results spec).tic = s.tic ∧ (s.finishOne h st status progress results spec).ebnd = s.ebnd ∧ (s.finishOne h st status progress results spec).gnss = s.gnss ∧ (s.finishOne h st status progress results spec).mts = s.mts ∧ (s.finishOne h st status progress results spec).pkt = s.pkt ∧ (s.finishOne h st status progress results spec).auth = s.auth ∧ (s.finishOne h st status progress results spec).ctab = s.ctab ∧ (s.finishOne h st status progress results spec).rdn = s.rdn ∧ (s.finishOne h st status progress results spec).mem = s.mem ∧ (s.finishOne h st status progress results spec).seq = s.seq ∧ (s.finishOne h st status progress results spec).hif = s.hif ∧ (s.finishOne h st status progress results spec).ledger = s.ledger ∧ (s.finishOne h st status progress results spec).fresh = s.fresh ∧ (s.finishOne h st status progress results spec).pending = s.pending := by
  simp [State.finishOne]

@[simp] theorem State.finish_frame (s : State) (h : WbHead) (st : ManSt) (status : Status) (progress : Nat) (results : List Word) (spec : optParam Bool false) :
    (s.finish h st status progress results spec).psu = s.psu ∧ (s.finish h st status progress results spec).aon = s.aon ∧ (s.finish h st status progress results spec).refs = s.refs ∧ (s.finish h st status progress results spec).dpll = s.dpll ∧ (s.finish h st status progress results spec).hold = s.hold ∧ (s.finish h st status progress results spec).apll = s.apll ∧ (s.finish h st status progress results spec).tb = s.tb ∧ (s.finish h st status progress results spec).tic = s.tic ∧ (s.finish h st status progress results spec).ebnd = s.ebnd ∧ (s.finish h st status progress results spec).gnss = s.gnss ∧ (s.finish h st status progress results spec).mts = s.mts ∧ (s.finish h st status progress results spec).pkt = s.pkt ∧ (s.finish h st status progress results spec).auth = s.auth ∧ (s.finish h st status progress results spec).ctab = s.ctab ∧ (s.finish h st status progress results spec).rdn = s.rdn ∧ (s.finish h st status progress results spec).mem = s.mem ∧ (s.finish h st status progress results spec).seq = s.seq ∧ (s.finish h st status progress results spec).hif = s.hif ∧ (s.finish h st status progress results spec).ledger = s.ledger ∧ (s.finish h st status progress results spec).fresh = s.fresh ∧ (s.finish h st status progress results spec).pending = s.pending := by
  simp [State.finish, foldl_psu, foldl_aon, foldl_refs, foldl_dpll, foldl_hold, foldl_apll, foldl_tb, foldl_tic, foldl_ebnd, foldl_gnss, foldl_mts, foldl_pkt, foldl_auth, foldl_ctab, foldl_rdn, foldl_mem, foldl_seq, foldl_hif, foldl_ledger, foldl_fresh, foldl_pending]

@[simp] theorem State.setBit_frame (s : State) (f : Field) (i : Nat) (b : Bool) :
    (s.setBit f i b).psu = s.psu ∧ (s.setBit f i b).aon = s.aon ∧ (s.setBit f i b).store = s.store ∧ (s.setBit f i b).refs = s.refs ∧ (s.setBit f i b).dpll = s.dpll ∧ (s.setBit f i b).hold = s.hold ∧ (s.setBit f i b).apll = s.apll ∧ (s.setBit f i b).tb = s.tb ∧ (s.setBit f i b).tic = s.tic ∧ (s.setBit f i b).ebnd = s.ebnd ∧ (s.setBit f i b).gnss = s.gnss ∧ (s.setBit f i b).mts = s.mts ∧ (s.setBit f i b).pkt = s.pkt ∧ (s.setBit f i b).auth = s.auth ∧ (s.setBit f i b).ctab = s.ctab ∧ (s.setBit f i b).rdn = s.rdn ∧ (s.setBit f i b).mem = s.mem ∧ (s.setBit f i b).seq = s.seq ∧ (s.setBit f i b).mgmt = s.mgmt ∧ (s.setBit f i b).hif = s.hif ∧ (s.setBit f i b).intc = s.intc ∧ (s.setBit f i b).fcol = s.fcol ∧ (s.setBit f i b).ledger = s.ledger ∧ (s.setBit f i b).fresh = s.fresh ∧ (s.setBit f i b).pending = s.pending := by
  simp [State.setBit]

@[simp] theorem State.incRaise_frame (s : State) (f : Field) (n : Nat) :
    (s.incRaise f n).psu = s.psu ∧ (s.incRaise f n).aon = s.aon ∧ (s.incRaise f n).store = s.store ∧ (s.incRaise f n).refs = s.refs ∧ (s.incRaise f n).dpll = s.dpll ∧ (s.incRaise f n).hold = s.hold ∧ (s.incRaise f n).apll = s.apll ∧ (s.incRaise f n).tb = s.tb ∧ (s.incRaise f n).tic = s.tic ∧ (s.incRaise f n).ebnd = s.ebnd ∧ (s.incRaise f n).gnss = s.gnss ∧ (s.incRaise f n).mts = s.mts ∧ (s.incRaise f n).pkt = s.pkt ∧ (s.incRaise f n).auth = s.auth ∧ (s.incRaise f n).ctab = s.ctab ∧ (s.incRaise f n).rdn = s.rdn ∧ (s.incRaise f n).mem = s.mem ∧ (s.incRaise f n).seq = s.seq ∧ (s.incRaise f n).mgmt = s.mgmt ∧ (s.incRaise f n).hif = s.hif ∧ (s.incRaise f n).fcol = s.fcol ∧ (s.incRaise f n).ledger = s.ledger ∧ (s.incRaise f n).fresh = s.fresh ∧ (s.incRaise f n).pending = s.pending := by
  simp [State.incRaise]

@[simp] theorem State.putReg_frame (s : State) (x1 : Nat) (v : Nat) :
    (s.putReg x1 v).psu = s.psu ∧ (s.putReg x1 v).aon = s.aon ∧ (s.putReg x1 v).store = s.store ∧ (s.putReg x1 v).refs = s.refs ∧ (s.putReg x1 v).dpll = s.dpll ∧ (s.putReg x1 v).hold = s.hold ∧ (s.putReg x1 v).apll = s.apll ∧ (s.putReg x1 v).tb = s.tb ∧ (s.putReg x1 v).tic = s.tic ∧ (s.putReg x1 v).ebnd = s.ebnd ∧ (s.putReg x1 v).gnss = s.gnss ∧ (s.putReg x1 v).mts = s.mts ∧ (s.putReg x1 v).pkt = s.pkt ∧ (s.putReg x1 v).auth = s.auth ∧ (s.putReg x1 v).ctab = s.ctab ∧ (s.putReg x1 v).rdn = s.rdn ∧ (s.putReg x1 v).mem = s.mem ∧ (s.putReg x1 v).seq = s.seq ∧ (s.putReg x1 v).mgmt = s.mgmt ∧ (s.putReg x1 v).hif = s.hif ∧ (s.putReg x1 v).intc = s.intc ∧ (s.putReg x1 v).fcol = s.fcol ∧ (s.putReg x1 v).ledger = s.ledger ∧ (s.putReg x1 v).fresh = s.fresh ∧ (s.putReg x1 v).pending = s.pending := by
  unfold State.putReg; (repeat' split) <;> simp

@[simp] theorem State.settle_frame (s : State) :
    (s.settle).regs = s.regs ∧ (s.settle).psu = s.psu ∧ (s.settle).aon = s.aon ∧ (s.settle).store = s.store ∧ (s.settle).refs = s.refs ∧ (s.settle).dpll = s.dpll ∧ (s.settle).hold = s.hold ∧ (s.settle).apll = s.apll ∧ (s.settle).tb = s.tb ∧ (s.settle).tic = s.tic ∧ (s.settle).ebnd = s.ebnd ∧ (s.settle).gnss = s.gnss ∧ (s.settle).mts = s.mts ∧ (s.settle).pkt = s.pkt ∧ (s.settle).auth = s.auth ∧ (s.settle).ctab = s.ctab ∧ (s.settle).rdn = s.rdn ∧ (s.settle).mem = s.mem ∧ (s.settle).seq = s.seq ∧ (s.settle).mgmt = s.mgmt ∧ (s.settle).hif = s.hif ∧ (s.settle).fcol = s.fcol ∧ (s.settle).ledger = s.ledger ∧ (s.settle).fresh = s.fresh ∧ (s.settle).pending = s.pending := by
  unfold State.settle; (repeat' split) <;> simp

@[simp] theorem State.settle_rd (s : State) (q : Nat) : (s.settle).rd q = s.rd q := by simp only [State.rd, State.settle_frame]

@[simp] theorem State.settle_get (s : State) (q : Field) : (s.settle).get q = s.get q := get_congr (by simp) q

@[simp] theorem State.lookedAt_frame (s : State) (req : Nat) (blk : Nat) :
    (s.lookedAt req blk).regs = s.regs ∧ (s.lookedAt req blk).psu = s.psu ∧ (s.lookedAt req blk).aon = s.aon ∧ (s.lookedAt req blk).store = s.store ∧ (s.lookedAt req blk).refs = s.refs ∧ (s.lookedAt req blk).dpll = s.dpll ∧ (s.lookedAt req blk).hold = s.hold ∧ (s.lookedAt req blk).apll = s.apll ∧ (s.lookedAt req blk).tb = s.tb ∧ (s.lookedAt req blk).tic = s.tic ∧ (s.lookedAt req blk).ebnd = s.ebnd ∧ (s.lookedAt req blk).gnss = s.gnss ∧ (s.lookedAt req blk).mts = s.mts ∧ (s.lookedAt req blk).pkt = s.pkt ∧ (s.lookedAt req blk).auth = s.auth ∧ (s.lookedAt req blk).ctab = s.ctab ∧ (s.lookedAt req blk).rdn = s.rdn ∧ (s.lookedAt req blk).mem = s.mem ∧ (s.lookedAt req blk).seq = s.seq ∧ (s.lookedAt req blk).mgmt = s.mgmt ∧ (s.lookedAt req blk).hif = s.hif ∧ (s.lookedAt req blk).fcol = s.fcol ∧ (s.lookedAt req blk).ledger = s.ledger ∧ (s.lookedAt req blk).fresh = s.fresh ∧ (s.lookedAt req blk).pending = s.pending := by
  unfold State.lookedAt; (repeat' split) <;> simp

@[simp] theorem State.lookedAt_rd (s : State) (req : Nat) (blk : Nat) (q : Nat) : (s.lookedAt req blk).rd q = s.rd q := by simp only [State.rd, State.lookedAt_frame]

@[simp] theorem State.lookedAt_get (s : State) (req : Nat) (blk : Nat) (q : Field) : (s.lookedAt req blk).get q = s.get q := get_congr (by simp) q

@[simp] theorem State.failed_frame (s : State) (h : WbHead) (status : Status) :
    (s.failed h status).psu = s.psu ∧ (s.failed h status).aon = s.aon ∧ (s.failed h status).refs = s.refs ∧ (s.failed h status).dpll = s.dpll ∧ (s.failed h status).hold = s.hold ∧ (s.failed h status).apll = s.apll ∧ (s.failed h status).tb = s.tb ∧ (s.failed h status).tic = s.tic ∧ (s.failed h status).ebnd = s.ebnd ∧ (s.failed h status).gnss = s.gnss ∧ (s.failed h status).mts = s.mts ∧ (s.failed h status).pkt = s.pkt ∧ (s.failed h status).auth = s.auth ∧ (s.failed h status).ctab = s.ctab ∧ (s.failed h status).rdn = s.rdn ∧ (s.failed h status).mem = s.mem ∧ (s.failed h status).seq = s.seq ∧ (s.failed h status).hif = s.hif ∧ (s.failed h status).ledger = s.ledger ∧ (s.failed h status).fresh = s.fresh ∧ (s.failed h status).pending = s.pending := by
  simp [State.failed]

@[simp] theorem State.ledgerCount_frame (s : State) (i : Nat) :
    (s.ledgerCount i).regs = s.regs ∧ (s.ledgerCount i).psu = s.psu ∧ (s.ledgerCount i).aon = s.aon ∧ (s.ledgerCount i).store = s.store ∧ (s.ledgerCount i).refs = s.refs ∧ (s.ledgerCount i).dpll = s.dpll ∧ (s.ledgerCount i).hold = s.hold ∧ (s.ledgerCount i).apll = s.apll ∧ (s.ledgerCount i).tb = s.tb ∧ (s.ledgerCount i).tic = s.tic ∧ (s.ledgerCount i).ebnd = s.ebnd ∧ (s.ledgerCount i).gnss = s.gnss ∧ (s.ledgerCount i).mts = s.mts ∧ (s.ledgerCount i).pkt = s.pkt ∧ (s.ledgerCount i).auth = s.auth ∧ (s.ledgerCount i).ctab = s.ctab ∧ (s.ledgerCount i).rdn = s.rdn ∧ (s.ledgerCount i).mem = s.mem ∧ (s.ledgerCount i).seq = s.seq ∧ (s.ledgerCount i).mgmt = s.mgmt ∧ (s.ledgerCount i).hif = s.hif ∧ (s.ledgerCount i).intc = s.intc ∧ (s.ledgerCount i).fcol = s.fcol ∧ (s.ledgerCount i).fresh = s.fresh ∧ (s.ledgerCount i).pending = s.pending := by
  simp [State.ledgerCount]

@[simp] theorem State.ledgerCount_rd (s : State) (i : Nat) (q : Nat) : (s.ledgerCount i).rd q = s.rd q := by simp only [State.rd, State.ledgerCount_frame]

@[simp] theorem State.ledgerCount_get (s : State) (i : Nat) (q : Field) : (s.ledgerCount i).get q = s.get q := get_congr (by simp) q

@[simp] theorem State.episode_frame (s : State) (d : Nat) :
    (s.episode d).regs = s.regs ∧ (s.episode d).psu = s.psu ∧ (s.episode d).aon = s.aon ∧ (s.episode d).store = s.store ∧ (s.episode d).refs = s.refs ∧ (s.episode d).dpll = s.dpll ∧ (s.episode d).hold = s.hold ∧ (s.episode d).apll = s.apll ∧ (s.episode d).tb = s.tb ∧ (s.episode d).tic = s.tic ∧ (s.episode d).ebnd = s.ebnd ∧ (s.episode d).gnss = s.gnss ∧ (s.episode d).mts = s.mts ∧ (s.episode d).pkt = s.pkt ∧ (s.episode d).auth = s.auth ∧ (s.episode d).ctab = s.ctab ∧ (s.episode d).rdn = s.rdn ∧ (s.episode d).mem = s.mem ∧ (s.episode d).seq = s.seq ∧ (s.episode d).mgmt = s.mgmt ∧ (s.episode d).hif = s.hif ∧ (s.episode d).intc = s.intc ∧ (s.episode d).fcol = s.fcol ∧ (s.episode d).fresh = s.fresh ∧ (s.episode d).pending = s.pending := by
  simp [State.episode]

@[simp] theorem State.episode_rd (s : State) (d : Nat) (q : Nat) : (s.episode d).rd q = s.rd q := by simp only [State.rd, State.episode_frame]

@[simp] theorem State.episode_get (s : State) (d : Nat) (q : Field) : (s.episode d).get q = s.get q := get_congr (by simp) q

@[simp] theorem State.domainsUp_frame (s : State) :
    (s.domainsUp).regs = s.regs ∧ (s.domainsUp).psu = s.psu ∧ (s.domainsUp).aon = s.aon ∧ (s.domainsUp).store = s.store ∧ (s.domainsUp).refs = s.refs ∧ (s.domainsUp).dpll = s.dpll ∧ (s.domainsUp).hold = s.hold ∧ (s.domainsUp).apll = s.apll ∧ (s.domainsUp).tb = s.tb ∧ (s.domainsUp).tic = s.tic ∧ (s.domainsUp).ebnd = s.ebnd ∧ (s.domainsUp).gnss = s.gnss ∧ (s.domainsUp).mts = s.mts ∧ (s.domainsUp).pkt = s.pkt ∧ (s.domainsUp).auth = s.auth ∧ (s.domainsUp).ctab = s.ctab ∧ (s.domainsUp).rdn = s.rdn ∧ (s.domainsUp).mem = s.mem ∧ (s.domainsUp).seq = s.seq ∧ (s.domainsUp).mgmt = s.mgmt ∧ (s.domainsUp).hif = s.hif ∧ (s.domainsUp).intc = s.intc ∧ (s.domainsUp).fresh = s.fresh ∧ (s.domainsUp).pending = s.pending := by
  simp [State.domainsUp, foldl_regs, apply_ite State.regs, foldl_psu, apply_ite State.psu, foldl_aon, apply_ite State.aon, foldl_store, apply_ite State.store, foldl_refs, apply_ite State.refs, foldl_dpll, apply_ite State.dpll, foldl_hold, apply_ite State.hold, foldl_apll, apply_ite State.apll, foldl_tb, apply_ite State.tb, foldl_tic, apply_ite State.tic, foldl_ebnd, apply_ite State.ebnd, foldl_gnss, apply_ite State.gnss, foldl_mts, apply_ite State.mts, foldl_pkt, apply_ite State.pkt, foldl_auth, apply_ite State.auth, foldl_ctab, apply_ite State.ctab, foldl_rdn, apply_ite State.rdn, foldl_mem, apply_ite State.mem, foldl_seq, apply_ite State.seq, foldl_mgmt, apply_ite State.mgmt, foldl_hif, apply_ite State.hif, foldl_intc, apply_ite State.intc, foldl_fresh, apply_ite State.fresh, foldl_pending, apply_ite State.pending]

@[simp] theorem State.domainsUp_rd (s : State) (q : Nat) : (s.domainsUp).rd q = s.rd q := by simp only [State.rd, State.domainsUp_frame]

@[simp] theorem State.domainsUp_get (s : State) (q : Field) : (s.domainsUp).get q = s.get q := get_congr (by simp) q

@[simp] theorem State.done_frame (s : State) (h : WbHead) (results : optParam (List Word) []) :
    (s.done h results).psu = s.psu ∧ (s.done h results).aon = s.aon ∧ (s.done h results).refs = s.refs ∧ (s.done h results).dpll = s.dpll ∧ (s.done h results).hold = s.hold ∧ (s.done h results).apll = s.apll ∧ (s.done h results).tb = s.tb ∧ (s.done h results).tic = s.tic ∧ (s.done h results).ebnd = s.ebnd ∧ (s.done h results).gnss = s.gnss ∧ (s.done h results).mts = s.mts ∧ (s.done h results).pkt = s.pkt ∧ (s.done h results).auth = s.auth ∧ (s.done h results).ctab = s.ctab ∧ (s.done h results).rdn = s.rdn ∧ (s.done h results).mem = s.mem ∧ (s.done h results).seq = s.seq ∧ (s.done h results).hif = s.hif ∧ (s.done h results).ledger = s.ledger ∧ (s.done h results).fresh = s.fresh ∧ (s.done h results).pending = s.pending := by
  simp [State.done]

@[simp] theorem State.faultM_frame (s : State) (src : Nat) (kind : Nat) (detail : Nat) (master : Nat) (acc : Nat) (addr : Option Nat) :
    (s.faultM src kind detail master acc addr).psu = s.psu ∧ (s.faultM src kind detail master acc addr).aon = s.aon ∧ (s.faultM src kind detail master acc addr).refs = s.refs ∧ (s.faultM src kind detail master acc addr).dpll = s.dpll ∧ (s.faultM src kind detail master acc addr).hold = s.hold ∧ (s.faultM src kind detail master acc addr).apll = s.apll ∧ (s.faultM src kind detail master acc addr).tb = s.tb ∧ (s.faultM src kind detail master acc addr).tic = s.tic ∧ (s.faultM src kind detail master acc addr).ebnd = s.ebnd ∧ (s.faultM src kind detail master acc addr).gnss = s.gnss ∧ (s.faultM src kind detail master acc addr).mts = s.mts ∧ (s.faultM src kind detail master acc addr).pkt = s.pkt ∧ (s.faultM src kind detail master acc addr).auth = s.auth ∧ (s.faultM src kind detail master acc addr).ctab = s.ctab ∧ (s.faultM src kind detail master acc addr).rdn = s.rdn ∧ (s.faultM src kind detail master acc addr).mem = s.mem ∧ (s.faultM src kind detail master acc addr).seq = s.seq ∧ (s.faultM src kind detail master acc addr).mgmt = s.mgmt ∧ (s.faultM src kind detail master acc addr).hif = s.hif ∧ (s.faultM src kind detail master acc addr).intc = s.intc ∧ (s.faultM src kind detail master acc addr).ledger = s.ledger ∧ (s.faultM src kind detail master acc addr).fresh = s.fresh ∧ (s.faultM src kind detail master acc addr).pending = s.pending := by
  simp [State.faultM]

@[simp] theorem State.putRegs_frame (s : State) (l : List (Nat × Nat)) :
    (s.putRegs l).psu = s.psu ∧ (s.putRegs l).aon = s.aon ∧ (s.putRegs l).store = s.store ∧ (s.putRegs l).refs = s.refs ∧ (s.putRegs l).dpll = s.dpll ∧ (s.putRegs l).hold = s.hold ∧ (s.putRegs l).apll = s.apll ∧ (s.putRegs l).tb = s.tb ∧ (s.putRegs l).tic = s.tic ∧ (s.putRegs l).ebnd = s.ebnd ∧ (s.putRegs l).gnss = s.gnss ∧ (s.putRegs l).mts = s.mts ∧ (s.putRegs l).pkt = s.pkt ∧ (s.putRegs l).auth = s.auth ∧ (s.putRegs l).ctab = s.ctab ∧ (s.putRegs l).rdn = s.rdn ∧ (s.putRegs l).mem = s.mem ∧ (s.putRegs l).seq = s.seq ∧ (s.putRegs l).mgmt = s.mgmt ∧ (s.putRegs l).hif = s.hif ∧ (s.putRegs l).intc = s.intc ∧ (s.putRegs l).fcol = s.fcol ∧ (s.putRegs l).ledger = s.ledger ∧ (s.putRegs l).fresh = s.fresh ∧ (s.putRegs l).pending = s.pending := by
  simp [State.putRegs, foldl_psu, foldl_aon, foldl_store, foldl_refs, foldl_dpll, foldl_hold, foldl_apll, foldl_tb, foldl_tic, foldl_ebnd, foldl_gnss, foldl_mts, foldl_pkt, foldl_auth, foldl_ctab, foldl_rdn, foldl_mem, foldl_seq, foldl_mgmt, foldl_hif, foldl_intc, foldl_fcol, foldl_ledger, foldl_fresh, foldl_pending]

@[simp] theorem State.openReg_frame (s : State) (base : Nat) (r : RegRow) :
    (s.openReg base r).psu = s.psu ∧ (s.openReg base r).aon = s.aon ∧ (s.openReg base r).store = s.store ∧ (s.openReg base r).refs = s.refs ∧ (s.openReg base r).dpll = s.dpll ∧ (s.openReg base r).hold = s.hold ∧ (s.openReg base r).apll = s.apll ∧ (s.openReg base r).tb = s.tb ∧ (s.openReg base r).tic = s.tic ∧ (s.openReg base r).ebnd = s.ebnd ∧ (s.openReg base r).gnss = s.gnss ∧ (s.openReg base r).mts = s.mts ∧ (s.openReg base r).pkt = s.pkt ∧ (s.openReg base r).auth = s.auth ∧ (s.openReg base r).ctab = s.ctab ∧ (s.openReg base r).rdn = s.rdn ∧ (s.openReg base r).mem = s.mem ∧ (s.openReg base r).seq = s.seq ∧ (s.openReg base r).mgmt = s.mgmt ∧ (s.openReg base r).hif = s.hif ∧ (s.openReg base r).intc = s.intc ∧ (s.openReg base r).fcol = s.fcol ∧ (s.openReg base r).ledger = s.ledger ∧ (s.openReg base r).pending = s.pending := by
  simp [State.openReg, State.freeNat]

@[simp] theorem State.blockErr_frame (s : State) (blk : Nat) :
    (s.blockErr blk).psu = s.psu ∧ (s.blockErr blk).aon = s.aon ∧ (s.blockErr blk).store = s.store ∧ (s.blockErr blk).refs = s.refs ∧ (s.blockErr blk).dpll = s.dpll ∧ (s.blockErr blk).hold = s.hold ∧ (s.blockErr blk).apll = s.apll ∧ (s.blockErr blk).tb = s.tb ∧ (s.blockErr blk).tic = s.tic ∧ (s.blockErr blk).ebnd = s.ebnd ∧ (s.blockErr blk).gnss = s.gnss ∧ (s.blockErr blk).mts = s.mts ∧ (s.blockErr blk).pkt = s.pkt ∧ (s.blockErr blk).auth = s.auth ∧ (s.blockErr blk).ctab = s.ctab ∧ (s.blockErr blk).rdn = s.rdn ∧ (s.blockErr blk).mem = s.mem ∧ (s.blockErr blk).seq = s.seq ∧ (s.blockErr blk).mgmt = s.mgmt ∧ (s.blockErr blk).hif = s.hif ∧ (s.blockErr blk).intc = s.intc ∧ (s.blockErr blk).fcol = s.fcol ∧ (s.blockErr blk).ledger = s.ledger ∧ (s.blockErr blk).pending = s.pending := by
  simp [State.blockErr, foldl_psu, foldl_aon, foldl_store, foldl_refs, foldl_dpll, foldl_hold, foldl_apll, foldl_tb, foldl_tic, foldl_ebnd, foldl_gnss, foldl_mts, foldl_pkt, foldl_auth, foldl_ctab, foldl_rdn, foldl_mem, foldl_seq, foldl_mgmt, foldl_hif, foldl_intc, foldl_fcol, foldl_ledger, foldl_pending]

@[simp] theorem State.waybillErr_frame (s : State) (blk : Nat) (h : WbHead) :
    (s.waybillErr blk h).psu = s.psu ∧ (s.waybillErr blk h).aon = s.aon ∧ (s.waybillErr blk h).refs = s.refs ∧ (s.waybillErr blk h).dpll = s.dpll ∧ (s.waybillErr blk h).hold = s.hold ∧ (s.waybillErr blk h).apll = s.apll ∧ (s.waybillErr blk h).tb = s.tb ∧ (s.waybillErr blk h).tic = s.tic ∧ (s.waybillErr blk h).ebnd = s.ebnd ∧ (s.waybillErr blk h).gnss = s.gnss ∧ (s.waybillErr blk h).mts = s.mts ∧ (s.waybillErr blk h).pkt = s.pkt ∧ (s.waybillErr blk h).auth = s.auth ∧ (s.waybillErr blk h).ctab = s.ctab ∧ (s.waybillErr blk h).rdn = s.rdn ∧ (s.waybillErr blk h).mem = s.mem ∧ (s.waybillErr blk h).seq = s.seq ∧ (s.waybillErr blk h).hif = s.hif ∧ (s.waybillErr blk h).ledger = s.ledger ∧ (s.waybillErr blk h).pending = s.pending := by
  simp [State.waybillErr, State.freeNat]

/-! ### The updates of one part of the state -/

@[simp] theorem State.setPsu_frame (s : State) (p : Psu) :
    (s.setPsu p).psu = p ∧ (s.setPsu p).regs = s.regs ∧ (s.setPsu p).aon = s.aon ∧ (s.setPsu p).store = s.store ∧ (s.setPsu p).refs = s.refs ∧ (s.setPsu p).dpll = s.dpll ∧ (s.setPsu p).hold = s.hold ∧ (s.setPsu p).apll = s.apll ∧ (s.setPsu p).tb = s.tb ∧ (s.setPsu p).tic = s.tic ∧ (s.setPsu p).ebnd = s.ebnd ∧ (s.setPsu p).gnss = s.gnss ∧ (s.setPsu p).mts = s.mts ∧ (s.setPsu p).pkt = s.pkt ∧ (s.setPsu p).auth = s.auth ∧ (s.setPsu p).ctab = s.ctab ∧ (s.setPsu p).rdn = s.rdn ∧ (s.setPsu p).mem = s.mem ∧ (s.setPsu p).seq = s.seq ∧ (s.setPsu p).mgmt = s.mgmt ∧ (s.setPsu p).hif = s.hif ∧ (s.setPsu p).intc = s.intc ∧ (s.setPsu p).fcol = s.fcol ∧ (s.setPsu p).ledger = s.ledger ∧ (s.setPsu p).fresh = s.fresh ∧ (s.setPsu p).pending = s.pending := by
  simp [State.setPsu]

@[simp] theorem State.setPsu_get (s : State) (p : Psu) (q : Field) : (s.setPsu p).get q = s.get q := get_congr (by simp) q

@[simp] theorem State.setAon_frame (s : State) (a : Aon) :
    (s.setAon a).aon = a ∧ (s.setAon a).regs = s.regs ∧ (s.setAon a).psu = s.psu ∧ (s.setAon a).store = s.store ∧ (s.setAon a).refs = s.refs ∧ (s.setAon a).dpll = s.dpll ∧ (s.setAon a).hold = s.hold ∧ (s.setAon a).apll = s.apll ∧ (s.setAon a).tb = s.tb ∧ (s.setAon a).tic = s.tic ∧ (s.setAon a).ebnd = s.ebnd ∧ (s.setAon a).gnss = s.gnss ∧ (s.setAon a).mts = s.mts ∧ (s.setAon a).pkt = s.pkt ∧ (s.setAon a).auth = s.auth ∧ (s.setAon a).ctab = s.ctab ∧ (s.setAon a).rdn = s.rdn ∧ (s.setAon a).mem = s.mem ∧ (s.setAon a).seq = s.seq ∧ (s.setAon a).mgmt = s.mgmt ∧ (s.setAon a).hif = s.hif ∧ (s.setAon a).intc = s.intc ∧ (s.setAon a).fcol = s.fcol ∧ (s.setAon a).ledger = s.ledger ∧ (s.setAon a).fresh = s.fresh ∧ (s.setAon a).pending = s.pending := by
  simp [State.setAon]

@[simp] theorem State.setAon_get (s : State) (a : Aon) (q : Field) : (s.setAon a).get q = s.get q := get_congr (by simp) q

@[simp] theorem State.setStore_frame (s : State) (x : Store) :
    (s.setStore x).store = x ∧ (s.setStore x).regs = s.regs ∧ (s.setStore x).psu = s.psu ∧ (s.setStore x).aon = s.aon ∧ (s.setStore x).refs = s.refs ∧ (s.setStore x).dpll = s.dpll ∧ (s.setStore x).hold = s.hold ∧ (s.setStore x).apll = s.apll ∧ (s.setStore x).tb = s.tb ∧ (s.setStore x).tic = s.tic ∧ (s.setStore x).ebnd = s.ebnd ∧ (s.setStore x).gnss = s.gnss ∧ (s.setStore x).mts = s.mts ∧ (s.setStore x).pkt = s.pkt ∧ (s.setStore x).auth = s.auth ∧ (s.setStore x).ctab = s.ctab ∧ (s.setStore x).rdn = s.rdn ∧ (s.setStore x).mem = s.mem ∧ (s.setStore x).seq = s.seq ∧ (s.setStore x).mgmt = s.mgmt ∧ (s.setStore x).hif = s.hif ∧ (s.setStore x).intc = s.intc ∧ (s.setStore x).fcol = s.fcol ∧ (s.setStore x).ledger = s.ledger ∧ (s.setStore x).fresh = s.fresh ∧ (s.setStore x).pending = s.pending := by
  simp [State.setStore]

@[simp] theorem State.setStore_get (s : State) (x : Store) (q : Field) : (s.setStore x).get q = s.get q := get_congr (by simp) q

@[simp] theorem State.setDpll_frame (s : State) (d : Dpll) :
    (s.setDpll d).dpll = d ∧ (s.setDpll d).regs = s.regs ∧ (s.setDpll d).psu = s.psu ∧ (s.setDpll d).aon = s.aon ∧ (s.setDpll d).store = s.store ∧ (s.setDpll d).refs = s.refs ∧ (s.setDpll d).hold = s.hold ∧ (s.setDpll d).apll = s.apll ∧ (s.setDpll d).tb = s.tb ∧ (s.setDpll d).tic = s.tic ∧ (s.setDpll d).ebnd = s.ebnd ∧ (s.setDpll d).gnss = s.gnss ∧ (s.setDpll d).mts = s.mts ∧ (s.setDpll d).pkt = s.pkt ∧ (s.setDpll d).auth = s.auth ∧ (s.setDpll d).ctab = s.ctab ∧ (s.setDpll d).rdn = s.rdn ∧ (s.setDpll d).mem = s.mem ∧ (s.setDpll d).seq = s.seq ∧ (s.setDpll d).mgmt = s.mgmt ∧ (s.setDpll d).hif = s.hif ∧ (s.setDpll d).intc = s.intc ∧ (s.setDpll d).fcol = s.fcol ∧ (s.setDpll d).ledger = s.ledger ∧ (s.setDpll d).fresh = s.fresh ∧ (s.setDpll d).pending = s.pending := by
  simp [State.setDpll]

@[simp] theorem State.setDpll_get (s : State) (d : Dpll) (q : Field) : (s.setDpll d).get q = s.get q := get_congr (by simp) q

@[simp] theorem State.setHold_frame (s : State) (h : Hold) :
    (s.setHold h).hold = h ∧ (s.setHold h).regs = s.regs ∧ (s.setHold h).psu = s.psu ∧ (s.setHold h).aon = s.aon ∧ (s.setHold h).store = s.store ∧ (s.setHold h).refs = s.refs ∧ (s.setHold h).dpll = s.dpll ∧ (s.setHold h).apll = s.apll ∧ (s.setHold h).tb = s.tb ∧ (s.setHold h).tic = s.tic ∧ (s.setHold h).ebnd = s.ebnd ∧ (s.setHold h).gnss = s.gnss ∧ (s.setHold h).mts = s.mts ∧ (s.setHold h).pkt = s.pkt ∧ (s.setHold h).auth = s.auth ∧ (s.setHold h).ctab = s.ctab ∧ (s.setHold h).rdn = s.rdn ∧ (s.setHold h).mem = s.mem ∧ (s.setHold h).seq = s.seq ∧ (s.setHold h).mgmt = s.mgmt ∧ (s.setHold h).hif = s.hif ∧ (s.setHold h).intc = s.intc ∧ (s.setHold h).fcol = s.fcol ∧ (s.setHold h).ledger = s.ledger ∧ (s.setHold h).fresh = s.fresh ∧ (s.setHold h).pending = s.pending := by
  simp [State.setHold]

@[simp] theorem State.setHold_get (s : State) (h : Hold) (q : Field) : (s.setHold h).get q = s.get q := get_congr (by simp) q

@[simp] theorem State.setTb_frame (s : State) (t : Tbase) :
    (s.setTb t).tb = t ∧ (s.setTb t).regs = s.regs ∧ (s.setTb t).psu = s.psu ∧ (s.setTb t).aon = s.aon ∧ (s.setTb t).store = s.store ∧ (s.setTb t).refs = s.refs ∧ (s.setTb t).dpll = s.dpll ∧ (s.setTb t).hold = s.hold ∧ (s.setTb t).apll = s.apll ∧ (s.setTb t).tic = s.tic ∧ (s.setTb t).ebnd = s.ebnd ∧ (s.setTb t).gnss = s.gnss ∧ (s.setTb t).mts = s.mts ∧ (s.setTb t).pkt = s.pkt ∧ (s.setTb t).auth = s.auth ∧ (s.setTb t).ctab = s.ctab ∧ (s.setTb t).rdn = s.rdn ∧ (s.setTb t).mem = s.mem ∧ (s.setTb t).seq = s.seq ∧ (s.setTb t).mgmt = s.mgmt ∧ (s.setTb t).hif = s.hif ∧ (s.setTb t).intc = s.intc ∧ (s.setTb t).fcol = s.fcol ∧ (s.setTb t).ledger = s.ledger ∧ (s.setTb t).fresh = s.fresh ∧ (s.setTb t).pending = s.pending := by
  simp [State.setTb]

@[simp] theorem State.setTb_get (s : State) (t : Tbase) (q : Field) : (s.setTb t).get q = s.get q := get_congr (by simp) q

@[simp] theorem State.setTic_frame (s : State) (t : Tic) :
    (s.setTic t).tic = t ∧ (s.setTic t).regs = s.regs ∧ (s.setTic t).psu = s.psu ∧ (s.setTic t).aon = s.aon ∧ (s.setTic t).store = s.store ∧ (s.setTic t).refs = s.refs ∧ (s.setTic t).dpll = s.dpll ∧ (s.setTic t).hold = s.hold ∧ (s.setTic t).apll = s.apll ∧ (s.setTic t).tb = s.tb ∧ (s.setTic t).ebnd = s.ebnd ∧ (s.setTic t).gnss = s.gnss ∧ (s.setTic t).mts = s.mts ∧ (s.setTic t).pkt = s.pkt ∧ (s.setTic t).auth = s.auth ∧ (s.setTic t).ctab = s.ctab ∧ (s.setTic t).rdn = s.rdn ∧ (s.setTic t).mem = s.mem ∧ (s.setTic t).seq = s.seq ∧ (s.setTic t).mgmt = s.mgmt ∧ (s.setTic t).hif = s.hif ∧ (s.setTic t).intc = s.intc ∧ (s.setTic t).fcol = s.fcol ∧ (s.setTic t).ledger = s.ledger ∧ (s.setTic t).fresh = s.fresh ∧ (s.setTic t).pending = s.pending := by
  simp [State.setTic]

@[simp] theorem State.setTic_get (s : State) (t : Tic) (q : Field) : (s.setTic t).get q = s.get q := get_congr (by simp) q

@[simp] theorem State.setEbnd_frame (s : State) (e : Ebnd) :
    (s.setEbnd e).ebnd = e ∧ (s.setEbnd e).regs = s.regs ∧ (s.setEbnd e).psu = s.psu ∧ (s.setEbnd e).aon = s.aon ∧ (s.setEbnd e).store = s.store ∧ (s.setEbnd e).refs = s.refs ∧ (s.setEbnd e).dpll = s.dpll ∧ (s.setEbnd e).hold = s.hold ∧ (s.setEbnd e).apll = s.apll ∧ (s.setEbnd e).tb = s.tb ∧ (s.setEbnd e).tic = s.tic ∧ (s.setEbnd e).gnss = s.gnss ∧ (s.setEbnd e).mts = s.mts ∧ (s.setEbnd e).pkt = s.pkt ∧ (s.setEbnd e).auth = s.auth ∧ (s.setEbnd e).ctab = s.ctab ∧ (s.setEbnd e).rdn = s.rdn ∧ (s.setEbnd e).mem = s.mem ∧ (s.setEbnd e).seq = s.seq ∧ (s.setEbnd e).mgmt = s.mgmt ∧ (s.setEbnd e).hif = s.hif ∧ (s.setEbnd e).intc = s.intc ∧ (s.setEbnd e).fcol = s.fcol ∧ (s.setEbnd e).ledger = s.ledger ∧ (s.setEbnd e).fresh = s.fresh ∧ (s.setEbnd e).pending = s.pending := by
  simp [State.setEbnd]

@[simp] theorem State.setEbnd_get (s : State) (e : Ebnd) (q : Field) : (s.setEbnd e).get q = s.get q := get_congr (by simp) q

@[simp] theorem State.setGnss_frame (s : State) (g : Gnss) :
    (s.setGnss g).gnss = g ∧ (s.setGnss g).regs = s.regs ∧ (s.setGnss g).psu = s.psu ∧ (s.setGnss g).aon = s.aon ∧ (s.setGnss g).store = s.store ∧ (s.setGnss g).refs = s.refs ∧ (s.setGnss g).dpll = s.dpll ∧ (s.setGnss g).hold = s.hold ∧ (s.setGnss g).apll = s.apll ∧ (s.setGnss g).tb = s.tb ∧ (s.setGnss g).tic = s.tic ∧ (s.setGnss g).ebnd = s.ebnd ∧ (s.setGnss g).mts = s.mts ∧ (s.setGnss g).pkt = s.pkt ∧ (s.setGnss g).auth = s.auth ∧ (s.setGnss g).ctab = s.ctab ∧ (s.setGnss g).rdn = s.rdn ∧ (s.setGnss g).mem = s.mem ∧ (s.setGnss g).seq = s.seq ∧ (s.setGnss g).mgmt = s.mgmt ∧ (s.setGnss g).hif = s.hif ∧ (s.setGnss g).intc = s.intc ∧ (s.setGnss g).fcol = s.fcol ∧ (s.setGnss g).ledger = s.ledger ∧ (s.setGnss g).fresh = s.fresh ∧ (s.setGnss g).pending = s.pending := by
  simp [State.setGnss]

@[simp] theorem State.setGnss_get (s : State) (g : Gnss) (q : Field) : (s.setGnss g).get q = s.get q := get_congr (by simp) q

@[simp] theorem State.setMts_frame (s : State) (m : Mts) :
    (s.setMts m).mts = m ∧ (s.setMts m).regs = s.regs ∧ (s.setMts m).psu = s.psu ∧ (s.setMts m).aon = s.aon ∧ (s.setMts m).store = s.store ∧ (s.setMts m).refs = s.refs ∧ (s.setMts m).dpll = s.dpll ∧ (s.setMts m).hold = s.hold ∧ (s.setMts m).apll = s.apll ∧ (s.setMts m).tb = s.tb ∧ (s.setMts m).tic = s.tic ∧ (s.setMts m).ebnd = s.ebnd ∧ (s.setMts m).gnss = s.gnss ∧ (s.setMts m).pkt = s.pkt ∧ (s.setMts m).auth = s.auth ∧ (s.setMts m).ctab = s.ctab ∧ (s.setMts m).rdn = s.rdn ∧ (s.setMts m).mem = s.mem ∧ (s.setMts m).seq = s.seq ∧ (s.setMts m).mgmt = s.mgmt ∧ (s.setMts m).hif = s.hif ∧ (s.setMts m).intc = s.intc ∧ (s.setMts m).fcol = s.fcol ∧ (s.setMts m).ledger = s.ledger ∧ (s.setMts m).fresh = s.fresh ∧ (s.setMts m).pending = s.pending := by
  simp [State.setMts]

@[simp] theorem State.setMts_get (s : State) (m : Mts) (q : Field) : (s.setMts m).get q = s.get q := get_congr (by simp) q

@[simp] theorem State.setPkt_frame (s : State) (p : Pkt) :
    (s.setPkt p).pkt = p ∧ (s.setPkt p).regs = s.regs ∧ (s.setPkt p).psu = s.psu ∧ (s.setPkt p).aon = s.aon ∧ (s.setPkt p).store = s.store ∧ (s.setPkt p).refs = s.refs ∧ (s.setPkt p).dpll = s.dpll ∧ (s.setPkt p).hold = s.hold ∧ (s.setPkt p).apll = s.apll ∧ (s.setPkt p).tb = s.tb ∧ (s.setPkt p).tic = s.tic ∧ (s.setPkt p).ebnd = s.ebnd ∧ (s.setPkt p).gnss = s.gnss ∧ (s.setPkt p).mts = s.mts ∧ (s.setPkt p).auth = s.auth ∧ (s.setPkt p).ctab = s.ctab ∧ (s.setPkt p).rdn = s.rdn ∧ (s.setPkt p).mem = s.mem ∧ (s.setPkt p).seq = s.seq ∧ (s.setPkt p).mgmt = s.mgmt ∧ (s.setPkt p).hif = s.hif ∧ (s.setPkt p).intc = s.intc ∧ (s.setPkt p).fcol = s.fcol ∧ (s.setPkt p).ledger = s.ledger ∧ (s.setPkt p).fresh = s.fresh ∧ (s.setPkt p).pending = s.pending := by
  simp [State.setPkt]

@[simp] theorem State.setPkt_get (s : State) (p : Pkt) (q : Field) : (s.setPkt p).get q = s.get q := get_congr (by simp) q

@[simp] theorem State.setAuth_frame (s : State) (a : Auth) :
    (s.setAuth a).auth = a ∧ (s.setAuth a).regs = s.regs ∧ (s.setAuth a).psu = s.psu ∧ (s.setAuth a).aon = s.aon ∧ (s.setAuth a).store = s.store ∧ (s.setAuth a).refs = s.refs ∧ (s.setAuth a).dpll = s.dpll ∧ (s.setAuth a).hold = s.hold ∧ (s.setAuth a).apll = s.apll ∧ (s.setAuth a).tb = s.tb ∧ (s.setAuth a).tic = s.tic ∧ (s.setAuth a).ebnd = s.ebnd ∧ (s.setAuth a).gnss = s.gnss ∧ (s.setAuth a).mts = s.mts ∧ (s.setAuth a).pkt = s.pkt ∧ (s.setAuth a).ctab = s.ctab ∧ (s.setAuth a).rdn = s.rdn ∧ (s.setAuth a).mem = s.mem ∧ (s.setAuth a).seq = s.seq ∧ (s.setAuth a).mgmt = s.mgmt ∧ (s.setAuth a).hif = s.hif ∧ (s.setAuth a).intc = s.intc ∧ (s.setAuth a).fcol = s.fcol ∧ (s.setAuth a).ledger = s.ledger ∧ (s.setAuth a).fresh = s.fresh ∧ (s.setAuth a).pending = s.pending := by
  simp [State.setAuth]

@[simp] theorem State.setAuth_get (s : State) (a : Auth) (q : Field) : (s.setAuth a).get q = s.get q := get_congr (by simp) q

@[simp] theorem State.setCtab_frame (s : State) (c : Ctab) :
    (s.setCtab c).ctab = c ∧ (s.setCtab c).regs = s.regs ∧ (s.setCtab c).psu = s.psu ∧ (s.setCtab c).aon = s.aon ∧ (s.setCtab c).store = s.store ∧ (s.setCtab c).refs = s.refs ∧ (s.setCtab c).dpll = s.dpll ∧ (s.setCtab c).hold = s.hold ∧ (s.setCtab c).apll = s.apll ∧ (s.setCtab c).tb = s.tb ∧ (s.setCtab c).tic = s.tic ∧ (s.setCtab c).ebnd = s.ebnd ∧ (s.setCtab c).gnss = s.gnss ∧ (s.setCtab c).mts = s.mts ∧ (s.setCtab c).pkt = s.pkt ∧ (s.setCtab c).auth = s.auth ∧ (s.setCtab c).rdn = s.rdn ∧ (s.setCtab c).mem = s.mem ∧ (s.setCtab c).seq = s.seq ∧ (s.setCtab c).mgmt = s.mgmt ∧ (s.setCtab c).hif = s.hif ∧ (s.setCtab c).intc = s.intc ∧ (s.setCtab c).fcol = s.fcol ∧ (s.setCtab c).ledger = s.ledger ∧ (s.setCtab c).fresh = s.fresh ∧ (s.setCtab c).pending = s.pending := by
  simp [State.setCtab]

@[simp] theorem State.setCtab_get (s : State) (c : Ctab) (q : Field) : (s.setCtab c).get q = s.get q := get_congr (by simp) q

@[simp] theorem State.setRdn_frame (s : State) (r : Rdn) :
    (s.setRdn r).rdn = r ∧ (s.setRdn r).regs = s.regs ∧ (s.setRdn r).psu = s.psu ∧ (s.setRdn r).aon = s.aon ∧ (s.setRdn r).store = s.store ∧ (s.setRdn r).refs = s.refs ∧ (s.setRdn r).dpll = s.dpll ∧ (s.setRdn r).hold = s.hold ∧ (s.setRdn r).apll = s.apll ∧ (s.setRdn r).tb = s.tb ∧ (s.setRdn r).tic = s.tic ∧ (s.setRdn r).ebnd = s.ebnd ∧ (s.setRdn r).gnss = s.gnss ∧ (s.setRdn r).mts = s.mts ∧ (s.setRdn r).pkt = s.pkt ∧ (s.setRdn r).auth = s.auth ∧ (s.setRdn r).ctab = s.ctab ∧ (s.setRdn r).mem = s.mem ∧ (s.setRdn r).seq = s.seq ∧ (s.setRdn r).mgmt = s.mgmt ∧ (s.setRdn r).hif = s.hif ∧ (s.setRdn r).intc = s.intc ∧ (s.setRdn r).fcol = s.fcol ∧ (s.setRdn r).ledger = s.ledger ∧ (s.setRdn r).fresh = s.fresh ∧ (s.setRdn r).pending = s.pending := by
  simp [State.setRdn]

@[simp] theorem State.setRdn_get (s : State) (r : Rdn) (q : Field) : (s.setRdn r).get q = s.get q := get_congr (by simp) q

@[simp] theorem State.setSeq_frame (s : State) (b : SeqBlk) :
    (s.setSeq b).seq = b ∧ (s.setSeq b).regs = s.regs ∧ (s.setSeq b).psu = s.psu ∧ (s.setSeq b).aon = s.aon ∧ (s.setSeq b).store = s.store ∧ (s.setSeq b).refs = s.refs ∧ (s.setSeq b).dpll = s.dpll ∧ (s.setSeq b).hold = s.hold ∧ (s.setSeq b).apll = s.apll ∧ (s.setSeq b).tb = s.tb ∧ (s.setSeq b).tic = s.tic ∧ (s.setSeq b).ebnd = s.ebnd ∧ (s.setSeq b).gnss = s.gnss ∧ (s.setSeq b).mts = s.mts ∧ (s.setSeq b).pkt = s.pkt ∧ (s.setSeq b).auth = s.auth ∧ (s.setSeq b).ctab = s.ctab ∧ (s.setSeq b).rdn = s.rdn ∧ (s.setSeq b).mem = s.mem ∧ (s.setSeq b).mgmt = s.mgmt ∧ (s.setSeq b).hif = s.hif ∧ (s.setSeq b).intc = s.intc ∧ (s.setSeq b).fcol = s.fcol ∧ (s.setSeq b).ledger = s.ledger ∧ (s.setSeq b).fresh = s.fresh ∧ (s.setSeq b).pending = s.pending := by
  simp [State.setSeq]

@[simp] theorem State.setSeq_get (s : State) (b : SeqBlk) (q : Field) : (s.setSeq b).get q = s.get q := get_congr (by simp) q

@[simp] theorem State.setHif_frame (s : State) (h : Hif) :
    (s.setHif h).hif = h ∧ (s.setHif h).regs = s.regs ∧ (s.setHif h).psu = s.psu ∧ (s.setHif h).aon = s.aon ∧ (s.setHif h).store = s.store ∧ (s.setHif h).refs = s.refs ∧ (s.setHif h).dpll = s.dpll ∧ (s.setHif h).hold = s.hold ∧ (s.setHif h).apll = s.apll ∧ (s.setHif h).tb = s.tb ∧ (s.setHif h).tic = s.tic ∧ (s.setHif h).ebnd = s.ebnd ∧ (s.setHif h).gnss = s.gnss ∧ (s.setHif h).mts = s.mts ∧ (s.setHif h).pkt = s.pkt ∧ (s.setHif h).auth = s.auth ∧ (s.setHif h).ctab = s.ctab ∧ (s.setHif h).rdn = s.rdn ∧ (s.setHif h).mem = s.mem ∧ (s.setHif h).seq = s.seq ∧ (s.setHif h).mgmt = s.mgmt ∧ (s.setHif h).intc = s.intc ∧ (s.setHif h).fcol = s.fcol ∧ (s.setHif h).ledger = s.ledger ∧ (s.setHif h).fresh = s.fresh ∧ (s.setHif h).pending = s.pending := by
  simp [State.setHif]

@[simp] theorem State.setHif_get (s : State) (h : Hif) (q : Field) : (s.setHif h).get q = s.get q := get_congr (by simp) q

@[simp] theorem State.setFcol_frame (s : State) (f : Fcol) :
    (s.setFcol f).fcol = f ∧ (s.setFcol f).regs = s.regs ∧ (s.setFcol f).psu = s.psu ∧ (s.setFcol f).aon = s.aon ∧ (s.setFcol f).store = s.store ∧ (s.setFcol f).refs = s.refs ∧ (s.setFcol f).dpll = s.dpll ∧ (s.setFcol f).hold = s.hold ∧ (s.setFcol f).apll = s.apll ∧ (s.setFcol f).tb = s.tb ∧ (s.setFcol f).tic = s.tic ∧ (s.setFcol f).ebnd = s.ebnd ∧ (s.setFcol f).gnss = s.gnss ∧ (s.setFcol f).mts = s.mts ∧ (s.setFcol f).pkt = s.pkt ∧ (s.setFcol f).auth = s.auth ∧ (s.setFcol f).ctab = s.ctab ∧ (s.setFcol f).rdn = s.rdn ∧ (s.setFcol f).mem = s.mem ∧ (s.setFcol f).seq = s.seq ∧ (s.setFcol f).mgmt = s.mgmt ∧ (s.setFcol f).hif = s.hif ∧ (s.setFcol f).intc = s.intc ∧ (s.setFcol f).ledger = s.ledger ∧ (s.setFcol f).fresh = s.fresh ∧ (s.setFcol f).pending = s.pending := by
  simp [State.setFcol]

@[simp] theorem State.setFcol_get (s : State) (f : Fcol) (q : Field) : (s.setFcol f).get q = s.get q := get_congr (by simp) q

@[simp] theorem State.setLedger_frame (s : State) (l : Ledger) :
    (s.setLedger l).ledger = l ∧ (s.setLedger l).regs = s.regs ∧ (s.setLedger l).psu = s.psu ∧ (s.setLedger l).aon = s.aon ∧ (s.setLedger l).store = s.store ∧ (s.setLedger l).refs = s.refs ∧ (s.setLedger l).dpll = s.dpll ∧ (s.setLedger l).hold = s.hold ∧ (s.setLedger l).apll = s.apll ∧ (s.setLedger l).tb = s.tb ∧ (s.setLedger l).tic = s.tic ∧ (s.setLedger l).ebnd = s.ebnd ∧ (s.setLedger l).gnss = s.gnss ∧ (s.setLedger l).mts = s.mts ∧ (s.setLedger l).pkt = s.pkt ∧ (s.setLedger l).auth = s.auth ∧ (s.setLedger l).ctab = s.ctab ∧ (s.setLedger l).rdn = s.rdn ∧ (s.setLedger l).mem = s.mem ∧ (s.setLedger l).seq = s.seq ∧ (s.setLedger l).mgmt = s.mgmt ∧ (s.setLedger l).hif = s.hif ∧ (s.setLedger l).intc = s.intc ∧ (s.setLedger l).fcol = s.fcol ∧ (s.setLedger l).fresh = s.fresh ∧ (s.setLedger l).pending = s.pending := by
  simp [State.setLedger]

@[simp] theorem State.setLedger_get (s : State) (l : Ledger) (q : Field) : (s.setLedger l).get q = s.get q := get_congr (by simp) q

@[simp] theorem State.memPut_frame (s : State) (x n v : Nat) :
    (s.memPut x n v).regs = s.regs ∧ (s.memPut x n v).psu = s.psu ∧ (s.memPut x n v).aon = s.aon ∧ (s.memPut x n v).store = s.store ∧ (s.memPut x n v).refs = s.refs ∧ (s.memPut x n v).dpll = s.dpll ∧ (s.memPut x n v).hold = s.hold ∧ (s.memPut x n v).apll = s.apll ∧ (s.memPut x n v).tb = s.tb ∧ (s.memPut x n v).tic = s.tic ∧ (s.memPut x n v).ebnd = s.ebnd ∧ (s.memPut x n v).gnss = s.gnss ∧ (s.memPut x n v).mts = s.mts ∧ (s.memPut x n v).pkt = s.pkt ∧ (s.memPut x n v).auth = s.auth ∧ (s.memPut x n v).ctab = s.ctab ∧ (s.memPut x n v).rdn = s.rdn ∧ (s.memPut x n v).seq = s.seq ∧ (s.memPut x n v).mgmt = s.mgmt ∧ (s.memPut x n v).hif = s.hif ∧ (s.memPut x n v).intc = s.intc ∧ (s.memPut x n v).fcol = s.fcol ∧ (s.memPut x n v).ledger = s.ledger ∧ (s.memPut x n v).fresh = s.fresh ∧ (s.memPut x n v).pending = s.pending := by
  simp [State.memPut]

@[simp] theorem State.memPut_get (s : State) (x n v : Nat) (q : Field) : (s.memPut x n v).get q = s.get q := get_congr (by simp) q

/-! ### Reads through a latch -/

@[simp] theorem State.loadLatch_frame (s v : State) (req a n : Nat) :
    (s.loadLatch v req a n).regs = s.regs ∧ (s.loadLatch v req a n).psu = s.psu ∧ (s.loadLatch v req a n).aon = s.aon ∧ (s.loadLatch v req a n).store = s.store ∧ (s.loadLatch v req a n).refs = s.refs ∧ (s.loadLatch v req a n).dpll = s.dpll ∧ (s.loadLatch v req a n).hold = s.hold ∧ (s.loadLatch v req a n).apll = s.apll ∧ (s.loadLatch v req a n).tb = s.tb ∧ (s.loadLatch v req a n).tic = s.tic ∧ (s.loadLatch v req a n).ebnd = s.ebnd ∧ (s.loadLatch v req a n).gnss = s.gnss ∧ (s.loadLatch v req a n).mts = s.mts ∧ (s.loadLatch v req a n).pkt = s.pkt ∧ (s.loadLatch v req a n).auth = s.auth ∧ (s.loadLatch v req a n).ctab = s.ctab ∧ (s.loadLatch v req a n).rdn = s.rdn ∧ (s.loadLatch v req a n).mem = s.mem ∧ (s.loadLatch v req a n).seq = s.seq ∧ (s.loadLatch v req a n).mgmt = s.mgmt ∧ (s.loadLatch v req a n).intc = s.intc ∧ (s.loadLatch v req a n).fcol = s.fcol ∧ (s.loadLatch v req a n).ledger = s.ledger ∧ (s.loadLatch v req a n).fresh = s.fresh ∧ (s.loadLatch v req a n).pending = s.pending := by
  simp [State.loadLatch]

@[simp] theorem State.loadLatch_get (s v : State) (req a n : Nat) (q : Field) : (s.loadLatch v req a n).get q = s.get q := get_congr (by simp) q

@[simp] theorem State.mgmtWord_frame (s : State) (a : Nat) :
    ((s.mgmtWord a).1).regs = s.regs ∧ ((s.mgmtWord a).1).psu = s.psu ∧ ((s.mgmtWord a).1).aon = s.aon ∧ ((s.mgmtWord a).1).store = s.store ∧ ((s.mgmtWord a).1).refs = s.refs ∧ ((s.mgmtWord a).1).dpll = s.dpll ∧ ((s.mgmtWord a).1).hold = s.hold ∧ ((s.mgmtWord a).1).apll = s.apll ∧ ((s.mgmtWord a).1).tb = s.tb ∧ ((s.mgmtWord a).1).tic = s.tic ∧ ((s.mgmtWord a).1).ebnd = s.ebnd ∧ ((s.mgmtWord a).1).gnss = s.gnss ∧ ((s.mgmtWord a).1).mts = s.mts ∧ ((s.mgmtWord a).1).pkt = s.pkt ∧ ((s.mgmtWord a).1).auth = s.auth ∧ ((s.mgmtWord a).1).ctab = s.ctab ∧ ((s.mgmtWord a).1).rdn = s.rdn ∧ ((s.mgmtWord a).1).mem = s.mem ∧ ((s.mgmtWord a).1).seq = s.seq ∧ ((s.mgmtWord a).1).mgmt = s.mgmt ∧ ((s.mgmtWord a).1).fcol = s.fcol ∧ ((s.mgmtWord a).1).ledger = s.ledger ∧ ((s.mgmtWord a).1).fresh = s.fresh ∧ ((s.mgmtWord a).1).pending = s.pending := by
  unfold State.mgmtWord; dsimp only; split <;> (try split) <;> simp

@[simp] theorem State.mgmtRead_frame (s : State) (a n : Nat) :
    ((s.mgmtRead a n).1).regs = s.regs ∧ ((s.mgmtRead a n).1).psu = s.psu ∧ ((s.mgmtRead a n).1).aon = s.aon ∧ ((s.mgmtRead a n).1).store = s.store ∧ ((s.mgmtRead a n).1).refs = s.refs ∧ ((s.mgmtRead a n).1).dpll = s.dpll ∧ ((s.mgmtRead a n).1).hold = s.hold ∧ ((s.mgmtRead a n).1).apll = s.apll ∧ ((s.mgmtRead a n).1).tb = s.tb ∧ ((s.mgmtRead a n).1).tic = s.tic ∧ ((s.mgmtRead a n).1).ebnd = s.ebnd ∧ ((s.mgmtRead a n).1).gnss = s.gnss ∧ ((s.mgmtRead a n).1).mts = s.mts ∧ ((s.mgmtRead a n).1).pkt = s.pkt ∧ ((s.mgmtRead a n).1).auth = s.auth ∧ ((s.mgmtRead a n).1).ctab = s.ctab ∧ ((s.mgmtRead a n).1).rdn = s.rdn ∧ ((s.mgmtRead a n).1).mem = s.mem ∧ ((s.mgmtRead a n).1).seq = s.seq ∧ ((s.mgmtRead a n).1).mgmt = s.mgmt ∧ ((s.mgmtRead a n).1).fcol = s.fcol ∧ ((s.mgmtRead a n).1).ledger = s.ledger ∧ ((s.mgmtRead a n).1).fresh = s.fresh ∧ ((s.mgmtRead a n).1).pending = s.pending := by
  induction n generalizing s a with
  | zero => simp [State.mgmtRead]
  | succ n ih => simp [State.mgmtRead, ih]

@[simp] theorem State.mgmtReads_frame (s : State) (l : List (Nat × Nat)) :
    ((s.mgmtReads l).1).regs = s.regs ∧ ((s.mgmtReads l).1).psu = s.psu ∧ ((s.mgmtReads l).1).aon = s.aon ∧ ((s.mgmtReads l).1).store = s.store ∧ ((s.mgmtReads l).1).refs = s.refs ∧ ((s.mgmtReads l).1).dpll = s.dpll ∧ ((s.mgmtReads l).1).hold = s.hold ∧ ((s.mgmtReads l).1).apll = s.apll ∧ ((s.mgmtReads l).1).tb = s.tb ∧ ((s.mgmtReads l).1).tic = s.tic ∧ ((s.mgmtReads l).1).ebnd = s.ebnd ∧ ((s.mgmtReads l).1).gnss = s.gnss ∧ ((s.mgmtReads l).1).mts = s.mts ∧ ((s.mgmtReads l).1).pkt = s.pkt ∧ ((s.mgmtReads l).1).auth = s.auth ∧ ((s.mgmtReads l).1).ctab = s.ctab ∧ ((s.mgmtReads l).1).rdn = s.rdn ∧ ((s.mgmtReads l).1).mem = s.mem ∧ ((s.mgmtReads l).1).seq = s.seq ∧ ((s.mgmtReads l).1).mgmt = s.mgmt ∧ ((s.mgmtReads l).1).fcol = s.fcol ∧ ((s.mgmtReads l).1).ledger = s.ledger ∧ ((s.mgmtReads l).1).fresh = s.fresh ∧ ((s.mgmtReads l).1).pending = s.pending := by
  induction l generalizing s with
  | nil => simp [State.mgmtReads]
  | cons p l ih => simp [State.mgmtReads, ih]

@[simp] theorem State.mgmtReads_get (s : State) (l : List (Nat × Nat)) (q : Field) : (s.mgmtReads l).1.get q = s.get q := get_congr (by simp) q

@[simp] theorem State.doneRd_frame (s : State) (h : WbHead) (l : List (Nat × Nat)) (pre : List Word) :
    (s.doneRd h l pre).psu = s.psu ∧ (s.doneRd h l pre).aon = s.aon ∧ (s.doneRd h l pre).refs = s.refs ∧ (s.doneRd h l pre).dpll = s.dpll ∧ (s.doneRd h l pre).hold = s.hold ∧ (s.doneRd h l pre).apll = s.apll ∧ (s.doneRd h l pre).tb = s.tb ∧ (s.doneRd h l pre).tic = s.tic ∧ (s.doneRd h l pre).ebnd = s.ebnd ∧ (s.doneRd h l pre).gnss = s.gnss ∧ (s.doneRd h l pre).mts = s.mts ∧ (s.doneRd h l pre).pkt = s.pkt ∧ (s.doneRd h l pre).auth = s.auth ∧ (s.doneRd h l pre).ctab = s.ctab ∧ (s.doneRd h l pre).rdn = s.rdn ∧ (s.doneRd h l pre).mem = s.mem ∧ (s.doneRd h l pre).seq = s.seq ∧ (s.doneRd h l pre).ledger = s.ledger ∧ (s.doneRd h l pre).fresh = s.fresh ∧ (s.doneRd h l pre).pending = s.pending := by
  simp [State.doneRd]

end Sys2Proof.Machine
end

