-- ==== Sys2Proof/Laws/Ops.lean ====
section
/-! SUPPORT. What the shared operations do: raising a source, sending a message, INTC's settling, and the manifest of a waybill that ends. -/
namespace Sys2Proof.Machine

/-! ### Registers through the shared operations -/

theorem get_dropMsg (s : State) (b : Nat) (g : Field) (h : F.FCOL_LOST.disj g = true) : (s.dropMsg b).get g = s.get g :=
  (get_congr (by rfl) g).trans (get_inc_disj s F.FCOL_LOST g h)

theorem regs_foldl {α : Type} (f : State → α → State) (h : ∀ s x, (f s x).regs = s.regs) (l : List α) (s : State) :
    (l.foldl f s).regs = s.regs := by
  induction l generalizing s with
  | nil => rfl
  | cons x r ih => simp only [List.foldl_cons, ih, h]

theorem get_foldl {α : Type} (f : State → α → State) (g : Field) (h : ∀ s x, (f s x).get g = s.get g) (l : List α) (s : State) :
    (l.foldl f s).get g = s.get g := by
  induction l generalizing s with
  | nil => rfl
  | cons x r ih => simp only [List.foldl_cons, ih, h]

theorem get_sendMsg (s : State) (m : FMsg) (g : Field) (h : F.FCOL_LOST.disj g = true) : (s.sendMsg m).get g = s.get g := by
  unfold State.sendMsg
  split
  · split
    · simp
    · simp [get_dropMsg _ _ _ h]
  · split <;> exact get_congr (by rfl) g

theorem get_fault (s : State) (a b c : Nat) (g : Field) (h : F.FCOL_LOST.disj g = true) : (s.fault a b c).get g = s.get g :=
  get_sendMsg s _ g h

theorem get_faultM (s : State) (a b c d e : Nat) (x : Option Nat) (g : Field) (h : F.FCOL_LOST.disj g = true) :
    (s.faultM a b c d e x).get g = s.get g := get_sendMsg s _ g h

theorem get_incRaise (s : State) (f g : Field) (n : Nat) (h : f.disj g = true) : (s.incRaise f n).get g = s.get g := by
  simp [State.incRaise, get_inc_disj s f g h]

theorem get_incRaise_self (s : State) (f : Field) (n : Nat) : (s.incRaise f n).get f = satNat f.wid (s.get f + 1) := by
  simp [State.incRaise, get_inc]

theorem get_putManifest (s : State) (m : Manifest) (g : Field) (h : F.FCOL_LOST.disj g = true) (h' : F.MGMT_MANFAIL.disj g = true) :
    (s.putManifest m).get g = s.get g := by
  unfold State.putManifest
  split
  · exact get_congr (by rfl) g
  · rw [get_fault _ _ _ _ _ h, get_inc_disj _ _ _ h']

theorem get_finishOne (s : State) (h : WbHead) (st : ManSt) (e : Status) (p : Nat) (rs : List Word) (b : Bool) (g : Field)
    (hg : g.offManifest = true) : (s.finishOne h st e p rs b).get g = s.get g := by
  simp only [Field.offManifest, Bool.and_eq_true] at hg
  simp only [State.finishOne, State.raiseIf_get, State.countLong]
  rw [get_setSat_disj _ _ _ _ hg.2, State.dropWaiter_get, State.dropTaken_get, get_putManifest _ _ _ hg.1.1.2 hg.1.2]

theorem get_finish (s : State) (h : WbHead) (st : ManSt) (e : Status) (p : Nat) (rs : List Word) (b : Bool) (g : Field)
    (hg : g.offManifest = true) : (s.finish h st e p rs b).get g = s.get g := by
  unfold State.finish
  rw [get_foldl _ _ (fun s x => get_finishOne s x _ _ _ _ _ g hg), get_finishOne _ _ _ _ _ _ _ _ hg]

theorem get_done (s : State) (h : WbHead) (rs : List Word) (g : Field) (hg : g.offManifest = true) : (s.done h rs).get g = s.get g :=
  get_finish s h _ _ _ _ _ g hg

theorem get_failed (s : State) (h : WbHead) (e : Status) (g : Field) (hg : g.offManifest = true) : (s.failed h e).get g = s.get g :=
  get_finish s h _ _ _ _ _ g hg

/-! ### Pending interrupts -/

theorem mem_insertNat (l : List Nat) (a b : Nat) : b ∈ insertNat l a ↔ b = a ∨ b ∈ l := by
  induction l with
  | nil => simp [insertNat]
  | cons k r ih =>
    simp only [insertNat]
    split
    · simp
    · split
      · subst_vars; simp
      · simp only [List.mem_cons, ih]; exact or_left_comm

/-- Source `n` is pending in both targets (R402), or held for the end of step 3 (R77). -/
theorem raise_pend (s : State) (n : Nat) (h : s.intc.running = true) :
    n ∈ (s.raise n).intc.host.pend ∧ n ∈ (s.raise n).intc.mgmt.pend := by
  simp [State.raise, h, Target.post, mem_insertNat]

@[simp] theorem raise_running (s : State) (n : Nat) : (s.raise n).intc.running = s.intc.running := by
  unfold State.raise; split <;> rfl

@[simp] theorem raiseIf_running (s : State) (b : Bool) (n : Nat) : (s.raiseIf b n).intc.running = s.intc.running := by
  unfold State.raiseIf; split <;> simp

/-- Raising a source takes no other source back. -/
theorem raise_keeps (s : State) (n m : Nat) (h : m ∈ s.intc.host.pend ∧ m ∈ s.intc.mgmt.pend) :
    m ∈ (s.raise n).intc.host.pend ∧ m ∈ (s.raise n).intc.mgmt.pend := by
  unfold State.raise; split <;> simp [Target.post, mem_insertNat, h]

theorem sampleLevel_pend (b : Bool) (t : Target) (n m : Nat) (h : m ≠ n) : m ∈ (sampleLevel b t n).pend ↔ m ∈ t.pend := by
  unfold sampleLevel; split
  · rfl
  · cases b <;> simp [mem_insertNat, h]

theorem sampleAll_pend (s : State) (t : Target) (m : Nat) (h : m ∉ levelSources) : m ∈ (s.sampleAll t).pend ↔ m ∈ t.pend := by
  unfold State.sampleAll
  generalize levelSources = l at h
  induction l generalizing t with
  | nil => rfl
  | cons x r ih =>
    simp only [List.mem_cons, not_or] at h
    rw [List.foldl_cons, ih _ h.2, sampleLevel_pend _ _ _ _ h.1]

/-- INTC's settling takes back no edge source. -/
theorem settle_pend (s : State) (n : Nat) (h : n ∉ levelSources) (hp : n ∈ s.intc.host.pend ∧ n ∈ s.intc.mgmt.pend) :
    n ∈ s.settle.intc.host.pend ∧ n ∈ s.settle.intc.mgmt.pend := by
  unfold State.settle; split
  · simp only [sampleAll_pend s _ n h]; exact hp
  · exact hp

@[simp] theorem settle_running (s : State) : s.settle.intc.running = s.intc.running := by
  unfold State.settle; split <;> simp_all

/-! ### Host errors (R376, R377) -/

/-- Every register of a block lies in the block's own window. -/
theorem blockRegs_inside (b : Nat) : ∀ r ∈ blockRegs b, ∀ i < r.count, r.off + i * r.stride + 2 * r.words ≤ 0x10000 := by
  have h : (blockRegs b).all (fun r => decide (r.off + (r.count - 1) * r.stride + 2 * r.words ≤ 0x10000)) = true := by
    unfold blockRegs; split <;> decide
  intro r hr i hi
  have := of_decide_eq_true (List.all_eq_true.mp h r hr)
  have : i * r.stride ≤ (r.count - 1) * r.stride := Nat.mul_le_mul_right _ (by omega)
  omega

theorem rd_foldl {α : Type} (f : State → α → State) (a : Nat) (l : List α) (h : ∀ s, ∀ x ∈ l, (f s x).rd a = s.rd a) (s : State) :
    (l.foldl f s).rd a = s.rd a := by
  induction l generalizing s with
  | nil => rfl
  | cons x r ih => rw [List.foldl_cons, ih (fun s y hy => h s y (List.mem_cons_of_mem _ hy)), h s x List.mem_cons_self]

/-- A host error in block `b` changes no register of another block. -/
theorem rd_blockErr (s : State) (b a : Nat) (h : blockOf a ≠ b) : (s.blockErr b).rd a = s.rd a := by
  refine rd_foldl _ _ _ (fun s r hr => rd_foldl _ _ _ (fun s i hi => ?_) s) s
  have := blockRegs_inside b r (List.mem_filter.mp hr).1 i (List.mem_range.mp hi)
  refine rd_wrN_apart _ _ _ _ _ ?_
  unfold blockOf at h
  omega

/-! ### Manifests -/

theorem manifestAt_put (s : State) (m : Manifest) (h : s.canWrite m.ring m.slot = true) :
    (s.putManifest m).manifestAt m.ring m.slot = some m := by
  simp [State.putManifest, State.manifestAt, h]

/-- A waybill that ends with nobody waiting for it has the final header in its slot. -/
theorem manifestAt_finish (s : State) (h : WbHead) (st : ManSt) (e : Status) (p : Nat) (rs : List Word) (b : Bool)
    (hc : s.canWrite h.ring h.slot = true) (hs : (s.entryOf h).suspReqs = []) :
    (s.finish h st e p rs b).manifestAt h.ring h.slot =
      some ⟨h.ring, h.slot, e.code, h.tag, st, nextUpd (s.entryOf h).upd, b || (s.entryOf h).spec, p, rs⟩ := by
  unfold State.finish
  rw [hs, List.foldl_nil, ← manifestAt_put s ⟨h.ring, h.slot, e.code, h.tag, st, nextUpd (s.entryOf h).upd, b || (s.entryOf h).spec, p, rs⟩ hc]
  simp only [State.finishOne, State.manifestAt, State.raiseIf, State.countLong, State.dropTaken, State.dropWaiter]
  repeat' split
  all_goals simp

/-- Whether a slot can be written depends on MGMT's state and HIF's registers alone. -/
theorem canWrite_congr {s t : State} (hm : t.mgmt = s.mgmt) (h : ∀ a, 0x100000 ≤ a → a < 0x110000 → t.rd a = s.rd a) (r k : Nat) (hr : r < 4) :
    t.canWrite r k = s.canWrite r k := by
  have hN : ∀ n a, 0x100000 ≤ a → a + 2 * n ≤ 0x110000 → t.rdN a n = s.rdN a n := by
    intro n; induction n with
    | zero => intros; rfl
    | succ n ih => intro a h1 h2; rw [State.rdN, State.rdN, h a h1 (by omega), ih _ (by omega) (by omega)]
  have hg : ∀ f : Field, 0x100000 ≤ f.addr → f.addr + 2 * f.words ≤ 0x110000 → t.get f = s.get f := by
    intro f h1 h2; simp only [State.get, hN _ _ h1 h2]
  have e1 : t.hostMem = s.hostMem := by
    simp only [State.hostMem, State.on]; rw [hg _ (by decide) (by decide), hg F.HIF_STAT_BUSMASTER (by decide) (by decide)]
  have e2 : t.ringBases r = s.ringBases r := by
    simp only [State.ringBases, F.HIF_RING_WBASE]; exact hN _ _ (by omega) (by omega)
  have e3 : t.on (F.HIF_RING_CFG_EN r) = s.on (F.HIF_RING_CFG_EN r) := by
    simp only [State.on]; rw [hg]
    · simp only [F.HIF_RING_CFG_EN]; omega
    · simp only [F.HIF_RING_CFG_EN, Field.words]; omega
  simp only [State.canWrite, State.takenAt, hm, e1, e2, e3]

end Sys2Proof.Machine
end

