-- ==== Sys2Proof/Tests/Slice0.lean ====
section
/-! SUPPORT. Tests: well-formedness, the worked examples of the spec, and for every obligation a state and operands that meet the hypotheses of each of
its clauses. -/
namespace Sys2Proof.Tests
open Sys2Proof.Machine

set_option autoImplicit false
set_option maxRecDepth 100000

/-! ### The states that the tests share -/

/-- A head for ring 2, slot 0. -/
def h0 : WbHead := ⟨2, 0, 0x1234, 0⟩

/-- The conditions of `Takes`, decided. -/
def takesB (h : WbHead) (s : State) : Bool :=
  decide (s.intc.running = true ∧ s.mgmtFenced = false ∧ s.takenAt h.ring h.slot = none ∧ (∀ x ∈ s.mgmt.taken, x.long = true) ∧
    (h.flags / 2 % 2 = 1 → ∀ x ∈ s.mgmt.taken, x.ring ≠ h.ring) ∧ s.mgmt.taken.length < 64 ∧ s.latchesWf = true)

theorem takesB_iff (h : WbHead) (s : State) : takesB h s = true ↔ Takes h s := by
  unfold takesB
  rw [decide_eq_true_iff]
  exact ⟨fun ⟨a, b, c, d, e, f, g⟩ => ⟨a, b, c, d, e, f, g⟩, fun ⟨a, b, c, d, e, f, g⟩ => ⟨a, b, c, d, e, f, g⟩⟩

/-- The conditions of `Ready`, decided. -/
def readyB (h : WbHead) (s : State) : Bool :=
  takesB h s && decide (h.flags < 8 ∧ s.seq.st = .running ∧ s.canWrite h.ring h.slot = true)

theorem readyB_iff (h : WbHead) (s : State) : readyB h s = true ↔ Ready h s := by
  unfold readyB
  rw [Bool.and_eq_true, takesB_iff, decide_eq_true_iff]
  exact ⟨fun ⟨a, b, c, d⟩ => ⟨a, b, c, d⟩, fun ⟨a, b, c, d⟩ => ⟨a, b, c, d⟩⟩

/-- A machine in service: supplied, started, time set, host link up, lanes up, paired and holding the arbiter's grant. -/
def up : State :=
  let s : State := { psu := { sup := .normal, vbatOk := true }, seq := { st := .running }, intc := { running := true }, fcol := { running := true, doms := [⟨.alive, true, []⟩, ⟨.alive, true, []⟩, ⟨.alive, true, []⟩, ⟨.alive, true, []⟩] }, tb := { counting := true }, rdn := { mode := 1, lanes := [{}, {}] } }
  let s := [F.HIF_STAT_LINKUP, F.HIF_STAT_BUSMASTER, F.HIF_ACCESS_SPIWR, F.HIF_ACCESS_CONWR, F.CTAB_STAT_READY, F.GNSS_CTRL_EN, F.GNSS_STAT_ACTA, F.TBASE_STAT_TIMESET,
    F.RDN_STAT_PARTNER, F.RDN_CFG_LANEMASK].foldl (fun s f => s.setB f true) s
  let s := (List.range 10).foldl (fun s n => s.set (F.LANE_LANE_STAT_STATE n) 4) s
  [(F.PKT_SVC_STATE, 3), (F.RDN_STAT_ROLE, 3), (F.RDN_STAT_GNTST, 1), (F.RDN_CLAIM, 1)].foldl (fun s p => s.set p.1 p.2) s

def done0 : StepDone := ⟨9, false, 60, 0, true, 25, [], [], 0, 0, 0, []⟩
def frame0 : Frame := ⟨90, 0, false, [], .ip false 5 0 true (some 123), .ntp ⟨4, 3, 0, 0, 0, .none⟩⟩
def fix0 : GnssFix := ⟨[1, 2, 3, 4], 1, false, some ⟨7, 10, false⟩, 0, 1, 1, 1, 1⟩
def req0 : Req := { id := 0, port := 0, cls := 0, key := ⟨0, 100, 0, 5⟩, rx := 0, body := .ntp ⟨4, 3, 0, 0, 0, .none⟩ }
def slot0 : Slot := { id := 0, item := ⟨0, 0, .host 60, 0⟩, content := .host 60, spec := true, pos := 0, stamp := 0 }
def hb0 : Heartbeat := ⟨0, 1, true, false, false, 1, 1, none, none, 0, 0⟩
def load0 : Load := ⟨2, 0, 0, 0, none, none, 0, some h0, none⟩
def job0 : AcqJob := { wb := some h0, gal := false, prns := [1], total := 1, perPrn := 1, forward := 1, thr := 1, handoff := false }
def rot0 : Rotation := { wb := h0, gen := 0, ptp := false, spp := 0, new := 0, start := 0, act := 0, delay := 1 }
def taken0 : Taken := { ring := 2, slot := 0, w0 := 0x1040, tag := 0x1234 }
def man0 : Manifest := ⟨3, 0, 0, 1, .done, 1, false, 0, []⟩
def dump0 : LdgDump := ⟨h0, false, 5, 1, 0, 1⟩
def ho0 : Handover := ⟨200 * US48, false, true, false, none⟩
def grant0 : UGrant := ⟨0, 11, 0, 0, 0, 0, 100, 0⟩
def svcUp : State := ((((((up.setB (F.PKT_ADDR_CFG_EN 0) true).setB (F.PKT_ADDR_CFG_GRP0 0) true).setB (F.PKT_ADDR_CFG_GRP1 0) true).set F.PKT_CTRL 255).set (F.MTS_LANE_CFG 7) 1).setBit F.MTS_RXLOCKMAP 7 true).set (F.PKT_PORT_MAC 7) 0
def ext0 : NtpReq := ⟨4, 3, 0, 0, 0, .mac 7 [1] [2]⟩
def busy0 : Taken := { ring := 3, slot := 0, w0 := 0x20C0, tag := 0xFFFF, started := true, long := true, state := .running }

/-! ### Well-formedness: an ill-formed term for each check -/

/-- The commands that are no waybills: each bound, one past it, is refused. -/
theorem test_ill_formed_refused : (
  [.startStepComplete 0 done0, .startStepComplete 10 done0, .beaconReceive 5 0, .beaconLoss 5, .stepBeaconApply 5, .refEdge 8 0 0, .refEdge 0 0 2048, .refActivityLoss 12, .dpllTick [20], .qualTimerExpiry 12] ++
    [.apllLockWindow 3 0 0, .apllRefLoss 3 0, .apllReturnExpiry 2 0, .aoscAckReceive 256, .clkoutAlignCheck 4 0, .evtArm 16, .evtEdge 16, .capEdge 8 true 0 0, .capEdge 0 true 0 2048, .ticEdge 16 true 0 0, .ticEdge 0 true 0 2048] ++
    [.ticStopDecide 4, .ticGateClose 4, .statrunTimeout 4, .gnssElasticSlip 5, .gnssChannelLock 64, .gnssNavSync 64, .gnssPullinTimeout 64, .gnssLossOfLock 64, .gnssReacqTimeout 64, .signalBHandover 64 true] ++
    [.gnssSpectrum 2 [] 0 [], .navUnitDecoded 64 true [] none, .navUnitDecoded 0 true (List.replicate 21 0) none, .laneLoss 10 0 0, .laneLoss 0 6 0] ++
    [.laneDetectorRestore 10 0 0 [], .laneDetectorRestore 0 6 0 []] ++
    [.deskewTimeout 2, .plinkBitSlip 7 1, .plinkBitSlip 8 0, .plinkBitSlip 9 65, .plinkLockTimeout 10, .rateMatchEvent 10 0 0 none, .rateMatchEvent 0 0 32 none] ++
    [.rateMatchUnscheduled 10 0 0 none, .rateMatchUnscheduled 0 0 32 none] ++
    [.meterLock 10 true 0 0 0 0, .meterUnlock 10 true 0, .fecSecond 8 0 0, .frameReceive 8 frame0 ⟨0, 0⟩ false, .ptpScheduledMessage 2 0, .ptpScheduledMessage 0 9, .grantStreamMessage 0 9, .grantExpiry 0 1] ++
    [.slaveSyncMeasurement 2, .slaveDelayReqSend 2, .slaveGrantRenew 2, .slaveAnnounceTimeout 2, .slaveSyncTimeout 2, .zeroiseComplete 1024, .keystoreEccError 1024 true, .rotationActivate 1024, .rotationRetire 1024] ++
    [.mintStageExpiry 4, .leaseRelease 4194304, .leaseExpiry 4194304, .leaseReread 4194304 true, .eccUncorrectable 0x200000000, .waybillTake 4 [], .waybillTake 0 (List.replicate 65 0)] ++
    [.waybillStart 0 256, .waybillStart 2 4, .waybillStart 3 1, .waybillStart 4 0, .seqSafeclrWrite 65536, .dpllModeOpenWrite 2, .dpllModeOpenWrite 65537, .dpllModeCloseWrite 1, .dpllModeCloseWrite 65536, .dpllSelmanWrite 65536] ++
    [.lswLatchRead 7 0, .lswLatchRead 0 0x200000, .tbaseTimeRead 7, .rcFieldRead 7 0, .rcFieldRead 0 0x200000, .tbaseCapPop 7 0, .tbaseCapPop 0 8, .ticChPop 7 0, .ticChPop 0 16, .intcClaim 7 true, .intcComplete 7 true 0] ++
    [.fcolDomclrWrite 65536, .fcolCritLatchClear 65536, .hifRingDoorbell 7 0 0, .hifRingDoorbell 0 2 0, .hifRingEnable 7 0 0, .hifRingEnable 0 2 0, .hifQueueProdWrite 7 0 0 [], .hifQueueProdWrite 0 2 0 []] ++
    [.hifDmaStart 7 0, .hifDmaStart 0 2, .hifDmaAbort 7 0, .hifDmaAbort 0 2, .registerWrite 7 0 0 .whole, .registerWrite 0 0x200000 0 .whole, .pcieLinkTrain 0 1 true true, .pcieLinkTrain 5 1 true true, .pcieLinkTrain 1 3 true true] ++
    [.spiFrame [0, 0, 0] false, .spiFrame (List.replicate 2053 0) false, .consoleLine [256], .dmaComplete 2 0 false, .intcSourceEvent 0, .intcSourceEvent 256, .quietExpiry 4, .masterStall 32 0 [], .fenceForcedRelease 5] ++
    [.claimFrameReceive 0x100000000, .arbGntDecode 3, .heartbeatReceive 2 hb0 ⟨0, 0⟩, .grantMirrorReceive ⟨0, 0, 0, 0⟩ 3 0, .grantMirrorReceive ⟨0, 0, 0, 0⟩ 0 (2 ^ 128), .arbiterRequestChange 2 0, .arbiterRequestChange 0 3] ++
    [.linkFaultOrderedSets 10 true true, .signalBLoss 64, .modelReportStep 2 4] : List Instr).all (fun i => !i.wf) = true := by decide +kernel

/-- For every waybill: a slot that its ring does not have, flags beyond six bits, 61 parameter words are each refused. -/
theorem test_ill_formed_waybills_refused : (
  [.seqRestart, .seqCheckpoint, .seqSafeclear, .seqCfgsave, .seqStartreport, .psuRead, .rmonRefcfg, .rmonStatus, .rmonRequal, .rmonHistory] ++
    [.dpllLoopcfg, .dpllOpen, .dpllClose, .dpllSetfreq, .dpllLoopreport, .dpllPhlog, .dpllSelect, .dpllResolve, .dpllSelreport, .holdCfg] ++
    [.holdMembercfg, .holdAosccfg, .holdModelreport, .holdRetrain, .apllCfg, .apllRelock, .apllSpurscan, .apllReport, .tbaseSettime, .tbaseAuthstep] ++
    [.tbaseLeapcfg, .tbaseEvtsched, .tbaseEvtcancel, .tbaseCapread, .tbaseReport, .ticCfg, .ticChcfg, .ticMeascfg, .ticStatrun, .ticStatstop] ++
    [.ticStampread, .ticCalrun, .ticCalreport, .ticXtalreport, .gnssCfg, .gnssAcquire, .gnssAcqstop, .gnssPoscfg, .gnssObsread, .gnssNavread] ++
    [.gnssNfcal, .gnssNotchcfg, .gnssReport, .laneModeset, .laneLanecfg, .laneRestart, .laneReport, .mtsCfg, .mtsLanecfg, .mtsMeterreport] ++
    [.pktCfg, .pktLimitcfg, .pktAddrcfg, .pktPortcfg, .pktPtpcfg, .pktSlavecfg, .pktRefidcfg, .pktCountreport, .pktStampreport, .pktSlavereport] ++
    [.pktGrantclear, .pktSvcreport, .authCfg, .authKeyload, .authKeystate, .authZeroise, .authRotate, .authRotstop, .authCookiemint, .authKeyreport] ++
    [.authCountreport, .authSelftest, .authMintstage, .ctabCfg, .ctabLoad, .ctabSweep, .ctabDump, .ctabEntryread, .ctabLookup, .ctabMemreport] ++
    [.ebndCfg, .ebndRefunccfg, .ebndReport, .ebndPortreport, .ebndHistory, .mgmtEcho, .mgmtList, .mgmtCancel, .mgmtSuspend, .mgmtResume] ++
    [.mgmtAuditreport, .mgmtVersion, .mgmtCountreport, .hifCfg, .hifReport, .intcSrccfg, .intcReport, .fcolCfg, .fcolFirstread, .fcolAck] ++
    [.fcolLogread, .fcolClear, .fcolCountreport, .fcolLedgerdump, .fcolLedgerreport, .rdnCfg, .rdnRelease, .rdnReport] : List (WbHead → List Word → Instr)).all (fun f => (f h0 (List.replicate 60 0)).wf &&
      !(f ⟨2, 4, 0, 0⟩ []).wf && !(f ⟨4, 0, 0, 0⟩ []).wf && !(f ⟨0, 256, 0, 0⟩ []).wf && !(f ⟨3, 1, 0, 0⟩ []).wf && !(f ⟨2, 0, 0, 64⟩ []).wf &&
      !(f h0 (List.replicate 61 0)).wf) = true := by decide +kernel

/-! ### The spec's worked examples -/

/-- spec/00, forming an opcode: DPLL operation 2 with no flags. -/
theorem test_operation_word : (Instr.dpllClose ⟨0, 0, 0, 0⟩ []).waybill.map Prod.fst = some 0x1880 := by decide

/-- R361 by hand: the published check value of CRC-16/CCITT with initial value 0xFFFF over the digits 1 to 9.  The example of Table 14-10, 0xBB0E,
does not follow from R361 (log entry 17). -/
theorem test_waybill_crc : crc16 [0x31, 0x32, 0x33, 0x34, 0x35, 0x36, 0x37, 0x38, 0x39] = 0x29B1 := by decide +kernel

/-- spec/06, the NTP form of 1,893,456,037.25 s with UTCOFF 37. -/
theorem test_ntp_time : (State.reset.set F.TBASE_UTCOFF 37).ntpTime (1893456037250000000 * 2 ^ 48) = 0xF486570040000000 := by decide +kernel

/-- spec/04, the spur registers for NINT 39 and NFRAC 0x003EEA209AAA. -/
theorem test_spurs : spurs (39 * 2 ^ 48 + 0x003EEA209AAA) = [150, 0xFFFF, 150] := by decide +kernel

/-- spec/07, Table 7-3: an edge with code 2 at 400,000,000 ns is stamped at 399,999,999 ns and 4,080 ÷ 4,096. -/
theorem test_tic_stamp :
    let s : State := { State.reset with tic := { hits := List.replicate 64 [3900, 4350, 3760, 4182294] } }
    (s.set F.TBASE_INCR INCR0).stampOf 3 (400000000 * 2 ^ 48) 2 = 399999999 * 4096 + 4080 := by decide +kernel

/-- spec/08: the search for all GPS satellites needs 6,740 transforms and reports 2,236 after PRN 1, and 14,487 after PRN 7. -/
theorem test_search_progress :
    let j := mkJob none false (maskPrns 0xFFFFFFFF 32) 1 10 5000 0 150 true
    j.forward + j.total * j.perPrn = 6740 ∧ { j with done := 1 }.progress = 2236 ∧ { j with done := 7 }.progress = 14487 := by decide +kernel

/-- spec/08, the record of PRN 7. -/
theorem test_search_record : acqRecord false 0 7 true true ⟨174, 23415, 524544, 413⟩ = [0x0607, 0x00AE, 0x5B77, 0x0000, 0x0100, 0x0008, 0x019D] := by
  decide +kernel

/-- spec/09: one receive stamp, 400,001,236 ns and 352 ÷ 4,096; the edge of word k0 + 1,000, L_rx 5.9576 ns, bit 17 of 38.7874 ps, RXDLY 1,280. -/
theorem test_receive_stamp :
    rxStamp ⟨0, (400000000 * 10000 + 5000) * 2 ^ 48 / 10000, 12411967 * 2 ^ 48 / 10000000, []⟩ (59576 * 2 ^ 48 / 10000) 1280 ⟨1000, 17⟩ =
      (400001236 * 4096 + 352) * 2 ^ 36 := by decide +kernel

/-- spec/05, Table 5-3: B_hold after 86,400 s is 277.16 ns from B0 = 5.0 ns, and after 1000 s 8.00 ns. -/
theorem test_holdover_term :
    let m : List Int := [500000, 100000, 0, 0, 2000, 0]
    (5000 + holdTerm m 8000 1000 0 768 256 86400000 + 5) / 10 = 27716 ∧ (5000 + holdTerm m 8000 1000 0 768 256 1000000 + 5) / 10 = 800 := by
  decide +kernel

/-- spec/06, Table 6-2: TBASE_LASTSTEP after an authorised step of −2.5 ms. -/
theorem test_laststep_words : (State.reset.setI F.TBASE_LASTSTEP (-2500000 * 65536)).rdWords F.TBASE_LASTSTEP.addr 5 = [0x0000, 0xDA60, 0xFFD9, 0xFFFF, 0xFFFF] := by
  decide +kernel

/-- spec/13: an own bound of 38,788 ps rounds up to one unit of root dispersion; a common bound of 13,551 ps has clockAccuracy 0x20. -/
theorem test_bound_coding : rootDisp 38788 = 1 ∧ accuracyOf 13551 = 0x20 := by decide +kernel

/-- spec/16, Table 16-1: 145 and 32 are pending; the claim answers 32, and with 145 claimed next, 49 nests above it;
a completion of 145 before 49 empties the stack and leaves 49 pending again, with source 224. -/
theorem test_claim_order :
    let s : State := { State.reset with intc := { running := true } }
    let s := [(32, 12), (49, 10), (145, 6), (84, 3)].foldl (fun s p => (s.set (F.INTC_SRC_HCFG_PRIO p.1) p.2).setB (F.INTC_SRC_HCFG_EN p.1) true) s
    let a := ((s.raise 145).raise 32).claim false
    let b := (a.1.complete false 32).claim false
    let c := (b.1.raise 49).claim false
    let d := ((c.1.raise 84).complete false 145)
    a.2 = 32 ∧ b.2 = 145 ∧ c.2 = 49 ∧ c.1.intc.host.stack.map StackEnt.src = [49, 145] ∧ d.intc.host.stack = [] ∧ d.intc.host.pend = [49, 84, 224] := by
  decide +kernel

/-- spec/17, Table 17-8: words 0 and 1 of the first-error record of a refused take. -/
theorem test_first_error_words :
    let s := ((State.reset.setB F.TBASE_STAT_TIMESET true).set F.TBASE_BCNSTAT_VALID 8).setB (F.FCOL_CLS_CFG_CRIT 52) true
    (s.msgWords { src := 3, kind := 4 }).take 2 = [0x0403, 0x000C] := by decide +kernel

/-- spec/11, Table 11-9: the progress of the rotation accepted at TAI 1,893,456,000, after 3,600 s and after 90,000 s. -/
theorem test_rotation_progress :
    let r : Rotation := { rot0 with start := 1893456000, act := 1893459600, delay := 172800 }
    let at_ := fun t : Nat => { State.reset with tb := { State.reset.tb with time := (r.start + t) * SEC48 } }.rotProgress r
    at_ 3600 = 1337 ∧ at_ 90000 = 33436 := by decide +kernel

/-- spec/16, Table 16-4: INTC_SRC_MCFG and INTC_SRC_HCFG of a level source read LEVEL 1, those of an edge source 0. -/
theorem test_mcfg_level : (State.reset.get (F.INTC_SRC_MCFG 7), State.reset.get (F.INTC_SRC_MCFG 8)) = (32, 0) := by decide +kernel

/-! ### The published mechanisms (FIPS 197 appendix C.1, FIPS 180 example, RFC 4493 example 2) -/

theorem test_aes : aes (List.range 16) ((List.range 16).map (· * 17)) =
    [0x69, 0xC4, 0xE0, 0xD8, 0x6A, 0x7B, 0x04, 0x30, 0xD8, 0xCD, 0xB7, 0x80, 0x70, 0xB4, 0xC5, 0x5A] := by decide +kernel

theorem test_sha256 : beNum (sha256 [0x61, 0x62, 0x63]) = 0xBA7816BF8F01CFEA414140DE5DAE2223B00361A396177A9CB410FF61F20015AD := by decide +kernel

theorem test_cmac : beNum (cmac (beBytes 16 0x2B7E151628AED2A6ABF7158809CF4F3C) (beBytes 16 0x6BC1BEE22E409F96E93D7E117393172A)) =
    0x070A16B46B4D4144F79BDD9DD04A287C := by decide +kernel

/-! ### Witnesses: each clause's hypotheses are met by a concrete state -/

/-- The hypotheses of the clauses of Supervisor can be met. -/
theorem witness_Supervisor : [
    (let s := up; let s := { s with psu := { s.psu with sup := .normal } }; decide (s.psu.sup = .normal)),
    (let s := up; let s := { s with psu := { s.psu with sup := .warning } }; decide (s.psu.sup = .warning)),
    (let s := up; let s := { s with psu := { s.psu with sup := .normal } }; decide ((s.psu.sup = .normal ∨ s.psu.sup = .warning ∨ s.psu.sup = .start))),
    (let s := up; let s := { s with psu := { s.psu with sup := .off } }; decide ((s.psu.sup = .off ∨ s.psu.sup = .battery))),
    (let s := up; let s := { s with psu := { s.psu with sup := .start } }; decide (s.psu.sup = .start)),
    (let s := up; let s := { s with psu := { s.psu with vbatOk := true } }; decide (s.psu.vbatOk = true)),
    (let s := up; let s := { s with tb := { s.tb with counting := false } }; decide (s.tb.counting = false ∧ s.psu.sup ≠ .off))].all id = true := by decide +kernel

/-- The hypotheses of the clauses of RailExcursions can be met. -/
theorem witness_RailExcursions : [
    (let s := up; let s := { s with psu := { s.psu with railExc := false } }; decide (s.past 1 = true ∧ s.psu.railExc = false)),
    (let s := up; let s := { s with psu := { s.psu with tempExc := false } }; decide (s.past 1 = true ∧ s.psu.tempExc = false)),
    (let s := up; let s := { s with psu := { s.psu with railExc := true } }; decide (s.psu.railExc = true)),
    (let s := up; let s := { s with psu := { s.psu with tempExc := true } }; decide (s.psu.tempExc = true)),
    (let req : Nat := 1; let w : Word := 31; let s := up; decide (s.pathUp req = true ∧ s.mayWrite req = true ∧ w.toNat < 32))].all id = true := by decide +kernel

/-- The hypotheses of the clauses of ResetsAndCheckpoints can be met. -/
theorem witness_ResetsAndCheckpoints : [
    (let s := up; let s := { s with seq := { s.seq with rstLow := false } }; decide (s.seq.rstLow = false)),
    (let s := up; let s := { s with seq := { s.seq with rstWait := true } }; let s := { s with seq := { s.seq with ckptRun := false } };
      decide (s.seq.rstWait = true ∧ s.seq.ckptRun = false)),
    (let h : WbHead := h0; let s := up; let s := { s with seq := { s.seq with ckptRun := false } };
      readyB h s && decide (s.seq.ckptRun = false ∧ 100 ≤ s.seq.sinceCkpt)),
    (let h : WbHead := h0; let s := up; let s := { s with seq := { s.seq with ckptRun := true } }; readyB h s && decide (s.seq.ckptRun = true)),
    (let h : WbHead := h0; let s := up; let s := { s with seq := { s.seq with ckptRun := false } };
      let s := { s with seq := { s.seq with sinceCkpt := 99 } }; readyB h s && decide (2 ≤ h.ring ∧ s.seq.ckptRun = false ∧ s.seq.sinceCkpt < 100)),
    (let s := up; let s := { s with seq := { s.seq with ckptRun := true } }; let s := { s with seq := { s.seq with rstWait := false } };
      let s := { s with seq := { s.seq with deferredDue := false } };
      decide (s.seq.ckptRun = true ∧ s.seq.rstWait = false ∧ s.seq.deferredDue = false ∧ s.intc.running = true)),
    (let h : WbHead := h0; let s := up; let s := { s with seq := { s.seq with ckptRun := true } };
      let s := { s with seq := { s.seq with ckptWait := [h] } }; let s := { s with seq := { s.seq with rstWait := false } };
      let s := { s with seq := { s.seq with deferredDue := false } };
      decide (s.seq.ckptRun = true ∧ s.seq.ckptWait = [h] ∧ 2 ≤ h.ring ∧ (s.entryOf h).suspReqs = [] ∧ s.seq.rstWait = false ∧
      s.seq.deferredDue = false)),
    (let s := up; let s := { s with seq := { s.seq with ckptRun := true } }; let s := { s with seq := { s.seq with rstWait := true } };
      let s := { s with seq := { s.seq with rstLow := true } }; decide (s.seq.ckptRun = true ∧ s.seq.rstWait = true ∧ s.seq.rstLow = true))].all id = true := by decide +kernel

/-- The hypotheses of the clauses of Starts can be met. -/
theorem witness_Starts : [
    (let x : StepDone := { done0 with err := false }; let s := up; let s := { s with seq := { s.seq with st := .starting } };
      let s := { s with seq := { s.seq with step := 1 } }; decide (s.seq.st = .starting ∧ s.seq.step = 1 ∧ x.err = false)),
    (let x : StepDone := { done0 with err := false }; let s := up; let s := { s with seq := { s.seq with st := .starting } };
      let s := { s with seq := { s.seq with step := 2 } }; decide (s.seq.st = .starting ∧ s.seq.step = 2 ∧ x.err = false)),
    (let x : StepDone := { done0 with err := false }; let s := up; let s := { s with seq := { s.seq with st := .starting } };
      let s := { s with seq := { s.seq with step := 3 } };
      decide (s.seq.st = .starting ∧ s.seq.step = 3 ∧ x.err = false ∧ ((s.store.a.ok || s.store.b.ok) = true) ∧ s.seq.kind ≠ some .safe)),
    (let x : StepDone := { done0 with err := false }; let s := up; let s := { s with seq := { s.seq with st := .starting } };
      let s := { s with seq := { s.seq with step := 3 } }; let s := { s with seq := { s.seq with kind := some .safe } };
      decide (s.seq.st = .starting ∧ s.seq.step = 3 ∧ x.err = false ∧ ((s.store.a.ok || s.store.b.ok) = true) ∧ s.seq.kind = some .safe)),
    (let s := up; let s := { s with seq := { s.seq with st := .starting } }; let s := { s with seq := { s.seq with step := 3 } };
      let s := { s with store := { s.store with a := { ok := false }, b := { ok := false } } };
      decide (s.seq.st = .starting ∧ s.seq.step = 3 ∧ ((s.store.a.ok || s.store.b.ok) = false))),
    (let x : StepDone := { done0 with err := false }; let s := up; let s := { s with seq := { s.seq with st := .starting } };
      let s := { s with seq := { s.seq with step := 4 } }; decide (s.seq.st = .starting ∧ s.seq.step = 4 ∧ x.err = false)),
    (let x : StepDone := { done0 with hits := List.replicate 64 (List.replicate 1024 4096) }; let s := up;
      let s := { s with seq := { s.seq with st := .starting } }; let s := { s with seq := { s.seq with step := 5 } };
      decide (s.seq.st = .starting ∧ s.seq.step = 5 ∧ x.err = false ∧ (List.range 64).all (fun i => calPass (at' [] x.hits i)) = true)),
    (let x : StepDone := { done0 with err := false }; let i : Nat := 63; let s := up; let s := { s with seq := { s.seq with st := .starting } };
      let s := { s with seq := { s.seq with step := 5 } };
      decide (i < 64 ∧ s.seq.st = .starting ∧ s.seq.step = 5 ∧ x.err = false ∧ s.seq.kind ≠ some .warm ∧
      calPass (at' [] x.hits i) = false ∧ calPass (at' [] x.again i) = false)),
    (let x : StepDone := { done0 with err := false }; let s := up; let s := { s with seq := { s.seq with st := .starting } };
      let s := { s with seq := { s.seq with step := 6 } };
      let s : State := (List.range 3).foldl (fun s p => s.setB (F.APLL_PLL_LOCK_LOCKED p) true) s;
      decide (s.seq.st = .starting ∧ s.seq.step = 6 ∧ s.seq.kind ≠ some .warm ∧ s.pllsLocked = true ∧ x.err = false)),
    (let x : StepDone := { done0 with err := false }; let s := up; let s := { s with seq := { s.seq with st := .starting } };
      let s := { s with seq := { s.seq with step := 7 } }; decide (s.seq.st = .starting ∧ s.seq.step = 7 ∧ x.err = false)),
    (let x : StepDone := { done0 with err := true }; let n : Nat := 7; let s := up; let s := { s with seq := { s.seq with st := .starting } };
      let s := { s with seq := { s.seq with step := n } }; decide (1 ≤ n ∧ n ≤ 7 ∧ s.seq.st = .starting ∧ s.seq.step = n ∧ x.err = true)),
    (let n : Nat := 8; let s := up; let s := { s with seq := { s.seq with st := .running } }; decide ((n = 8 ∨ n = 9) ∧ s.seq.st = .running)),
    (let s := up; let s := { s with seq := { s.seq with st := .retry } }; let s := { s with psu := { s.psu with sup := .normal } };
      let s := { s with seq := { s.seq with rstLow := false } }; decide (s.seq.st = .retry ∧ s.psu.sup = .normal ∧ s.seq.rstLow = false)),
    (let s := up; let s := { s with seq := { s.seq with ckptRun := true } }; let s := { s with seq := { s.seq with deferred := some (4, false) } };
      decide (s.seq.deferred.isSome = true ∧ s.seq.ckptRun = true)),
    (let c : Nat := 1; let cold : Bool := true; let s := up; let s := { s with seq := { s.seq with deferred := some (c, cold) } };
      let s := { s with seq := { s.seq with ckptRun := false } }; let s := { s with seq := { s.seq with st := .running } };
      decide (s.seq.deferred = some (c, cold) ∧ s.seq.ckptRun = false ∧ (s.seq.st = .running ∨ s.seq.st = .safe)))].all id = true := by decide +kernel

/-- The hypotheses of the clauses of SeqWaybills can be met. -/
theorem witness_SeqWaybills : [
    (let h : WbHead := h0; let p : Word := 1; let s := up; readyB h s && decide (p.toNat < 2)),
    (let h : WbHead := h0; let p : Word := 2; let s := up; readyB h s && decide (2 ≤ p.toNat)),
    (let h : WbHead := h0; let s := up; let s := { s with seq := { s.seq with st := .safe } }; takesB h s && decide (h.flags < 8 ∧ s.seq.st = .safe)),
    (let h : WbHead := h0; let s := up; readyB h s && decide (s.seq.saving = none)),
    (let h : WbHead := h0; let c : CfgCopy := {}; let s := up; let s := { s with seq := { s.seq with saving := some (h, c, false) } };
      decide (s.intc.running = true ∧ s.seq.saving = some (h, c, false))),
    (let h : WbHead := h0; let c : CfgCopy := {}; let s := up; let s := { s with seq := { s.seq with saving := some (h, c, true) } };
      decide (s.intc.running = true ∧ s.canWrite h.ring h.slot = true ∧ s.seq.saving = some (h, c, true))),
    (let s := up; let s := { s with seq := { s.seq with st := .safe } }; decide (s.busUp 0 = true ∧ s.seq.st = .safe)),
    (let v : Word := 1; let s := up; decide (s.busUp 0 = true ∧ v.toNat ≠ 0xC1EA))].all id = true := by decide +kernel

/-- The hypotheses of the clauses of ReferenceMonitoring can be met. -/
theorem witness_ReferenceMonitoring : [
    (let n : Nat := 7; let s := up; let s := s.setB (F.RMON_REF_CFG_ENABLE n) true;
      decide (n < 8 ∧ s.refs.length = 12 ∧ s.on (F.RMON_REF_CFG_ENABLE n) = true ∧ s.past 6 = true)),
    (let n : Nat := 7; let s := up; let s := s.setB (F.RMON_REF_CFG_ENABLE n) false; decide (n < 8 ∧ s.on (F.RMON_REF_CFG_ENABLE n) = false)),
    (let n : Nat := 11; let s := up; let s := s.setB (F.RMON_REF_STATE_ACT n) true;
      decide (n < 12 ∧ s.on (F.RMON_REF_STATE_ACT n) = true ∧ s.past 6 = true ∧ s.intc.running = true)),
    (let n : Nat := 11; let s := up; let s := s.set (F.RMON_REF_STATE_STATE n) 2; let s := s.setB F.RMON_WITNESS_PVALID true;
      let s := s.setB (F.RMON_REF_STATE_FWOK n) true;
      decide (n < 12 ∧ s.qual n = 2 ∧ s.on F.RMON_WITNESS_PVALID = true ∧ s.on (F.RMON_REF_STATE_FWOK n) = true ∧ s.past 6 = true ∧
      s.intc.running = true ∧ (s.getI (F.RMON_REF_OFFSET n)).natAbs < s.get (F.RMON_REF_ACCEPT n))),
    (let n : Nat := 11; let s := up; let s := s.set (F.RMON_REF_STATE_STATE n) 3;
      decide (n < 12 ∧ s.refs.length = 12 ∧ s.past 6 = true ∧ 2 ≤ s.qual n)),
    (let n : Nat := 11; let s := up; let s := s.setB F.HOLD_STAT_NOENS false;
      decide (s.on F.TBASE_STAT_TIMESET = true ∧ s.on F.HOLD_STAT_NOENS = false ∧ s.past 6 = true ∧ n < 12)),
    (let s := up; let s := s.setB F.DPLL_SELSTAT_CONFLICT true; let s := s.setB F.DPLL_SELSTAT_HOSTWAIT false; let s := s.set F.HOLD_TRAINAGE 86399;
      decide (s.past 6 = true ∧ s.intc.running = true ∧ s.on F.DPLL_SELSTAT_CONFLICT = true ∧ s.on F.DPLL_SELSTAT_HOSTWAIT = false ∧
      s.get F.HOLD_TRAINAGE < 86400)),
    (let n : Nat := 11; let s := up; let s := s.setB F.DPLL_SELSTAT_CONFLICT true; let s := s.setB F.DPLL_SELSTAT_HOSTWAIT false;
      let s := s.set F.HOLD_TRAINAGE (86400); let s := s.setBit F.DPLL_SELCONF_MAP n true; let s := s.set (F.RMON_REF_STATE_STATE n) 3;
      decide (s.past 6 = true ∧ s.intc.running = true ∧ n < 12 ∧ s.on F.DPLL_SELSTAT_CONFLICT = true ∧
      s.on F.DPLL_SELSTAT_HOSTWAIT = false ∧ 86400 ≤ s.get F.HOLD_TRAINAGE ∧ s.bit F.DPLL_SELCONF_MAP n = true ∧ s.qual n = 3)),
    (let s := up; let s := s.setB F.DPLL_SELSTAT_CONFLICT false;
      decide (s.past 6 = true ∧ s.intc.running = true ∧ s.on F.DPLL_SELSTAT_CONFLICT = false))].all id = true := by decide +kernel

/-- The hypotheses of the clauses of ReferenceWaybills can be met. -/
theorem witness_ReferenceWaybills : [
    (let h : WbHead := h0; let n : Nat := 7; let cfg : Nat := 255; let fnom : Nat := 800000000; let qt : Nat := 65535; let acc : Nat := 1;
      let rej : Nat := 4294967295; let sl : Nat := 65535; let fw : Nat := 65535; let dl : Nat := 4294967295; let s := up;
      readyB h s && decide (n < 8 ∧ cfg < 256 ∧ 1 ≤ fnom ∧ fnom ≤ 800000000 ∧ 1 ≤ qt ∧ qt < 65536 ∧ acc < rej ∧ rej < 4294967296 ∧
      sl < 65536 ∧ 1 ≤ fw ∧ fw < 65536 ∧ dl < 4294967296)),
    (let h : WbHead := h0; let n : Nat := 11; let k : Nat := 65535; let s := up;
      readyB h s && decide (n < 12 ∧ k < 65536 ∧ k ≠ s.get (F.RMON_REF_GEN n))),
    (let h : WbHead := h0; let n : Nat := 11; let k : Nat := 999; let m : Nat := 64; let s := up; readyB h s && decide (n < 12 ∧ k ≤ 999 ∧ m ≤ 64)),
    (let h : WbHead := h0; let k : Nat := 31; let s := up; readyB h s && decide (k < 32)),
    (let h : WbHead := h0; let n : Nat := 11; let s := up; let s := s.setB F.DPLL_SELSTAT_CONFLICT true; let s := s.set (F.RMON_REF_STATE_STATE n) 3;
      let s := s.setBit F.DPLL_SELCONF_MAP n true;
      readyB h s && decide (n < 12 ∧ s.on F.DPLL_SELSTAT_CONFLICT = true ∧ s.qual n = 3 ∧ s.bit F.DPLL_SELCONF_MAP n = true)),
    (let h : WbHead := h0; let n : Nat := 11; let s := up; let s := s.setB F.DPLL_SELSTAT_CONFLICT false;
      readyB h s && decide (n < 12 ∧ s.on F.DPLL_SELSTAT_CONFLICT = false))].all id = true := by decide +kernel

/-- The hypotheses of the clauses of LoopTicksAndRequests can be met. -/
theorem witness_LoopTicksAndRequests : [
    (let s := up; decide (s.past 6 = true)),
    (let s := up; let s := s.setB F.DPLL_STAT_SLEWING true;
      decide (s.on F.DPLL_STAT_SLEWING = true ∧ s.past 6 = true ∧ s.dpll.slewRem.natAbs ≤ s.dpll.slewNow)),
    (let s := up; let s := s.setB F.DPLL_STAT_PHVALID true; let s := { s with dpll := { s.dpll with lockMs := 10000 } };
      decide (s.past 6 = true ∧ s.on F.DPLL_STAT_PHVALID = true ∧ 10000 ≤ s.dpll.lockMs ∧ (s.getI F.DPLL_PHERR).natAbs < s.get F.DPLL_LOCKTHR * 100)),
    (let h : WbHead := h0; let v : Nat := 1; let s := up; readyB h s && decide (v < 2)),
    (let h : WbHead := h0; let f : Nat := 281474976710655; let s := up; let s := s.set F.DPLL_STAT_MODE 4;
      readyB h s && decide (s.mode = 4 ∧ f < 2 ^ 48)),
    (let h : WbHead := h0; let s := up; let s := s.set F.DPLL_STAT_MODE 3; readyB h s && decide (s.mode ≠ 4)),
    (let h : WbHead := h0; let k : Nat := 1023; let v : Nat := 64; let s := up; readyB h s && decide (k ≤ 1023 ∧ v ≤ 64)),
    (let s := up; let s := s.set F.DPLL_STAT_MODE 4; decide (s.busUp 3 = true ∧ s.mode = 4)),
    (let s := up; let s := s.set F.DPLL_STAT_MODE 3; decide (s.busUp 3 = true ∧ s.mode ≠ 4)),
    (let k : Nat := 9; let s := up; decide (s.busUp 3 = true ∧ k < 10))].all id = true := by decide +kernel

/-- The hypotheses of the clauses of SynthesisEvents can be met. -/
theorem witness_SynthesisEvents : [
    (let p : Nat := 2; let s := up; let s := s.setB (F.APLL_PLL_LOCK_REFACT p) false;
      decide (p < 3 ∧ s.past 5 = true ∧ s.apll.runs.length = 3 ∧ s.intc.running = true ∧ s.on (F.APLL_PLL_LOCK_REFACT p) = false)),
    (let p : Nat := 2; let c : Nat := 1; let s := up; let s := s.setB (F.APLL_PLL_LOCK_REFACT p) true; let s := s.setB (F.APLL_PLL_CFG_ENABLE p) true;
      let s := s.setB (F.APLL_PLL_LOCK_LOCKED p) true;
      decide (p < 3 ∧ s.past 5 = true ∧ s.apll.runs.length = 3 ∧ s.intc.running = true ∧ s.on (F.APLL_PLL_LOCK_REFACT p) = true ∧
      s.on (F.APLL_PLL_CFG_ENABLE p) = true ∧ s.on (F.APLL_PLL_LOCK_LOCKED p) = true ∧ s.within p c (s.get (F.APLL_PLL_LOCKCFG_UNLOCKTOL p)) = false)),
    (let p : Nat := 2; let c : Nat := 1048576; let s := up; let s := s.setB (F.APLL_PLL_LOCK_REFACT p) true;
      let s := s.setB (F.APLL_PLL_CFG_ENABLE p) true; let s := s.setB (F.APLL_PLL_LOCK_LOCKED p) false;
      let s := s.set (F.APLL_PLL_LOCKCFG_LOCKWIN p) 1; let s := s.set (F.APLL_PLL_NINT p) 0; let s := s.set (F.APLL_PLL_NFRAC p) 0;
      let s := s.set (F.APLL_PLL_NINT p) 16;
      decide (p < 3 ∧ s.past 5 = true ∧ s.apll.runs.length = 3 ∧ s.intc.running = true ∧ s.on (F.APLL_PLL_LOCK_REFACT p) = true ∧
      s.on (F.APLL_PLL_CFG_ENABLE p) = true ∧ s.on (F.APLL_PLL_LOCK_LOCKED p) = false ∧
      s.within p c (s.get (F.APLL_PLL_LOCKCFG_LOCKTOL p)) = true ∧ s.get (F.APLL_PLL_LOCKCFG_LOCKWIN p) ≤ s.apll.runs.getD p 0 + 1)),
    (let p : Nat := 2; let c : Nat := 1; let s := up; let s := s.setB (F.APLL_PLL_LOCK_REFACT p) true; let s := s.setB (F.APLL_PLL_CFG_ENABLE p) true;
      let s := s.setB (F.APLL_PLL_LOCK_LOCKED p) false;
      decide (p < 3 ∧ s.past 5 = true ∧ s.apll.runs.length = 3 ∧ s.intc.running = true ∧ s.on (F.APLL_PLL_LOCK_REFACT p) = true ∧
      s.on (F.APLL_PLL_CFG_ENABLE p) = true ∧ s.on (F.APLL_PLL_LOCK_LOCKED p) = false ∧ s.within p c (s.get (F.APLL_PLL_LOCKCFG_LOCKTOL p)) = false)),
    (let p : Nat := 1; let s := up; let s := s.setB (F.APLL_PLL_LOCK_LOCKED p) true; let s := s.setB (F.APLL_PLL_LOCK_BYPASS p) true;
      decide (p < 3 ∧ s.past 5 = true ∧ s.apll.runs.length = 3 ∧ s.intc.running = true ∧ p < 2 ∧
      s.on (F.APLL_PLL_LOCK_LOCKED p) = true ∧ s.on (F.APLL_PLL_LOCK_BYPASS p) = true)),
    (let p : Nat := 2; let s := up; let s := s.setB (F.APLL_PLL_LOCK_LOCKED 2) true;
      decide (p < 3 ∧ s.past 5 = true ∧ s.apll.runs.length = 3 ∧ s.intc.running = true ∧ s.on (F.APLL_PLL_LOCK_LOCKED 2) = true)),
    (let p : Nat := 2; let s := up; let s := s.setB F.APLL_BYPSTAT_XTALOK true;
      decide (p < 3 ∧ s.past 5 = true ∧ s.apll.runs.length = 3 ∧ s.intc.running = true ∧ s.on F.APLL_BYPSTAT_XTALOK = true))].all id = true := by decide +kernel

/-- The hypotheses of the clauses of LoopAndSynthesisWaybills can be met. -/
theorem witness_LoopAndSynthesisWaybills : [
    (let h : WbHead := h0; let g : Nat := 65535; let m : Nat := 1; let bw : Nat := 10000000; let sl : Nat := 65535; let pl : Nat := 2000;
      let th : Nat := 65535; let s := up;
      readyB h s && decide (g < 65536 ∧ m < 64 ∧ m / 4 % 8 ≤ 4 ∧ 10 ≤ bw ∧ bw ≤ 10000000 ∧ 1 ≤ sl ∧ sl < 65536 ∧ 1 ≤ pl ∧ pl ≤ 2000 ∧ th < 65536)),
    (let h : WbHead := h0; let p : Nat := 2; let g : Nat := 65535; let s := up;
      readyB h s && decide (p < 3 ∧ g < 65536 ∧ g ≠ s.get (F.APLL_PLL_GEN p))),
    (let h : WbHead := h0; let p : Nat := 2; let g : Nat := 65535; let cf : Nat := 62; let ni : Nat := 1023; let nf : Nat := 281474976710655;
      let pd : Nat := 255; let lk : Nat := 15; let lw : Nat := 15; let ut : Nat := 63; let rt : Nat := 65535; let s := up;
      let s := s.set (F.APLL_PLL_GEN p) g;
      readyB h s && decide (p < 3 ∧ g < 65536 ∧ g = s.get (F.APLL_PLL_GEN p) ∧ cf < 64 ∧ cf % 4 ≤ (if p = 2 then 2 else 1) ∧ 16 ≤ ni ∧
      ni < 1024 ∧ nf < 2 ^ 48 ∧ (p < 2 → nf = 0) ∧ 8 ≤ pd ∧ pd < 256 ∧ 1 ≤ lk ∧ lk < 16 ∧ lk < ut ∧ ut < 64 ∧ 1 ≤ lw ∧ lw < 16 ∧ 1 ≤ rt ∧ rt < 65536)),
    (let h : WbHead := h0; let f : Nat := 6400000; let s := up; readyB h s && decide (5600000 ≤ f ∧ f ≤ 6400000))].all id = true := by decide +kernel

/-- The hypotheses of the clauses of EnsembleSecond can be met. -/
theorem witness_EnsembleSecond : [
    (let tj : Int := 32767; let s := up; decide (s.past 6 = true ∧ -32768 ≤ tj ∧ tj < 32768 ∧ s.refs.length = 12))].all id = true := by decide +kernel

/-- The hypotheses of the clauses of HoldoverAndSteering can be met. -/
theorem witness_HoldoverAndSteering : [
    (let s := up; decide (s.past 7 = true ∧ s.intc.running = true)),
    (let s := up; let s := s.set F.HOLD_TRAINAGE 86399; let s := { s with hold := { s.hold with weights := [(0, 65536)] } };
      let s := s.set (F.RMON_REF_STATE_STATE 0) 3; let s := s.set F.APLL_AOSCFREQ 1; let s := { s with apll := { s.apll with aoscAct := true } };
      decide (s.past 6 = true ∧ s.intc.running = true ∧ s.get F.HOLD_TRAINAGE = 86399 ∧ s.slotPresent s.hosc = true ∧
      s.hold.weights.any (fun p => p.1 < 12 && p.2 ≠ 0 && s.qual p.1 = 3) = true)),
    (let s := up; let s := s.setB F.HOLD_STAT_FROZEN true; let s := { s with hold := { s.hold with settled := true } };
      let s := s.set F.DPLL_SELSTAT_ACTIVE 11; let s := { s with dpll := { s.dpll with selMs := 10 ^ 9 } };
      decide (s.past 6 = true ∧ s.on F.HOLD_STAT_FROZEN = true ∧ s.hold.settled = true ∧ s.active < 12 ∧ s.get F.HOLD_CONTRACT * 1000 ≤ s.dpll.selMs)),
    (let h : WbHead := h0; let g : Nat := 1; let s := up; let s := s.set F.HOLD_GEN g; let s := s.setB F.HOLD_STAT_HOLDOVER false;
      readyB h s && decide (g = s.get F.HOLD_GEN ∧ s.on F.HOLD_STAT_HOLDOVER = false)),
    (let h : WbHead := h0; let g : Nat := 1; let s := up; let s := s.set F.HOLD_GEN g; let s := s.setB F.HOLD_STAT_HOLDOVER true;
      readyB h s && decide (g = s.get F.HOLD_GEN ∧ s.on F.HOLD_STAT_HOLDOVER = true)),
    (let h : WbHead := h0; let g : Nat := 65535; let s := up; readyB h s && decide (g < 65536 ∧ g ≠ s.get F.HOLD_GEN)),
    (let s := up; let s := s.set F.HOLD_AOSC_CFG_MODE 0; decide (s.past 6 = true ∧ s.intc.running = true ∧ s.get F.HOLD_AOSC_CFG_MODE = 0)),
    (let s := up; let s := s.set F.HOLD_AOSC_CFG_MODE 1; let s := s.setB F.HOLD_STAT_HOLDOVER true;
      decide (s.past 6 = true ∧ s.intc.running = true ∧ s.get F.HOLD_AOSC_CFG_MODE ≠ 0 ∧
      (s.on F.HOLD_STAT_HOLDOVER = true ∨ s.active < 12 ∧ ((s.scale 12).hfOf 12).isSome = true))),
    (let dy : Int := 1; let r : List Int := []; let s := up; let s := { s with hold := { s.hold with steers := dy :: r } };
      decide (s.past 6 = true ∧ s.intc.running = true ∧ s.hold.steers = dy :: r)),
    (let b : Nat := 1; let s := up; let s := s.set F.HOLD_AOSC_ACK b; decide (s.past 6 = true ∧ s.intc.running = true ∧ b = s.get F.HOLD_AOSC_ACK)),
    (let s := up; let s := { s with hold := { s.hold with ackWait := some false } };
      decide (s.past 6 = true ∧ s.intc.running = true ∧ s.hold.ackWait = some false)),
    (let s := up; let s := { s with hold := { s.hold with ackWait := some true } };
      decide (s.past 6 = true ∧ s.intc.running = true ∧ s.hold.ackWait = some true))].all id = true := by decide +kernel

/-- The hypotheses of the clauses of HoldWaybills can be met. -/
theorem witness_HoldWaybills : [
    (let h : WbHead := h0; let n : Nat := 256; let m : Nat := 65535; let s := up; readyB h s && decide (1 ≤ n ∧ n ≤ 256 ∧ 1 ≤ m ∧ m < 65536)),
    (let h : WbHead := h0; let n : Nat := 256; let m : Nat := 1; let r : List Word := []; let s := up;
      let s := { s with mgmt := { s.mgmt with taken := [{ taken0 with started := true, long := true, state := .running }] } };
      let s := { s with hold := { s.hold with reports := [(h, n, m, n - 1, r)] } };
      decide (s.past 7 = true ∧ s.canWrite h.ring h.slot = true ∧ s.running h = true ∧ s.hold.reports = [(h, n, m, n - 1, r)] ∧ 1 ≤ n)),
    (let h : WbHead := h0; let n : Nat := 2; let m : Nat := 1; let r : List Word := []; let k : Nat := 0; let s := up;
      let s := { s with mgmt := { s.mgmt with taken := [{ taken0 with started := true, long := true, state := .running }] } };
      let s := { s with hold := { s.hold with reports := [(h, n, m, k, r)] } };
      decide (s.past 7 = true ∧ s.canWrite h.ring h.slot = true ∧ s.running h = true ∧ s.hold.reports = [(h, n, m, k, r)] ∧ k + 1 < n ∧
      ((s.takenAt h.ring h.slot).any (fun e => e.stopReq || !e.suspReqs.isEmpty) = false))),
    (let h : WbHead := h0; let hosc : Nat := 2; let ts : Nat := 2; let tau : Nat := 10000; let cov : Nat := 4096; let sl : Nat := 1000000000;
      let jt : Nat := 1000000000; let wm : Nat := 65535; let ct : Nat := 65535; let s := up;
      readyB h s && decide (hosc ≤ 2 ∧ ts ≤ 2 ∧ 100 ≤ tau ∧ tau ≤ 10000 ∧ 256 ≤ cov ∧ cov ≤ 4096 ∧ 1 ≤ sl ∧ sl ≤ 1000000000 ∧ 10 ≤ jt ∧
      jt ≤ 1000000000 ∧ wm < 65536 ∧ 1 ≤ ct ∧ ct < 65536)),
    (let h : WbHead := h0; let n : Nat := 7; let src : Nat := 15; let pr : Nat := 4294967295; let s := up;
      readyB h s && decide (2 ≤ n ∧ n ≤ 7 ∧ src = 15 ∧ pr < 4294967296)),
    (let h : WbHead := h0; let cf : Nat := 65534; let ak : Nat := 255; let di : Nat := 1048575; let slope : Nat := 4294967295;
      let un : Nat := 4294967295; let si : Nat := 3600; let sm : Nat := 65535; let s := up;
      readyB h s && decide (cf < 65536 ∧ cf % 4 ≤ 2 ∧ 7 ≤ cf / 1024 ∧ ak < 256 ∧ di < 1048576 ∧ slope < 4294967296 ∧ un < 4294967296 ∧
      1 ≤ si ∧ si ≤ 3600 ∧ sm < 65536))].all id = true := by decide +kernel

/-- The hypotheses of the clauses of TimeAndBeacons can be met. -/
theorem witness_TimeAndBeacons : [
    (let s := up; let s := s.set F.TBASE_LEAP 0; decide (s.past 6 = true ∧ s.tb.counting = true ∧ s.get F.TBASE_LEAP = 0)),
    (let s := up; let s := { s with tb := { s.tb with counting := false } }; decide (s.past 6 = true ∧ s.tb.counting = false)),
    (let u : Nat := 2; let s := up; let s := s.set F.TBASE_LEAP u;
      decide (s.past 6 = true ∧ s.intc.running = true ∧ s.get F.TBASE_LEAP = u ∧ 1 ≤ u ∧ u ≤ 2 ∧ s.get F.TBASE_LEAPSEC ≤ s.tb.time / SEC48)),
    (let s := up; let s := s.set F.TBASE_LEAP 0; decide (s.past 6 = true ∧ (s.get F.TBASE_LEAP = 0 ∨ s.tb.time / SEC48 < s.get F.TBASE_LEAPSEC))),
    (let i : Nat := 4; let s := up;
      let s : State := { s with tb := { s.tb with islands := modAt s.tb.islands i (fun y => { y with flight := some { time := 1, rate := 2 } }) } };
      decide (s.past 6 = true ∧ i < 5 ∧ s.tb.islands.length = 5 ∧ s.intc.running = true ∧ (at' {} s.tb.islands i).flight.isSome = true)),
    (let i : Nat := 4; let s := up;
      let s : State := { s with tb := { s.tb with islands := modAt s.tb.islands i (fun y => { y with lost := true }) } };
      let s : State := { s with tb := { s.tb with islands := modAt s.tb.islands i (fun y => { y with flight := some { time := 1, rate := 2 } }) } };
      decide (s.past 6 = true ∧ i < 5 ∧ s.tb.islands.length = 5 ∧ s.intc.running = true ∧ (at' {} s.tb.islands i).lost = true)),
    (let i : Nat := 4; let s := up;
      let s : State := { s with tb := { s.tb with islands := modAt s.tb.islands i (fun y => { y with lost := false }) } };
      let s : State := { s with tb := { s.tb with islands := modAt s.tb.islands i (fun y => { y with flight := some { time := 1, rate := 2 } }) } };
      decide (s.past 6 = true ∧ i < 5 ∧ s.tb.islands.length = 5 ∧ s.intc.running = true ∧ (at' {} s.tb.islands i).lost = false)),
    (let i : Nat := 4; let d : Int := 1; let ts : Nat := 1; let s := up;
      let s : State := { s with tb := { s.tb with islands := modAt s.tb.islands i (fun y => { y with step := some (d, ts) }) } };
      decide (s.past 6 = true ∧ i < 5 ∧ s.tb.islands.length = 5 ∧ s.intc.running = true ∧ (at' {} s.tb.islands i).step = some (d, ts) ∧
      (at' {} s.tb.islands i).local i s.tb.ticks < ts)),
    (let i : Nat := 4; let d : Int := 1; let ts : Nat := 0; let s := up;
      let s : State := { s with tb := { s.tb with islands := modAt s.tb.islands i (fun y => { y with step := some (d, ts) }) } };
      decide (s.past 6 = true ∧ i < 5 ∧ s.tb.islands.length = 5 ∧ s.intc.running = true ∧ (at' {} s.tb.islands i).step = some (d, ts) ∧
      ts ≤ (at' {} s.tb.islands i).local i s.tb.ticks))].all id = true := by decide +kernel

/-- The hypotheses of the clauses of OutputsAndCaptures can be met. -/
theorem witness_OutputsAndCaptures : [
    (let s := up; let s := { s with tb := { s.tb with pps := { s.tb.pps with last := some 5 } } };
      decide (s.past 6 = true ∧ s.intc.running = true ∧ s.tb.pps.last.any (fun k => s.tb.ticks < k + 312500000) = true)),
    (let s := up; decide (s.past 6 = true ∧ s.intc.running = true ∧ s.tb.pps.last.any (fun k => s.tb.ticks < k + 312500000) = false)),
    (let n : Nat := 3; let ps : Int := 2147483647; let s := up; let s := s.setB (F.TBASE_CLK_CFG_EN n) true;
      let s := s.setB (F.TBASE_CLK_CFG_ALIGN n) true; let s := s.setB (F.APLL_PLL_LOCK_SQUELCH 2) false;
      decide (s.past 6 = true ∧ s.intc.running = true ∧ n < 4 ∧ s.tb.realign.length = 4 ∧ s.tb.interp.length = 4 ∧ -2147483648 ≤ ps ∧
      ps < 2147483648 ∧ s.on (F.TBASE_CLK_CFG_EN n) = true ∧ s.on (F.TBASE_CLK_CFG_ALIGN n) = true ∧
      s.on (F.APLL_PLL_LOCK_SQUELCH 2) = false ∧ s.clkWaits n = false)),
    (let n : Nat := 1; let s := up; let s := s.setB (F.TBASE_CLK_CFG_EN n) false;
      let s := { s with tb := { s.tb with pps := { s.tb.pps with last := some 5 } } }; decide (s.past 6 = true ∧ s.intc.running = true ∧
      (s.on (F.TBASE_CLK_CFG_EN n) = false ∨ s.on (F.TBASE_CLK_CFG_ALIGN n) = false ∨ s.on (F.APLL_PLL_LOCK_SQUELCH 2) = true ∨ s.clkWaits n = true))),
    (let n : Nat := 15; let e : EvtEntry := ⟨10 ^ 30, 0, 1, 4, false, 0, 0⟩; let q : List EvtEntry := []; let s := up;
      let s : State := { s with tb := { s.tb with evts := modAt s.tb.evts n (fun y => { y with queue := e :: q }) } };
      let s : State := { s with tb := { s.tb with evts := modAt s.tb.evts n (fun y => { y with cur := none }) } };
      decide (s.past 6 = true ∧ n < 16 ∧ s.tb.evts.length = 16 ∧ s.intc.running = true ∧ (s.evt n).queue = e :: q ∧
      (s.evt n).cur = none ∧ s.tb.time + 8 * s.get F.TBASE_INCR ≤ e.next ∧ 0 < e.count - e.k)),
    (let n : Nat := 15; let e : EvtEntry := ⟨1, 0, 1, 4, false, 0, 0⟩; let q : List EvtEntry := []; let s := up;
      let s : State := { s with tb := { s.tb with evts := modAt s.tb.evts n (fun y => { y with queue := e :: q }) } };
      let s : State := { s with tb := { s.tb with evts := modAt s.tb.evts n (fun y => { y with cur := none }) } };
      decide (s.past 6 = true ∧ n < 16 ∧ s.tb.evts.length = 16 ∧ s.intc.running = true ∧ (s.evt n).queue = e :: q ∧
      (s.evt n).cur = none ∧ e.next < s.tb.time + 8 * s.get F.TBASE_INCR ∧ (e.cont = true ∨ e.k < e.count))),
    (let n : Nat := 15; let e' : EvtEntry := ⟨1, 65536, 3, 4, false, 1, 1⟩; let s := up;
      let s : State := { s with tb := { s.tb with evts := modAt s.tb.evts n (fun y => { y with cur := some e' }) } };
      decide (s.past 6 = true ∧ n < 16 ∧ s.tb.evts.length = 16 ∧ s.intc.running = true ∧ (s.evt n).cur = some e' ∧
      (e'.cont = true ∨ e'.k + 1 < e'.count))),
    (let n : Nat := 15; let e' : EvtEntry := ⟨1, 65536, 3, 4, false, 2, 2⟩; let s := up;
      let s : State := { s with tb := { s.tb with evts := modAt s.tb.evts n (fun y => { y with cur := some e' }) } };
      decide (s.past 6 = true ∧ n < 16 ∧ s.tb.evts.length = 16 ∧ s.intc.running = true ∧ (s.evt n).cur = some e' ∧ e'.cont = false ∧
      e'.count ≤ e'.k + 1)),
    (let n : Nat := 7; let tick : Nat := 1; let c : Nat := 1; let r : Bool := true; let s := up;
      let s := s.setBit (F.TBASE_CAP_CFG_EDGE n) (if r then 0 else 1) false; let x : Nat := s.edgeAt 32 (24 + n) tick c;
      decide (s.past 6 = true ∧ n < 8 ∧ s.tb.caps.length = 8 ∧ s.intc.running = true ∧ s.tb.load = none ∧
      s.edgeAt 32 (24 + n) tick c = x ∧ s.bit (F.TBASE_CAP_CFG_EDGE n) (if r then 0 else 1) = false)),
    (let n : Nat := 7; let tick : Nat := 1; let c : Nat := 1; let r : Bool := true; let s := up;
      let s := s.setBit (F.TBASE_CAP_CFG_EDGE n) (if r then 0 else 1) true;
      let s : State := { s with tb := { s.tb with caps := modAt s.tb.caps n (fun y => { y with last := some (s.edgeAt 32 (24 + n) tick c) }) } };
      let x : Nat := s.edgeAt 32 (24 + n) tick c; decide (s.past 6 = true ∧ n < 8 ∧ s.tb.caps.length = 8 ∧ s.intc.running = true ∧ s.tb.load = none ∧
      s.edgeAt 32 (24 + n) tick c = x ∧ s.bit (F.TBASE_CAP_CFG_EDGE n) (if r then 0 else 1) = true ∧
      (s.cap n).last.any (fun l => l ≤ x && x < l + capDead) = true)),
    (let n : Nat := 7; let tick : Nat := 1; let c : Nat := 1; let r : Bool := true; let s := up;
      let s := s.setBit (F.TBASE_CAP_CFG_EDGE n) (if r then 0 else 1) true; let x : Nat := s.edgeAt 32 (24 + n) tick c;
      decide (s.past 6 = true ∧ n < 8 ∧ s.tb.caps.length = 8 ∧ s.intc.running = true ∧ s.tb.load = none ∧
      s.edgeAt 32 (24 + n) tick c = x ∧ s.bit (F.TBASE_CAP_CFG_EDGE n) (if r then 0 else 1) = true ∧
      (s.cap n).last.any (fun l => l ≤ x && x < l + capDead) = false ∧ (s.cap n).fifo.length < 256)),
    (let n : Nat := 7; let tick : Nat := 1; let c : Nat := 1; let r : Bool := true; let s := up;
      let s := s.setBit (F.TBASE_CAP_CFG_EDGE n) (if r then 0 else 1) true;
      let s : State := { s with tb := { s.tb with caps := modAt s.tb.caps n (fun y => { y with fifo := List.replicate 256 ⟨7, true, false, true, 0⟩ }) } };
      let x : Nat := s.edgeAt 32 (24 + n) tick c; decide (s.past 6 = true ∧ n < 8 ∧ s.tb.caps.length = 8 ∧ s.intc.running = true ∧ s.tb.load = none ∧
      s.edgeAt 32 (24 + n) tick c = x ∧ s.bit (F.TBASE_CAP_CFG_EDGE n) (if r then 0 else 1) = true ∧
      (s.cap n).last.any (fun l => l ≤ x && x < l + capDead) = false ∧ 256 ≤ (s.cap n).fifo.length))].all id = true := by decide +kernel

/-- The hypotheses of the clauses of SettingTime can be met. -/
theorem witness_SettingTime : [
    (let l : Load := { load0 with ts := some 9, src := 3 }; let s := up; let s := { s with tb := { s.tb with load := some l } };
      let s := s.setB F.TBASE_STAT_TIMESET false; let s := { s with tb := { s.tb with time := 9 } };
      decide (s.tb.load = some l ∧ s.past 7 = true ∧ l.ts.any (fun x => x ≤ s.tb.time) = true ∧ s.on F.TBASE_STAT_TIMESET = false ∧
      l.src < 4 ∧ s.intc.running = true ∧ (l.wb = none ∨ l.gen.all (fun g => s.get F.TBASE_GEN = g) = true))),
    (let l : Load := load0; let s := up; let s := { s with tb := { s.tb with load := some l } };
      decide (s.tb.load = some l ∧ l.ts.any (fun x => x ≤ s.tb.time) = false)),
    (let w : WbHead := h0; let l : Load := { load0 with ts := some 9, gen := some 7, wb := some w }; let s := up;
      let s := { s with tb := { s.tb with load := some l } }; let s := s.setB F.TBASE_STAT_TIMESET false;
      let s := { s with tb := { s.tb with time := 9 } };
      decide (s.tb.load = some l ∧ s.past 7 = true ∧ l.ts.any (fun x => x ≤ s.tb.time) = true ∧ s.on F.TBASE_STAT_TIMESET = false ∧
      l.wb = some w ∧ l.gen.any (fun g => s.get F.TBASE_GEN ≠ g) = true ∧ s.canWrite w.ring w.slot = true)),
    (let h : WbHead := h0; let ns : Nat := 999999999; let s := up; readyB h s && decide (s.on F.TBASE_STAT_TIMESET = true ∧ ns < 1000000000)),
    (let h : WbHead := h0; let sec : Nat := 18446744073709551615; let ns : Nat := 999999999; let u : Nat := 4294967295; let s := up;
      let s := s.setB F.TBASE_STAT_TIMESET false;
      readyB h s && decide (s.on F.TBASE_STAT_TIMESET = false ∧ s.tb.load = none ∧ ns < 1000000000 ∧ sec < 2 ^ 64 ∧ u < 2 ^ 32)),
    (let h : WbHead := h0; let sec : Nat := 18446744073709551615; let ns : Nat := 4294967295; let u : Nat := 4294967295; let c : Nat := 7;
      let s := up; let s := s.setB F.TBASE_STAT_TIMESET false;
      readyB h s && decide (s.on F.TBASE_STAT_TIMESET = false ∧ s.tb.load = none ∧ ns < 2 ^ 32 ∧ c < 8 ∧ sec < 2 ^ 64 ∧ u < 2 ^ 32)),
    (let w : WbHead := h0; let l : Load := { load0 with wb := some w, src := 2, mode := 1, edge := none }; let s := up;
      let s := { s with tb := { s.tb with load := some l } };
      decide (s.tb.load = some l ∧ l.wb = some w ∧ l.src = 2 ∧ l.mode = 1 ∧ l.edge = none ∧ s.canWrite w.ring w.slot = true)),
    (let h : WbHead := h0; let hs : Nat := 1; let s := up; let s := s.set F.TBASE_HELD hs; let s := s.set F.DPLL_STAT_MODE 2;
      readyB h s && decide (s.get F.TBASE_HELD = hs ∧ s.mode = 2 ∧ s.tb.astep = none)),
    (let h : WbHead := h0; let hs : Nat := 1; let s := up; let s := s.set F.TBASE_HELD hs; let s := s.set F.DPLL_STAT_MODE 1;
      readyB h s && decide (s.get F.TBASE_HELD = hs ∧ (s.mode ≠ 2 ∨ s.tb.astep.isSome = true))),
    (let h : WbHead := h0; let hs : Nat := 1; let a : AuthStep := ⟨some ⟨1, 2, 0, 0⟩, 0, none⟩;
      let x : Taken := { ring := 1, slot := 2, w0 := 0x3040, tag := 0, words := [], started := true }; let s := up; let s := s.set F.TBASE_HELD hs;
      let s := s.set F.DPLL_STAT_MODE 2; let s := { s with tb := { s.tb with astep := some a } };
      let s := { s with mgmt := { s.mgmt with taken := [x] } };
      decide (s.get F.TBASE_HELD = hs ∧ s.mgmt.taken = [x] ∧ x.started = true ∧ x.w0.toNat / 64 = 0xC1 ∧ x.ring ≠ h.ring ∧ s.tb.astep.isSome = true ∧
      s.intc.running = true ∧ s.mgmtFenced = false ∧ s.latchesWf = true ∧ h.flags < 8 ∧ s.seq.st = .running ∧
      s.canWrite h.ring h.slot = true)),
    (let h : WbHead := h0; let hs : Nat := 2 ^ 80 - 1; let x : Nat := 7; let s := up; let s := s.set F.TBASE_HELD hs;
      readyB h s && decide (s.get F.TBASE_HELD = hs ∧ x ≠ hs ∧ x < 2 ^ 80)),
    (let hs : Nat := 1; let a : AuthStep := ⟨some h0, 0, none⟩; let s := up; let s := s.set F.TBASE_HELD hs;
      let s := { s with tb := { s.tb with astep := some a } }; let s := s.set F.DPLL_STAT_MODE 2; let s := { s with tb := { s.tb with time := 9 } };
      decide (s.get F.TBASE_HELD = hs ∧ s.tb.astep = some a ∧ a.ann = none ∧ a.gen = s.get F.DPLL_GEN ∧ s.past 7 = true ∧ s.mode = 2)),
    (let hs : Nat := 1; let a : AuthStep := ⟨some h0, 0, some (0, 10)⟩; let s := up; let s := s.set F.TBASE_HELD hs;
      let s := { s with tb := { s.tb with astep := some a } }; let s := { s with tb := { s.tb with time := 9 } };
      decide (s.get F.TBASE_HELD = hs ∧ s.tb.astep = some a ∧ a.ann.any (fun x => s.tb.time < x.2) = true)),
    (let hs : Nat := 1; let d : Int := -2596148429267413814265248164610048; let ts : Nat := 9; let a : AuthStep := ⟨some h0, 0, some (d, ts)⟩;
      let w : WbHead := h0; let s := up; let s := s.set F.TBASE_HELD hs; let s := { s with tb := { s.tb with astep := some a } };
      let s := { s with tb := { s.tb with time := 9 } };
      decide (s.get F.TBASE_HELD = hs ∧ s.tb.astep = some a ∧ a.ann = some (d, ts) ∧ a.wb = some w ∧ ts ≤ s.tb.time ∧ s.past 7 = true ∧
      s.intc.running = true ∧ s.canWrite w.ring w.slot = true ∧ d % 4294967296 = 0 ∧ -2 ^ 111 ≤ d ∧ d < 2 ^ 111)),
    (let hs : Nat := 1; let a : AuthStep := ⟨some h0, 7, none⟩; let w : WbHead := h0; let s := up; let s := s.set F.TBASE_HELD hs;
      let s := { s with tb := { s.tb with astep := some a } }; let s := { s with tb := { s.tb with time := 9 } };
      decide (s.get F.TBASE_HELD = hs ∧ s.tb.astep = some a ∧ a.ann = none ∧ a.wb = some w ∧ s.past 7 = true ∧
      s.canWrite w.ring w.slot = true ∧ a.gen ≠ s.get F.DPLL_GEN)),
    (let hs : Nat := 1; let a : AuthStep := ⟨some h0, 0, none⟩; let w : WbHead := h0; let s := up; let s := s.set F.TBASE_HELD hs;
      let s := { s with tb := { s.tb with astep := some a } }; let s := s.set F.DPLL_STAT_MODE 1; let s := { s with tb := { s.tb with time := 9 } };
      decide (s.get F.TBASE_HELD = hs ∧ s.tb.astep = some a ∧ a.ann = none ∧ a.wb = some w ∧ s.past 7 = true ∧
      s.canWrite w.ring w.slot = true ∧ a.gen = s.get F.DPLL_GEN ∧ s.mode ≠ 2))].all id = true := by decide +kernel

/-- The hypotheses of the clauses of TimeWaybills can be met. -/
theorem witness_TimeWaybills : [
    (let h : WbHead := h0; let u : Nat := 65535; let p : Nat := 2; let sec : Nat := 18446744073709551615; let s := up;
      readyB h s && decide (u < 65536 ∧ p ≤ 2 ∧ sec < 2 ^ 64)),
    (let h : WbHead := h0; let n : Nat := 15; let st : Nat := 1; let pe : Nat := 281474976710655; let ct : Nat := 4294967295;
      let wd : Nat := 4294967295; let cn : Nat := 1; let s := up;
      readyB h s && decide (n < 16 ∧ s.tb.evts.length = 16 ∧ (s.evt n).queue.length < 4 ∧ s.on F.TBASE_STAT_TIMESET = true ∧
      st < 2 ^ 128 ∧ st / 2 ^ 32 % 2 ^ 32 < 1000000000 ∧ pe < 2 ^ 48 ∧ ct < 2 ^ 32 ∧ 4 ≤ wd ∧ wd < 2 ^ 32 ∧ wd * 65536 < pe ∧ cn < 2)),
    (let h : WbHead := h0; let n : Nat := 15; let w : Nat := 1; let s := up; readyB h s && decide (n < 16 ∧ w < 2 ∧ s.tb.evts.length = 16)),
    (let h : WbHead := h0; let n : Nat := 7; let k : Nat := 28; let s := up; readyB h s && decide (n < 8 ∧ k ≤ 28 ∧ s.tb.caps.length = 8))].all id = true := by decide +kernel

/-- The hypotheses of the clauses of IntervalMeasurements can be met. -/
theorem witness_IntervalMeasurements : [
    (let ch : Nat := 7; let r : Bool := true; let s := up; let s := s.set (F.TIC_CH_CFG_EDGE ch) 2;
      decide (s.past 6 = true ∧ ch < 16 ∧ s.tic.chans.length = 16 ∧ s.intc.running = true ∧ s.ticSelects ch r = false)),
    (let ch : Nat := 15; let tick : Nat := 1; let c : Nat := 1; let r : Bool := true; let s := up;
      let s : State := { s with tic := { s.tic with chans := modAt s.tic.chans ch (fun y => { y with last := some (s.stampOf ch tick c) }) } };
      decide (s.past 6 = true ∧ ch < 16 ∧ s.tic.chans.length = 16 ∧ s.intc.running = true ∧ s.ticSelects ch r = true ∧ s.counted ch = false ∧ ch ≠ 8 ∧
      (s.ticCh ch).last.any (fun l => l ≤ s.stampOf ch tick c && s.stampOf ch tick c < l + ticDead) = true)),
    (let ch : Nat := 15; let r : Bool := true; let s := up; let s := s.set (F.TIC_MEAS_CFG_MODE 0) 3; let s := s.set (F.TIC_MEAS_SPAN 0) 1;
      let s := s.set (F.TIC_MEAS_CFG_START 0) ch;
      let s : State := { s with tic := { s.tic with units := modAt s.tic.units 0 (fun y => { y with gate := some 3 }) } };
      decide (s.past 6 = true ∧ ch < 16 ∧ s.tic.chans.length = 16 ∧ s.intc.running = true ∧ s.ticSelects ch r = true ∧
      s.counted ch = true ∧ s.gateDue ch = false ∧ s.tic.units.length = 4)),
    (let ch : Nat := 15; let r : Bool := true; let u : Nat := 3; let s := up; let s := s.set (F.TIC_MEAS_CFG_START u) ch;
      let s := s.setB (F.TIC_MEAS_CFG_REFSEL u) false; let s := s.set (F.TIC_MEAS_CFG_MODE u) 3; let s := s.set (F.TIC_MEAS_SPAN u) 1;
      decide (s.past 6 = true ∧ ch < 16 ∧ s.tic.chans.length = 16 ∧ s.intc.running = true ∧ u < 4 ∧ s.ticSelects ch r = true ∧
      s.freqUnit u = true ∧ s.get (F.TIC_MEAS_CFG_START u) = ch ∧ s.tic.units.length = 4 ∧ s.on (F.TIC_MEAS_CFG_REFSEL u) = false ∧
      ((s.meas u).gate.isNone || (s.meas u).due))),
    (let ch : Nat := 15; let tick : Nat := 1; let c : Nat := 1; let r : Bool := true; let s := up;
      decide (s.past 6 = true ∧ ch < 16 ∧ s.tic.chans.length = 16 ∧ s.intc.running = true ∧ s.ticSelects ch r = true ∧ s.counted ch = false ∧
      (ch = 8 ∨ (s.ticCh ch).last.any (fun l => l ≤ s.stampOf ch tick c && s.stampOf ch tick c < l + ticDead) = false))),
    (let u : Nat := 3; let x : Nat := 10 ^ 9; let r : List Nat := []; let s := up;
      let s : State := { s with tic := { s.tic with units := modAt s.tic.units u (fun y => { y with stops := x :: r }) } };
      let s := (s.set (F.TIC_MEAS_ARMWIN u) 1);
      let s : State := { s with tic := { s.tic with units := modAt s.tic.units u (fun y => { y with arms := [5] }) } };
      decide (s.past 6 = true ∧ u < 4 ∧ s.tic.units.length = 4 ∧ s.intc.running = true ∧ (s.meas u).stops = x :: r ∧
      (s.meas u).arms.all (fun a => !(a ≤ x + 1 && x ≤ a + max (s.get (F.TIC_MEAS_ARMWIN u) * 4096) 1)) = true)),
    (let u : Nat := 3; let x : Nat := 2 ^ 62 - 1; let r : List Nat := []; let a : Nat := 2 ^ 62; let s := up;
      let s : State := { s with tic := { s.tic with units := modAt s.tic.units u (fun y => { y with stops := x :: r }) } };
      let s : State := { s with tic := { s.tic with units := modAt s.tic.units u (fun y => { y with arms := [a] }) } };
      decide (s.past 6 = true ∧ u < 4 ∧ s.tic.units.length = 4 ∧ s.intc.running = true ∧ (s.meas u).stops = x :: r ∧
      a ∈ (s.meas u).arms ∧ a ≤ x + 1 ∧ x ≤ a + max (s.get (F.TIC_MEAS_ARMWIN u) * 4096) 1 ∧ x < 2 ^ 62)),
    (let u : Nat := 3; let s := up; let s := s.set (F.TIC_MEAS_CFG_MODE u) 3; let s := s.set (F.TIC_MEAS_SPAN u) 1;
      decide (s.past 6 = true ∧ u < 4 ∧ s.tic.units.length = 4 ∧ s.intc.running = true ∧ s.get (F.TIC_MEAS_CFG_MODE u) = 3 ∧
      s.get (F.TIC_MEAS_SPAN u) ≠ 0)),
    (let u : Nat := 3; let x : StatRun := { wb := h0, n := 4, timeout := 1 }; let s := up;
      let s : State := { s with tic := { s.tic with units := modAt s.tic.units u (fun y => { y with run := some x }) } };
      decide (s.past 7 = true ∧ u < 4 ∧ s.tic.units.length = 4 ∧ s.intc.running = true ∧ (s.meas u).run = some x ∧ x.timeout ≠ 0 ∧
      s.canWrite x.wb.ring x.wb.slot = true)),
    (let u : Nat := 3; let s := up; decide (s.past 7 = true ∧ u < 4 ∧ s.tic.units.length = 4 ∧ s.intc.running = true ∧
      (s.meas u).run.all (fun x => x.timeout = 0) = true))].all id = true := by decide +kernel

/-- The hypotheses of the clauses of Calibration can be met. -/
theorem witness_Calibration : [
    (let tj : Int := 32767; let s := up; decide (s.intc.running = true ∧ s.past 5 = true ∧ -32768 ≤ tj ∧ tj < 32768)),
    (let hs : List (List Nat) := List.replicate 32 (List.replicate 1024 4096); let ag : List (List Nat) := []; let s := up;
      let s := s.setB F.TIC_CALSTAT_RUNNING true; let s := { s with tic := { s.tic with swap := false } };
      decide (s.intc.running = true ∧ s.past 5 = true ∧ s.on F.TIC_CALSTAT_RUNNING = true ∧ s.tic.swap = false ∧
      ((List.range 32).all (fun k => calPass (at' [] hs k) || calPass (at' [] ag k)) = true))),
    (let hs : List (List Nat) := List.replicate 32 (List.replicate 800 5); let ag : List (List Nat) := []; let s := up;
      let s := s.setB F.TIC_CALSTAT_RUNNING true; let s := { s with tic := { s.tic with swap := false } };
      decide (s.intc.running = true ∧ s.past 5 = true ∧ s.on F.TIC_CALSTAT_RUNNING = true ∧ s.tic.swap = false ∧
      (List.range 32).any (fun k => !calPass (at' [] hs k) && !calPass (at' [] ag k)) = true)),
    (let s := up; let s := { s with tic := { s.tic with swap := true } }; decide (s.intc.running = true ∧ s.past 5 = true ∧ s.tic.swap = true)),
    (let h : WbHead := h0; let s := up; readyB h s && decide (s.intc.running = true ∧ (∀ w ∈ s.tic.waiters, w.ring ≠ h.ring ∨ w.slot ≠ h.slot))),
    (let h : WbHead := h0; let i : Nat := 63; let a : Nat := 65535; let n : Nat := 64; let s := up;
      readyB h s && decide (s.intc.running = true ∧ i < 64 ∧ n ≤ 64 ∧ a < 65536)),
    (let s := up; let s := s.setB F.RMON_WITNESS_FVALID true; decide (s.intc.running = true ∧ s.past 6 = true ∧ s.on F.RMON_WITNESS_FVALID = true)),
    (let s := up; let s := s.set F.HOLD_TRAINAGE (86400); let s := s.setB F.HOLD_STAT_HOLDOVER false; let s := s.set F.APLL_BYPSTAT_MAP 0;
      decide (s.intc.running = true ∧ s.past 7 = true ∧ 86400 ≤ s.get F.HOLD_TRAINAGE ∧ s.on F.HOLD_STAT_HOLDOVER = false ∧
      s.get F.APLL_BYPSTAT_MAP = 0 ∧ -20000 ≤ s.getI F.TIC_XTAL_TRIM ∧ s.getI F.TIC_XTAL_TRIM ≤ 20000)),
    (let s := up; let s := s.set F.HOLD_TRAINAGE 86399; decide (s.intc.running = true ∧ s.past 7 = true ∧
      (s.get F.HOLD_TRAINAGE < 86400 ∨ s.on F.HOLD_STAT_HOLDOVER = true ∨ s.get F.APLL_BYPSTAT_MAP ≠ 0))),
    (let h : WbHead := h0; let s := up; readyB h s && decide (s.intc.running = true))].all id = true := by decide +kernel

/-- The hypotheses of the clauses of TicWaybills can be met. -/
theorem witness_TicWaybills : [
    (let h : WbHead := h0; let ac : Nat := 1; let dt : Nat := 400; let xl : Nat := 65535; let s := up;
      readyB h s && decide (ac < 2 ∧ 8 ≤ dt ∧ dt ≤ 400 ∧ 1 ≤ xl ∧ xl < 65536)),
    (let h : WbHead := h0; let n : Nat := 15; let cf : Nat := 65535; let dl : Nat := 4294967295; let s := up;
      readyB h s && decide (n < 16 ∧ cf < 65536 ∧ dl < 2 ^ 32)),
    (let h : WbHead := h0; let u : Nat := 3; let cf : Nat := 4095; let aw : Nat := 4294967295; let sp : Nat := 65535; let fn : Nat := 800000000;
      let s := up; readyB h s && decide (u < 4 ∧ s.tic.units.length = 4 ∧ cf < 4096 ∧ aw < 2 ^ 32 ∧ sp < 65536 ∧ 1 ≤ fn ∧ fn ≤ 800000000)),
    (let h : WbHead := h0; let u : Nat := 3; let n : Nat := 4294967296; let k : Nat := 65535; let s := up;
      let s : State := { s with tic := { s.tic with units := modAt s.tic.units u (fun y => { y with run := none }) } };
      readyB h s && decide (u < 4 ∧ 1 ≤ n ∧ n ≤ 2 ^ 32 ∧ s.tic.units.length = 4 ∧ k < 65536 ∧ (s.meas u).run = none)),
    (let h : WbHead := h0; let u : Nat := 3; let n : Nat := 4294967296; let s := up;
      let s : State := { s with tic := { s.tic with units := modAt s.tic.units u (fun y => { y with run := some { wb := h0, n := 4 } }) } };
      readyB h s && decide (u < 4 ∧ 1 ≤ n ∧ n ≤ 2 ^ 32 ∧ (s.meas u).run.isSome = true)),
    (let h : WbHead := h0; let u : Nat := 3; let n : Nat := 1; let x : StatRun := { wb := ⟨3, 0, 5, 0⟩, n := 4 }; let s := up;
      let s : State := { s with tic := { s.tic with units := modAt s.tic.units u (fun y => { y with run := some x }) } };
      readyB h s && decide ((s.meas u).run = some x ∧ u < 4 ∧ s.tic.units.length = 4 ∧ (x.wb.ring ≠ h.ring ∨ x.wb.slot ≠ h.slot))),
    (let h : WbHead := h0; let n : Nat := 15; let k : Nat := 28; let s := up; readyB h s && decide (n < 16 ∧ k ≤ 28 ∧ s.tic.chans.length = 16))].all id = true := by decide +kernel

/-- The hypotheses of the clauses of GnssTracking can be met. -/
theorem witness_GnssTracking : [
    (let f : Nat := 4; let s := up; let s := s.setB F.GNSS_CTRL_DUAL true; let s := s.setB F.GNSS_STAT_ACTB true;
      decide (s.intc.running = true ∧ s.gnssRuns = true ∧ s.on F.GNSS_CTRL_DUAL = true ∧ s.on F.GNSS_STAT_ACTB = true ∧ (f = 4 ∨ f = 60))),
    (let s := up; let s := s.setB F.GNSS_STAT_ACTB true; decide (s.intc.running = true ∧ s.past 7 = true ∧ s.on F.GNSS_STAT_ACTB = true)),
    (let s := up; let s := s.setB F.GNSS_STAT_ACTA true; decide (s.intc.running = true ∧ s.past 7 = true ∧ s.on F.GNSS_STAT_ACTA = true)),
    (let s := up; let s := s.setB F.GNSS_STAT_ACTB false; decide (s.intc.running = true ∧ s.past 7 = true ∧ s.on F.GNSS_STAT_ACTB = false)),
    (let s := up; let s := s.setB F.GNSS_STAT_ACTA false; decide (s.intc.running = true ∧ s.past 7 = true ∧ s.on F.GNSS_STAT_ACTA = false)),
    (let c : Nat := 63; let s := up; let s := s.set (F.GNSS_CH_STAT_STATE c) 1;
      decide (s.gnssRuns = true ∧ c < 64 ∧ s.intc.running = true ∧ (s.chState c = 1 ∨ s.chState c = 4))),
    (let c : Nat := 63; let s := up; let s := s.set (F.GNSS_CH_STAT_STATE c) 2;
      decide (s.gnssRuns = true ∧ c < 64 ∧ s.intc.running = true ∧ s.chState c = 2)),
    (let c : Nat := 63; let s := up; let s := s.set (F.GNSS_CH_STAT_STATE c) 1;
      decide (s.gnssRuns = true ∧ c < 64 ∧ s.intc.running = true ∧ s.chState c = 1)),
    (let c : Nat := 63; let s := up; let s := s.set (F.GNSS_CH_STAT_STATE c) 4;
      decide (s.gnssRuns = true ∧ c < 64 ∧ s.intc.running = true ∧ s.chState c = 4)),
    (let c : Nat := 63; let s := up; let s := s.set (F.GNSS_CH_STAT_STATE c) 2;
      decide (s.gnssRuns = true ∧ c < 64 ∧ s.intc.running = true ∧ (s.chState c = 2 ∨ s.chState c = 3))),
    (let c : Nat := 63; let s := up; let s := s.set (F.GNSS_CH_STAT_STATE c) 3; let s := s.setB F.GNSS_CTRL_DUAL true;
      let s := s.setB F.GNSS_STAT_ACTB true;
      decide (s.gnssRuns = true ∧ c < 64 ∧ s.intc.running = true ∧ s.chState c = 3 ∧ s.on F.GNSS_CTRL_DUAL = true ∧ s.on F.GNSS_STAT_ACTB = true)),
    (let c : Nat := 63; let s := up; let s := s.setB (F.GNSS_CH_STAT_BTRK c) true;
      decide (s.gnssRuns = true ∧ c < 64 ∧ s.intc.running = true ∧ s.on (F.GNSS_CH_STAT_BTRK c) = true)),
    (let c : Nat := 63; let b : Bool := true; let ws : List Word := []; let s := up; let s := s.set (F.GNSS_CH_STAT_STATE c) 3;
      let s := s.setB (F.GNSS_CH_STAT_BTRK c) true;
      decide (s.gnssRuns = true ∧ c < 64 ∧ s.intc.running = true ∧ s.chState c = 3 ∧ (b = false ∨ s.on (F.GNSS_CH_STAT_BTRK c) = true) ∧
      navPass (s.navType c b) ws = true)),
    (let c : Nat := 63; let b : Bool := true; let ws : List Word := [1]; let s := up; let s := s.set (F.GNSS_CH_STAT_STATE c) 3;
      let s := s.setB (F.GNSS_CH_STAT_BTRK c) true;
      decide (s.gnssRuns = true ∧ c < 64 ∧ s.intc.running = true ∧ s.chState c = 3 ∧ (b = false ∨ s.on (F.GNSS_CH_STAT_BTRK c) = true) ∧
      navPass (s.navType c b) ws = false))].all id = true := by decide +kernel

/-- The hypotheses of the clauses of GnssSolutionsAndSearches can be met. -/
theorem witness_GnssSolutionsAndSearches : [
    (let px : Int := 2147483647; let py : Int := 2147483647; let pz : Int := 2147483647; let s := up; let s := s.set F.GNSS_POSMODE_MODE 0;
      decide (s.gnssRuns = true ∧ s.intc.running = true ∧ s.get F.GNSS_POSMODE_MODE = 0 ∧ -2147483648 ≤ px ∧ px < 2147483648 ∧
      -2147483648 ≤ py ∧ py < 2147483648 ∧ -2147483648 ≤ pz ∧ pz < 2147483648)),
    (let c : Nat := 63; let ws : List Word := []; let s := up; let s := s.set (F.GNSS_CH_STAT_STATE c) 3;
      decide (s.gnssRuns = true ∧ c < 64 ∧ s.intc.running = true ∧ s.chState c = 3 ∧ navPass (s.navType c false) ws = true)),
    (let c : Nat := 63; let ws : List Word := []; let s := up; let s := s.set (F.GNSS_CH_STAT_STATE c) 3;
      decide (s.gnssRuns = true ∧ c < 64 ∧ s.intc.running = true ∧ s.chState c = 3 ∧ navPass (s.navType c false) ws = true ∧ s.gnss.leaps = [])),
    (let c : Nat := 63; let ws : List Word := []; let a : LeapAnn := ⟨18, 19, ⟨7, 10, false⟩, 3⟩;
      let p : Nat := (if a.dtls < a.dtlsf then 1 else if a.dtlsf < a.dtls then 2 else 0);
      let e : Nat := (gpsEpoch + up.weekOf a.week * 604800 + a.day * 86400 + a.dtlsf + 19); let u : Nat := (a.dtls + 19); let s := up;
      let s := s.set (F.GNSS_CH_STAT_STATE c) 3; let s := { s with gnss := { s.gnss with leaps := [(200, u, p, e)] } };
      let s := s.set F.TBASE_UTCOFF (u + 1); let s := s.setB F.GNSS_CTRL_LEAPAUTO true;
      decide (s.gnssRuns = true ∧ c < 64 ∧ s.intc.running = true ∧ s.chState c = 3 ∧ navPass (s.navType c false) ws = true ∧
      p = (if a.dtls < a.dtlsf then 1 else if a.dtlsf < a.dtls then 2 else 0) ∧
      e = gpsEpoch + s.weekOf a.week * 604800 + a.day * 86400 + a.dtlsf + 19 ∧ u = a.dtls + 19 ∧ s.gnss.leaps = [(200, u, p, e)] ∧
      u < 65536 ∧ e < 2 ^ 64 ∧ (s.get F.TBASE_UTCOFF ≠ u ∨ s.get F.TBASE_LEAP ≠ p) ∧ s.on F.GNSS_CTRL_LEAPAUTO = true)),
    (let c : Nat := 63; let ws : List Word := []; let a : LeapAnn := ⟨18, 19, ⟨7, 10, false⟩, 3⟩;
      let p : Nat := (if a.dtls < a.dtlsf then 1 else if a.dtlsf < a.dtls then 2 else 0);
      let e : Nat := (gpsEpoch + up.weekOf a.week * 604800 + a.day * 86400 + a.dtlsf + 19); let u : Nat := (a.dtls + 19); let s := up;
      let s := s.set (F.GNSS_CH_STAT_STATE c) 3; let s := { s with gnss := { s.gnss with leaps := [(200, u, p, e)] } };
      let s := s.set F.TBASE_UTCOFF (u + 1); let s := s.setB F.GNSS_CTRL_LEAPAUTO false;
      decide (s.gnssRuns = true ∧ c < 64 ∧ s.intc.running = true ∧ s.chState c = 3 ∧ navPass (s.navType c false) ws = true ∧
      p = (if a.dtls < a.dtlsf then 1 else if a.dtlsf < a.dtls then 2 else 0) ∧
      e = gpsEpoch + s.weekOf a.week * 604800 + a.day * 86400 + a.dtlsf + 19 ∧ u = a.dtls + 19 ∧ s.gnss.leaps = [(200, u, p, e)] ∧
      u < 65536 ∧ (s.get F.TBASE_UTCOFF ≠ u ∨ s.get F.TBASE_LEAP ≠ p) ∧ s.on F.GNSS_CTRL_LEAPAUTO = false ∧ s.gnss.leapActed = none)),
    (let h : WbHead := h0; let sy : Nat := 1; let mask : Nat := 1; let tc : Nat := 4; let k : Nat := 0; let half : Nat := 50000; let thr : Nat := 400;
      let ho : Nat := 1; let s := up;
      readyB h s && decide (s.intc.running = true ∧ sy < 2 ∧ (if sy = 0 then 1 ≤ tc ∧ tc ≤ 10 else tc = 4 ∨ tc = 8) ∧ k ≤ 200 ∧
      half ≤ 50000 ∧ thr ≤ 400 ∧ ho < 2 ∧ mask < 2 ^ (if sy = 0 then 32 else 36) ∧ (mask = 0 ∨ k = 0))),
    (let h : WbHead := h0; let sy : Nat := 1; let mask : Nat := 1; let tc : Nat := 4; let k : Nat := 200; let half : Nat := 50000;
      let thr : Nat := 400; let ho : Nat := 1; let s := up; let s := { s with gnss := { s.gnss with host := some job0 } };
      readyB h s && decide (s.intc.running = true ∧ sy < 2 ∧ (if sy = 0 then 1 ≤ tc ∧ tc ≤ 10 else tc = 4 ∨ tc = 8) ∧ k ≤ 200 ∧
      half ≤ 50000 ∧ thr ≤ 400 ∧ ho < 2 ∧ mask < 2 ^ (if sy = 0 then 32 else 36) ∧ mask ≠ 0 ∧ 1 ≤ k ∧ s.gnss.host.isSome = true)),
    (let h : WbHead := h0; let sy : Nat := 1; let mask : Nat := 1; let tc : Nat := 4; let k : Nat := 200; let half : Nat := 50000;
      let thr : Nat := 400; let ho : Nat := 1; let s := up; let s := s.setBit F.FCOL_FENCEMAP 7 false;
      readyB h s && decide (s.intc.running = true ∧ sy < 2 ∧ (if sy = 0 then 1 ≤ tc ∧ tc ≤ 10 else tc = 4 ∨ tc = 8) ∧ k ≤ 200 ∧
      half ≤ 50000 ∧ thr ≤ 400 ∧ ho < 2 ∧ mask < 2 ^ (if sy = 0 then 32 else 36) ∧ mask ≠ 0 ∧ 1 ≤ k ∧ s.gnss.host = none ∧
      s.gnss.job = none ∧ s.gnssRuns = true ∧ s.bit F.FCOL_FENCEMAP 7 = false)),
    (let h : WbHead := h0; let sy : Nat := 1; let mask : Nat := 1; let tc : Nat := 4; let k : Nat := 200; let half : Nat := 50000;
      let thr : Nat := 400; let ho : Nat := 1; let s := up; let s := { s with gnss := { s.gnss with job := some job0 } };
      readyB h s && decide (s.intc.running = true ∧ sy < 2 ∧ (if sy = 0 then 1 ≤ tc ∧ tc ≤ 10 else tc = 4 ∨ tc = 8) ∧ k ≤ 200 ∧
      half ≤ 50000 ∧ thr ≤ 400 ∧ ho < 2 ∧ mask < 2 ^ (if sy = 0 then 32 else 36) ∧ mask ≠ 0 ∧ 1 ≤ k ∧ s.gnss.host = none ∧ s.gnss.job.isSome = true)),
    (let sy : Nat := 1; let mask : Nat := 1; let tc : Nat := 4; let k : Nat := 200; let half : Nat := 50000; let thr : Nat := 400; let ho : Nat := 1;
      let p : Nat := 1; let r : List Nat := [2, 3]; let j : AcqJob := { job0 with prns := p :: r }; let s := up;
      let s := { s with gnss := { s.gnss with job := some j } };
      decide (s.intc.running = true ∧ sy < 2 ∧ (if sy = 0 then 1 ≤ tc ∧ tc ≤ 10 else tc = 4 ∨ tc = 8) ∧ k ≤ 200 ∧ half ≤ 50000 ∧
      thr ≤ 400 ∧ ho < 2 ∧ mask < 2 ^ (if sy = 0 then 32 else 36) ∧ s.gnss.job = some j ∧ j.prns = p :: r ∧ r ≠ [] ∧ s.gnssRuns = true)),
    (let sy : Nat := 1; let mask : Nat := 1; let tc : Nat := 4; let k : Nat := 200; let half : Nat := 50000; let thr : Nat := 400; let ho : Nat := 1;
      let p : Nat := 1; let r : List Nat := []; let j : AcqJob := { job0 with prns := p :: r }; let s := up;
      let s := { s with gnss := { s.gnss with job := some j } };
      decide (s.intc.running = true ∧ sy < 2 ∧ (if sy = 0 then 1 ≤ tc ∧ tc ≤ 10 else tc = 4 ∨ tc = 8) ∧ k ≤ 200 ∧ half ≤ 50000 ∧
      thr ≤ 400 ∧ ho < 2 ∧ mask < 2 ^ (if sy = 0 then 32 else 36) ∧ s.gnss.job = some j ∧ j.prns = p :: r ∧ r = [] ∧ s.gnssRuns = true)),
    (let h : WbHead := h0; let sy : Nat := 1; let mask : Nat := 1; let tc : Nat := 4; let k : Nat := 200; let half : Nat := 50000;
      let thr : Nat := 400; let ho : Nat := 1; let w : WbHead := ⟨3, 0, 7, 0⟩; let j : AcqJob := { job0 with wb := some w }; let s := up;
      let s := { s with gnss := { s.gnss with host := some j } };
      readyB h s && decide (s.intc.running = true ∧ sy < 2 ∧ (if sy = 0 then 1 ≤ tc ∧ tc ≤ 10 else tc = 4 ∨ tc = 8) ∧ k ≤ 200 ∧
      half ≤ 50000 ∧ thr ≤ 400 ∧ ho < 2 ∧ mask < 2 ^ (if sy = 0 then 32 else 36) ∧ s.gnss.host = some j ∧ j.wb = some w ∧
      (w.ring ≠ h.ring ∨ w.slot ≠ h.slot) ∧ s.canWrite w.ring w.slot = true ∧ s.gnss.job.any (fun j => j.wb.isSome) = false)),
    (let h : WbHead := h0; let sy : Nat := 1; let mask : Nat := 1; let tc : Nat := 4; let k : Nat := 200; let half : Nat := 50000;
      let thr : Nat := 400; let ho : Nat := 1; let w : WbHead := ⟨3, 0, 7, 0⟩; let j : AcqJob := { job0 with wb := some w }; let s := up;
      let s := { s with gnss := { s.gnss with job := some j } };
      readyB h s && decide (s.intc.running = true ∧ sy < 2 ∧ (if sy = 0 then 1 ≤ tc ∧ tc ≤ 10 else tc = 4 ∨ tc = 8) ∧ k ≤ 200 ∧
      half ≤ 50000 ∧ thr ≤ 400 ∧ ho < 2 ∧ mask < 2 ^ (if sy = 0 then 32 else 36) ∧ s.gnss.job = some j ∧ j.wb = some w ∧
      (w.ring ≠ h.ring ∨ w.slot ≠ h.slot) ∧ s.canWrite w.ring w.slot = true ∧ s.gnss.host = none ∧ s.gnss.firm.all (fun k => k.wb.isNone) = true)),
    (let s := up; let s := s.setB F.GNSS_STAT_NFVALID true; let s := s.setB F.GNSS_CTRL_DUAL true; let s := s.setB F.GNSS_STAT_ACTB true;
      decide (s.gnssRuns = true ∧ s.intc.running = true ∧ s.on F.GNSS_STAT_NFVALID = true ∧ s.on F.GNSS_CTRL_DUAL = true ∧
      s.on F.GNSS_STAT_ACTB = true)),
    (let s := up; let s := s.setB F.GNSS_STAT_NFVALID false; decide (s.gnssRuns = true ∧ s.intc.running = true ∧ s.on F.GNSS_STAT_NFVALID = false)),
    (let w : WbHead := h0; let g : Nat := 1; let s := up; let s := { s with gnss := { s.gnss with nfcal := some (w, g) } };
      let s := s.set F.GNSS_GEN g; decide (s.gnssRuns = true ∧ s.intc.running = true ∧ s.gnss.nfcal = some (w, g) ∧ g = s.get F.GNSS_GEN ∧
      s.canWrite w.ring w.slot = true)),
    (let w : WbHead := h0; let g : Nat := 1; let s := up; let s := { s with gnss := { s.gnss with nfcal := some (w, g) } };
      decide (s.gnssRuns = true ∧ s.intc.running = true ∧ s.gnss.nfcal = some (w, g) ∧ g ≠ s.get F.GNSS_GEN ∧ s.canWrite w.ring w.slot = true)),
    (let h : WbHead := h0; let s := up; readyB h s && decide (s.gnssRuns = true ∧ s.intc.running = true ∧ s.gnss.nfcal = none))].all id = true := by decide +kernel

/-- The hypotheses of the clauses of GnssWaybills can be met. -/
theorem witness_GnssWaybills : [
    (let h : WbHead := h0; let ct : Nat := 255; let fsk : Nat := 80; let pa : Nat := 3; let pb : Nat := 3; let ia : Nat := 1000000;
      let ib : Nat := 1000000; let bb : Nat := 4294967295; let bu : Nat := 65535; let jl : Nat := 65535; let cm : Nat := 65535; let rq : Nat := 600;
      let s := up; readyB h s && decide (ct < 256 ∧ (if ct / 2 % 2 = 1 then 20 else 4) ≤ fsk ∧ fsk ≤ 80 ∧ pa < 4 ∧ pb < 4 ∧ ia ≤ 1000000 ∧
      ib ≤ 1000000 ∧ bb < 2 ^ 32 ∧ bu < 65536 ∧ jl < 65536 ∧ cm < 65536 ∧ 1 ≤ rq ∧ rq ≤ 600)),
    (let h : WbHead := h0; let md : Nat := 1; let sv : Nat := 32; let xyz : Nat := 79228162514264337593543950335; let un : Nat := 65535;
      let sd : Nat := 4294967295; let rl : Nat := 65535; let wn : Nat := 65535; let s := up;
      readyB h s && decide (md < 2 ∧ 1 ≤ sv ∧ sv ≤ 32 ∧ xyz < 2 ^ 96 ∧ un < 65536 ∧ sd < 2 ^ 32 ∧ rl < 65536 ∧ wn < 65536)),
    (let h : WbHead := h0; let k : Nat := 7; let md : Nat := 2; let wd : Nat := 3; let fq : Nat := 4294967295; let s := up;
      readyB h s && decide (k < 8 ∧ md ≤ 2 ∧ wd < 4 ∧ fq < 2 ^ 32)),
    (let h : WbHead := h0; let c : Nat := 63; let n : Nat := 1; let s := up; readyB h s && decide (n ≤ 16 ∧ c < 64 ∧ c + n ≤ 64)),
    (let h : WbHead := h0; let c : Nat := 63; let n : Nat := 4; let g : Nat := 1; let s := up; readyB h s && decide (g < 2 ∧ n ≤ 4 ∧ c < 64))].all id = true := by decide +kernel

/-- The hypotheses of the clauses of LaneStates can be met. -/
theorem witness_LaneStates : [
    (let n : Nat := 9; let d : Nat := 5; let s := up; let s := s.setB (detBit n d) true; let s := s.setB (detBit n d) true;
      decide (s.laneRuns n = true ∧ s.intc.running = true ∧ s.detGood n d = true ∧ d < 6 ∧ (d = 4 → s.aligns n = true))),
    (let n : Nat := 9; let d : Nat := 5; let sk : List Nat := []; let s := up; let s := s.setB (detBit n d) false; let s := s.setB (detBit n d) false;
      decide (s.laneRuns n = true ∧ s.intc.running = true ∧ s.canRestore n d = true ∧ s.detGood n d = false ∧ (d = 4 → skewOk sk = true))),
    (let n : Nat := 9; let d : Nat := 1; let s := up; let s := s.set (F.LANE_LANE_STAT_STATE n) 2; let s := s.setB (detBit n 0) true;
      let s := s.setB (detBit n 1) false; let s := s.setB (detBit n 2) true; let s := s.setB (detBit n 3) false; let s := s.setB (detBit n 5) true;
      decide (s.laneRuns n = true ∧ s.intc.running = true ∧ d = 1 ∧ s.get (F.LANE_LANE_STAT_STATE n) = 2 ∧ s.aligns n = false ∧
      s.detGood n 0 = true ∧ s.detGood n 1 = false ∧ s.detGood n 2 = true ∧ s.detGood n 3 = true ∧ s.detGood n 5 = true)),
    (let n : Nat := 7; let d : Nat := 4; let sk : List Nat := [0, 4641]; let s := up; let s := s.setB (detBit n 4) false;
      let s := s.set F.LANE_MODE_PORTMODE 1;
      decide (s.laneRuns n = true ∧ s.intc.running = true ∧ d = 4 ∧ s.aligns n = true ∧ s.detGood n 4 = false ∧ skewOk sk = false)),
    (let n : Nat := 4; let p : Nat := 1; let s := up; let s := s.setB (F.LANE_LANE_STAT_AMLOCK n) false; let s := s.set F.LANE_MODE_PORTMODE 1;
      let s : State := (List.range 8).foldl (fun s n => (s.set (F.LANE_LANE_STAT_STATE n) 3).setB (F.LANE_LANE_STAT_BLKLOCK n) true) s;
      decide (s.laneRuns n = true ∧ s.intc.running = true ∧ n = 4 * p ∧ s.canRestore n 4 = true ∧ s.on (F.LANE_LANE_STAT_AMLOCK n) = false)),
    (let n : Nat := 8; let b : Nat := 64; let b : Nat := 64; let s := up; let s := s.setB (detBit n 1) true; let s := s.setB (detBit n 2) false;
      decide (s.laneRuns n = true ∧ s.intc.running = true ∧ 8 ≤ n ∧ s.detGood n 1 = true ∧ s.detGood n 2 = false ∧ 1 ≤ b ∧ b ≤ 64)),
    (let n : Nat := 1; let s := up; decide (s.laneRuns n = true ∧ s.intc.running = true ∧ s.laneUp n = true)),
    (let n : Nat := 7; let s := up; let s := s.setB F.LANE_MODE_FEC true; let s := s.set F.LANE_MODE_PORTMODE 1;
      decide (s.laneRuns n = true ∧ s.intc.running = true ∧ n < 8 ∧ s.on F.LANE_MODE_FEC = true ∧ s.portMode ≠ 2))].all id = true := by decide +kernel

/-- The hypotheses of the clauses of MetersAndRates can be met. -/
theorem witness_MetersAndRates : [
    (let n : Nat := 1; let rs : Nat := 255; let s := up; let s := s.setB (F.LANE_LANE_STAT_TXPLLOCK n) true; let s := s.setBit F.MTS_LOCKMAP n false;
      let s := s.set F.MTS_METERTOL (rs + 1); let s := s.set F.MTS_METERTOL 256; let pd : Nat := s.nominal n;
      decide (s.laneRuns n = true ∧ s.intc.running = true ∧ s.mts.fill.length = 10 ∧ s.mts.tx.length = 10 ∧ s.mts.rx.length = 10 ∧
      s.mts.plan.length = 10 ∧ s.on (F.LANE_LANE_STAT_TXPLLOCK n) = true ∧ s.bit F.MTS_LOCKMAP n = false ∧ rs < s.get F.MTS_METERTOL ∧
      rs < 256 ∧ s.inRange n pd = true)),
    (let n : Nat := 1; let rs : Nat := 255; let s := up; let s := s.setB (F.LANE_LANE_STAT_CDRLOCK n) true; let s := s.setBit F.MTS_RXLOCKMAP n false;
      let s := s.set F.MTS_METERTOL (rs + 1); let s := s.set F.MTS_METERTOL 256; let pd : Nat := s.nominal n;
      decide (s.laneRuns n = true ∧ s.intc.running = true ∧ s.mts.fill.length = 10 ∧ s.mts.tx.length = 10 ∧ s.mts.rx.length = 10 ∧
      s.mts.plan.length = 10 ∧ s.on (F.LANE_LANE_STAT_CDRLOCK n) = true ∧ s.bit F.MTS_RXLOCKMAP n = false ∧ rs < s.get F.MTS_METERTOL ∧
      rs < 256 ∧ s.inRange n pd = true)),
    (let n : Nat := 1; let pd : Nat := 1; let s := up;
      decide (s.laneRuns n = true ∧ s.intc.running = true ∧ s.mts.fill.length = 10 ∧ s.mts.tx.length = 10 ∧ s.mts.rx.length = 10 ∧
      s.mts.plan.length = 10 ∧ s.inRange n pd = false)),
    (let n : Nat := 1; let rs : Nat := 41; let s := up; let s := s.setBit F.MTS_LOCKMAP n true; let s := s.set F.MTS_METERTOL 10;
      decide (s.laneRuns n = true ∧ s.intc.running = true ∧ s.mts.fill.length = 10 ∧ s.mts.tx.length = 10 ∧ s.mts.rx.length = 10 ∧
      s.mts.plan.length = 10 ∧ s.bit F.MTS_LOCKMAP n = true ∧ 4 * s.get F.MTS_METERTOL < rs)),
    (let n : Nat := 1; let rs : Nat := 41; let s := up; let s := s.setBit F.MTS_RXLOCKMAP n true; let s := s.set F.MTS_METERTOL 10;
      decide (s.laneRuns n = true ∧ s.intc.running = true ∧ s.mts.fill.length = 10 ∧ s.mts.tx.length = 10 ∧ s.mts.rx.length = 10 ∧
      s.mts.plan.length = 10 ∧ s.bit F.MTS_RXLOCKMAP n = true ∧ 4 * s.get F.MTS_METERTOL < rs)),
    (let n : Nat := 1; let f : Nat := 14; let pos : Nat := 1; let s := up;
      decide (s.laneRuns n = true ∧ s.intc.running = true ∧ s.mts.fill.length = 10 ∧ s.mts.tx.length = 10 ∧ s.mts.rx.length = 10 ∧
      s.mts.plan.length = 10 ∧ 4 < f ∧ f ≤ 14 ∧ s.inFrame n pos = false ∧ s.atMarker n pos = false ∧ s.predicted n pos true = true)),
    (let n : Nat := 1; let f : Nat := 27; let pos : Nat := 1; let s := up;
      decide (s.laneRuns n = true ∧ s.intc.running = true ∧ s.mts.fill.length = 10 ∧ s.mts.tx.length = 10 ∧ s.mts.rx.length = 10 ∧
      s.mts.plan.length = 10 ∧ 18 ≤ f ∧ f < 28 ∧ s.inFrame n pos = false ∧ s.atMarker n pos = false ∧ s.predicted n pos false = true)),
    (let n : Nat := 1; let f : Nat := 27; let pos : Nat := 5; let s := up; let s := s.set F.LANE_MODE_PORTMODE 1;
      let s : State := { s with mts := { s.mts with plan := modAt s.mts.plan n (fun _ => ⟨[], some 5⟩) } };
      decide (s.laneRuns n = true ∧ s.intc.running = true ∧ s.mts.fill.length = 10 ∧ s.mts.tx.length = 10 ∧ s.mts.rx.length = 10 ∧
      s.mts.plan.length = 10 ∧ 4 < f ∧ f < 28 ∧ s.inFrame n pos = false ∧ s.atMarker n pos = true)),
    (let n : Nat := 0; let pos : Nat := 1; let s := up; let s := { s with pkt := { s.pkt with slots := [{ slot0 with len := 2 }] } };
      decide (s.laneRuns n = true ∧ s.intc.running = true ∧ s.mts.fill.length = 10 ∧ s.mts.tx.length = 10 ∧ s.mts.rx.length = 10 ∧
      s.mts.plan.length = 10 ∧ s.inFrame n pos = true)),
    (let n : Nat := 1; let f : Nat := 1; let pos : Nat := 1; let s := up;
      decide (s.laneRuns n = true ∧ s.intc.running = true ∧ s.mts.fill.length = 10 ∧ s.mts.tx.length = 10 ∧ s.mts.rx.length = 10 ∧
      s.mts.plan.length = 10 ∧ (recentres f = true ∨ (18 ≤ f ∨ f ≤ 14) ∧ s.inFrame n pos = false ∧ s.predicted n pos (decide (f ≤ 14)) = false))),
    (let n : Nat := 0; let f : Nat := 8; let pos : Nat := 1; let s := up;
      let s := { s with pkt := { s.pkt with slots := [{ slot0 with len := 2 }] } };
      decide (s.laneRuns n = true ∧ s.intc.running = true ∧ s.mts.fill.length = 10 ∧ s.mts.tx.length = 10 ∧ s.mts.rx.length = 10 ∧
      s.mts.plan.length = 10 ∧ recentres f = false ∧ (s.inFrame n pos = true ∨ s.predicted n pos (decide (f ≤ 14)) = true))),
    (let n : Nat := 1; let s := up;
      decide (s.laneRuns n = true ∧ s.intc.running = true ∧ s.mts.fill.length = 10 ∧ s.mts.tx.length = 10 ∧ s.mts.rx.length = 10 ∧
      s.mts.plan.length = 10))].all id = true := by decide +kernel

/-- The hypotheses of the clauses of LaneWaybills can be met. -/
theorem witness_LaneWaybills : [
    (let h : WbHead := h0; let v : Nat := 1; let s := up; readyB h s && decide (v < 8 ∧ v % 4 ≠ 3 ∧ (v % 4 = 2 → v < 4))),
    (let h : WbHead := h0; let n : Nat := 9; let cf : Nat := 15; let te : Nat := 65535; let re : Nat := 63; let s := up;
      readyB h s && decide (n < 10 ∧ cf < 16 ∧ te < 65536 ∧ re < 64)),
    (let h : WbHead := h0; let m : Nat := 1023; let s := up; readyB h s && decide (m < 1024 ∧ m ≠ 0)),
    (let h : WbHead := h0; let n : Nat := 9; let k : Nat := 1; let s := up; readyB h s && decide (n < 10 ∧ n + k ≤ 10)),
    (let h : WbHead := h0; let a : Nat := 65535; let b : Nat := 65535; let s := up; readyB h s && decide (a < 65536 ∧ b < 65536)),
    (let h : WbHead := h0; let n : Nat := 9; let cf : Nat := 1; let a : Nat := 4294967295; let b : Nat := 4294967295; let c : Nat := 65535;
      let s := up; readyB h s && decide (n < 10 ∧ cf < 2 ∧ a < 2 ^ 32 ∧ b < 2 ^ 32 ∧ c < 65536))].all id = true := by decide +kernel

/-- The hypotheses of the clauses of Requests can be met. -/
theorem witness_Requests : [
    (let p : Nat := 7; let f : Frame := { frame0 with net := .other }; let s := up;
      decide (s.past 6 = true ∧ s.seq.st ≠ .safe ∧ s.portUp p = true ∧ s.intc.running = true ∧ p < 8 ∧ s.isService p f = false ∧
      s.pkt.hostSec < s.get F.PKT_HOSTMAX * 100)),
    (let p : Nat := 7; let f : Frame := { frame0 with net := .other }; let s := up; let s := { s with pkt := { s.pkt with hostSec := 10 ^ 9 } };
      decide (s.past 6 = true ∧ s.seq.st ≠ .safe ∧ s.portUp p = true ∧ s.intc.running = true ∧ p < 8 ∧ s.isService p f = false ∧
      s.get F.PKT_HOSTMAX * 100 ≤ s.pkt.hostSec)),
    (let p : Nat := 7; let f : Frame := { frame0 with body := .raw }; let s := svcUp;
      decide (s.past 6 = true ∧ s.seq.st ≠ .safe ∧ s.portUp p = true ∧ s.intc.running = true ∧ p < 8 ∧ s.isService p f = true ∧ s.classOf p f = none)),
    (let p : Nat := 7; let f : Frame := frame0; let c : Nat := 0; let s := svcUp.set F.PKT_CTRL 0;
      decide (s.past 6 = true ∧ s.seq.st ≠ .safe ∧ s.portUp p = true ∧ s.intc.running = true ∧ p < 8 ∧ s.classOf p f = some c ∧
      s.isService p f = true ∧ c ≠ 6 ∧ (s.mute = true ∨ s.classOn (s.portGroup p) c = false))),
    (let p : Nat := 7; let f : Frame := frame0; let c : Nat := 0; let s := svcUp.set (F.MTS_LANE_CFG 7) 0;
      decide (s.past 6 = true ∧ s.seq.st ≠ .safe ∧ s.portUp p = true ∧ s.intc.running = true ∧ p < 8 ∧ s.classOf p f = some c ∧
      s.isService p f = true ∧ c ≠ 6 ∧ s.mute = false ∧ s.classOn (s.portGroup p) c = true ∧ s.rxMeter (s.rxLane p) = false)),
    (let p : Nat := 7; let f : Frame := { frame0 with body := .ntp ext0 }; let c : Nat := 1; let s := svcUp;
      decide (s.past 6 = true ∧ s.seq.st ≠ .safe ∧ s.portUp p = true ∧ s.intc.running = true ∧ p < 8 ∧ s.classOf p f = some c ∧
      s.isService p f = true ∧ c ≤ 2 ∧ s.mute = false ∧ s.classOn (s.portGroup p) c = true ∧ s.rxMeter (s.rxLane p) = true ∧
      s.storeFill (s.portGroup p) < 8192 ∧ (s.req? s.pkt.nextId).isNone = true)),
    (let id : Nat := 0; let d : Decision := .unknown; let r : Req := { req0 with dec := some d, got := none }; let s := up;
      let s := { s with pkt := { s.pkt with reqs := [r] } };
      decide (s.past 6 = true ∧ s.seq.st ≠ .safe ∧ s.intc.running = true ∧ s.req? id = some r ∧ r.dec = some d ∧
      (d = .unknown ∨ d = .bad) ∧ r.got = none)),
    (let id : Nat := 0; let d : Decision := .denied; let r : Req := { req0 with dec := some d, got := none }; let s := up;
      let s := { s with pkt := { s.pkt with reqs := [r] } }; let s := s.setB F.PKT_CTRL_KOD false;
      decide (s.past 6 = true ∧ s.seq.st ≠ .safe ∧ s.intc.running = true ∧ s.req? id = some r ∧ r.dec = some d ∧ d = .denied ∧
      r.got = none ∧ (s.on F.PKT_CTRL_KOD = false ∨ r.cls ≠ 0))),
    (let id : Nat := 0; let d : Decision := .denied; let r : Req := { req0 with dec := some d, got := none, cls := 0 }; let s := up;
      let s := { s with pkt := { s.pkt with reqs := [r] } }; let s := s.setB F.PKT_CTRL_KOD true;
      decide (s.past 6 = true ∧ s.seq.st ≠ .safe ∧ s.intc.running = true ∧ s.req? id = some r ∧ r.dec = some d ∧ d = .denied ∧
      r.got = none ∧ s.on F.PKT_CTRL_KOD = true ∧ r.cls = 0 ∧ s.pkt.kodSec < s.get F.PKT_KODMAX * 100)),
    (let d : Grantd := ⟨0, 0, 65535, 0, 0, 0, 0, false, false, 0⟩; let r : Req := { req0 with dec := some (.grant d), cls := 2 }; let id : Nat := 0;
      let s := up; let s := { s with pkt := { s.pkt with reqs := [r] } };
      decide (s.past 6 = true ∧ s.seq.st ≠ .safe ∧ s.intc.running = true ∧ s.req? id = some r ∧ r.dec = some (.grant d) ∧ r.got = none ∧
      r.id = id ∧ r.cls ≤ 2 ∧ r.needAuth = false)),
    (let id : Nat := 0; let r : Req := { req0 with dec := some .anon, got := none }; let s := up;
      let s := { s with pkt := { s.pkt with reqs := [r] } }; let s := s.setB F.PKT_CTRL_ANONEN false; let s := s.setB F.PKT_CTRL_ANONEN false;
      decide (s.past 6 = true ∧ s.seq.st ≠ .safe ∧ s.intc.running = true ∧ s.req? id = some r ∧ r.dec = some .anon ∧ r.got = none ∧
      s.on F.PKT_CTRL_ANONEN = false)),
    (let c : Nat := 15;
      let r : Req := { req0 with ver := some (.fail c), needAuth := true, got := some (.grant ⟨0, 0, 0, 0, 0, 0, 0, false, false, 0⟩) };
      let id : Nat := 0; let s := up; let s := { s with pkt := { s.pkt with reqs := [r] } };
      decide (s.past 6 = true ∧ s.seq.st ≠ .safe ∧ s.intc.running = true ∧ s.req? id = some r ∧ r.ver = some (.fail c) ∧
      r.gotVer = none ∧ r.grantd.isSome = true ∧ r.needAuth = true ∧ c < 16)),
    (let id : Nat := 0; let r : Req := { req0 with ver := some (.pass [] none 0 [] 0), cls := 2 }; let s := up;
      let s := { s with pkt := { s.pkt with reqs := [r] } };
      decide (s.past 6 = true ∧ s.seq.st ≠ .safe ∧ s.intc.running = true ∧ s.req? id = some r ∧ r.ver.isSome = true ∧ r.gotVer = none ∧
      r.cls ≤ 2 ∧ r.grantd = none ∧ r.anon = false)),
    (let id : Nat := 0; let s := up; let s := { s with pkt := { s.pkt with reqs := [req0] } };
      decide (s.past 6 = true ∧ s.seq.st ≠ .safe ∧ s.intc.running = true ∧ (s.req? id).isSome = true))].all id = true := by decide +kernel

/-- The hypotheses of the clauses of Convoys can be met. -/
theorem witness_Convoys : [
    (let s := up; decide (s.past 6 = true ∧ s.seq.st ≠ .safe ∧ s.intc.running = true)),
    (let id : Nat := 0; let x : Slot := slot0; let s := up; let s := { s with pkt := { s.pkt with slots := [x] } };
      let s := { s with mts := { s.mts with lfault := [0, 1, 2, 3, 4, 5, 6, 7] } };
      decide (s.past 6 = true ∧ s.seq.st ≠ .safe ∧ s.intc.running = true ∧ s.slot? id = some x ∧ s.portSends x.item.port = false)),
    (let id : Nat := 0; let pos : Nat := 1; let x : Slot := { slot0 with ph := .placed, spec := true, pos := pos, shift := 0, fall := false };
      let s := up; let s := { s with pkt := { s.pkt with slots := [x] } };
      decide (s.past 6 = true ∧ s.seq.st ≠ .safe ∧ s.intc.running = true ∧ s.slot? id = some x ∧ x.ph = .placed ∧ x.spec = true ∧
      (x.needTag = false ∨ x.tagged = true) ∧ x.pos = pos ∧ x.shift = 0 ∧ x.fall = false ∧ x.item.port < 8 ∧ s.portSends x.item.port = true)),
    (let id : Nat := 0; let pos : Nat := 1; let x : Slot := { slot0 with ph := .placed, spec := true }; let s := up;
      let s := { s with pkt := { s.pkt with slots := [x] } };
      decide (s.past 6 = true ∧ s.seq.st ≠ .safe ∧ s.intc.running = true ∧ s.slot? id = some x ∧ x.ph = .placed ∧ x.spec = true ∧
      (x.needTag = false ∨ x.tagged = true) ∧ x.pos ≠ pos ∧ (x.shift = 0 ∨ (pos : Int) = x.pos + x.shift) ∧ x.item.port < 8 ∧
      s.portSends x.item.port = true)),
    (let id : Nat := 0; let pos : Nat := 1; let x : Slot := { slot0 with ph := .locked, pos := pos, fall := false }; let s := up;
      let s := { s with pkt := { s.pkt with slots := [x] } };
      decide (s.past 6 = true ∧ s.seq.st ≠ .safe ∧ s.intc.running = true ∧ s.slot? id = some x ∧ x.ph = .locked ∧
      (x.needTag = false ∨ x.tagged = true) ∧ x.pos = pos ∧ x.fall = false ∧ x.item.port < 8 ∧ s.portSends x.item.port = true)),
    (let id : Nat := 0; let x : Slot := { slot0 with ph := .confirmed, fcs := true }; let s := up;
      let s := { s with pkt := { s.pkt with slots := [x] } };
      decide (s.past 6 = true ∧ s.seq.st ≠ .safe ∧ s.intc.running = true ∧ s.slot? id = some x ∧ x.ph = .confirmed ∧ x.fcs = true)),
    (let id : Nat := 0; let x : Slot := { slot0 with ph := .missed, fcs := true }; let s := up;
      let s := { s with pkt := { s.pkt with slots := [x] } };
      decide (s.past 6 = true ∧ s.seq.st ≠ .safe ∧ s.intc.running = true ∧ s.slot? id = some x ∧ x.ph = .missed ∧ x.fcs = true)),
    (let id : Nat := 0; let pos : Nat := 13200; let x : Slot := { slot0 with wantLock := true, fcs := false, ph := .missed }; let s := up;
      let s := { s with pkt := { s.pkt with slots := [x] } }; let s := { s with pkt := { s.pkt with nextId := 1 } };
      decide (s.past 6 = true ∧ s.seq.st ≠ .safe ∧ s.intc.running = true ∧ s.slot? id = some x ∧ x.wantLock = true ∧ x.fcs = false ∧
      s.portSends x.item.port = true ∧ s.lockable x pos = true ∧ s.openSpec = [] ∧ s.pkt.slots.all (fun y => y.id < s.pkt.nextId) = true)),
    (let id : Nat := 0; let j : AuthJob := .tag id; let r : List AuthJob := []; let s := up;
      let s := { s with auth := { s.auth with jobs := j :: r } };
      decide (s.past 6 = true ∧ s.seq.st ≠ .safe ∧ s.intc.running = true ∧ s.auth.jobs = j :: r ∧ j = .tag id ∧
      r.any AuthJob.isRetag = false ∧ s.slot? id = none)),
    (let id : Nat := 0; let j : AuthJob := .tag id; let r : List AuthJob := []; let s := up;
      let s := { s with auth := { s.auth with jobs := j :: r } };
      let s := { s with pkt := { s.pkt with slots := [{ slot0 with content := .ptp { group := 0, type := 0, tr := 0 } }] } };
      decide (s.past 6 = true ∧ s.seq.st ≠ .safe ∧ s.intc.running = true ∧ s.auth.jobs = j :: r ∧ j = .tag id ∧
      r.any AuthJob.isRetag = false ∧ s.canTag j = true ∧
      (s.slot? id).any (fun x => match x.content with | .ptp o => (s.ptpKey o.group).isNone | _ => false) = true)),
    (let id : Nat := 0; let j : AuthJob := .tag id; let r : List AuthJob := []; let s := up;
      let s := { s with auth := { s.auth with jobs := j :: r } };
      let s := { s with pkt := { s.pkt with slots := [{ slot0 with content := .ntp ⟨0, 4, 4, 1, 0, 0, 0, 0, 0, 0, 0, 0, 0, [], none, 0, 0, none⟩ }] } };
      decide (s.past 6 = true ∧ s.seq.st ≠ .safe ∧ s.intc.running = true ∧ s.auth.jobs = j :: r ∧ j = .tag id ∧
      r.any AuthJob.isRetag = false ∧ s.canTag j = true ∧
      (s.slot? id).any (fun x => match x.content with | .ptp o => (s.ptpKey o.group).isSome | .ntp _ => true | _ => false) = true)),
    (let s := up; decide (s.past 6 = true ∧ s.seq.st ≠ .safe ∧ s.intc.running = true ∧ s.auth.jobs.all (fun j => !s.canTag j) = true)),
    (let id : Nat := 0; let p : List Nat := [1]; let m : Nat := 1; let a : Nat := 0; let l : List Nat := []; let k : Nat := 0;
      let x : Slot := { slot0 with id := 0, item := ⟨0, 0, .req { req0 with gotVer := some (.pass p (some m) a l k) }, 0⟩ }; let s := up;
      let s := { s with pkt := { s.pkt with slots := [x] } }; let s := { s with pkt := { s.pkt with slots := [x] } };
      decide (s.past 6 = true ∧ s.seq.st ≠ .safe ∧ s.intc.running = true ∧ s.slot? id = some x ∧ x.verdict = some (.pass p (some m) a l k))),
    (let id : Nat := 0; let x : Slot := { slot0 with needTag := true, item := ⟨7, 0, .host 60, 0⟩ }; let s := up;
      let s := { s with pkt := { s.pkt with slots := [x] } };
      decide (s.past 6 = true ∧ s.seq.st ≠ .safe ∧ s.intc.running = true ∧ s.slot? id = some x ∧ x.needTag = true ∧ x.tagged = false ∧
      x.ph = .placed ∧ x.id = id ∧ x.item.port < 8))].all id = true := by decide +kernel

/-- The hypotheses of the clauses of PtpTimers can be met. -/
theorem witness_PtpTimers : [
    (let g : Nat := 1; let ty : Nat := 0; let s := up; let s := s.setB F.PKT_CTRL_PTPEN true; let s := s.setB (F.PKT_PTP_CFG_EN g) true;
      decide (s.past 6 = true ∧ s.seq.st ≠ .safe ∧ s.intc.running = true ∧ s.pkt.slaves.length = 2 ∧ g < 2 ∧ (ty = 11 ∨ ty = 0) ∧
      s.on F.PKT_CTRL_PTPEN = true ∧ s.on (F.PKT_PTP_CFG_EN g) = true ∧ s.mute = false ∧ s.rdn.firstAnn = [])),
    (let s := up; let s := s.set F.PKT_SVC_STATE 0;
      decide (s.past 6 = true ∧ s.seq.st ≠ .safe ∧ s.intc.running = true ∧ s.pkt.slaves.length = 2 ∧ s.mute = true)),
    (let n : Nat := 0; let ty : Nat := 11; let x : UGrant := grant0; let s := up; let s := s.setB F.PKT_CTRL_PTPEN true;
      let s := s.setB (F.PKT_PTP_CFG_EN x.group) true; let s := { s with pkt := { s.pkt with grants := [x] } };
      decide (s.past 6 = true ∧ s.seq.st ≠ .safe ∧ s.intc.running = true ∧ s.pkt.slaves.length = 2 ∧
      s.pkt.grants.find? (fun y => y.entry = n && y.type = ty) = some x ∧ ty ≠ 9 ∧ s.secNow < x.expiry ∧ s.mute = false ∧
      s.on F.PKT_CTRL_PTPEN = true ∧ s.on (F.PKT_PTP_CFG_EN x.group) = true)),
    (let n : Nat := 0; let ty : Nat := 11; let s := up;
      let s := { s with pkt := { s.pkt with grants := [grant0] }, tb := { s.tb with time := 100 * SEC48 } };
      decide (s.past 6 = true ∧ s.seq.st ≠ .safe ∧ s.intc.running = true ∧ s.pkt.slaves.length = 2 ∧
      s.pkt.grants.any (fun x => x.entry = n && x.type = ty && x.expiry ≤ s.secNow) = true)),
    (let g : Nat := 1; let t1 : Nat := 1; let t2 : Nat := 1; let d : Int := 1; let s := up;
      let s : State := { s with pkt := { s.pkt with slaves := modAt s.pkt.slaves g (fun y => { y with pair := some (t1, t2) }) } };
      let s : State := { s with pkt := { s.pkt with slaves := modAt s.pkt.slaves g (fun y => { y with delay := some d }) } };
      let s : State := { s with pkt := { s.pkt with slaves := modAt s.pkt.slaves g (fun y => { y with pairNew := true }) } };
      let s := s.set (F.PKT_PTP_SLVSTAT_STATE g) 3;
      decide (s.past 6 = true ∧ s.seq.st ≠ .safe ∧ s.intc.running = true ∧ s.pkt.slaves.length = 2 ∧ g < 2 ∧
      (s.slave g).pair = some (t1, t2) ∧ (s.slave g).delay = some d ∧ (s.slave g).pairNew = true ∧ s.get (F.PKT_PTP_SLVSTAT_STATE g) = 3)),
    (let g : Nat := 1; let s := up; let s := s.set (F.PKT_PTP_SLVSTAT_STATE g) (2);
      decide (s.past 6 = true ∧ s.seq.st ≠ .safe ∧ s.intc.running = true ∧ s.pkt.slaves.length = 2 ∧ g < 2 ∧ 2 ≤ s.get (F.PKT_PTP_SLVSTAT_STATE g))),
    (let g : Nat := 1; let s := up; let s := s.setB (F.PKT_PTP_SLVCFG_UNICAST g) true; let s := s.set (F.PKT_PTP_SLVSTAT_STATE g) (1);
      decide (s.past 6 = true ∧ s.seq.st ≠ .safe ∧ s.intc.running = true ∧ s.pkt.slaves.length = 2 ∧ g < 2 ∧
      s.on (F.PKT_PTP_SLVCFG_UNICAST g) = true ∧ 1 ≤ s.get (F.PKT_PTP_SLVSTAT_STATE g) ∧ [11, 0, 9].any ((s.slave g).due s.secNow) = true)),
    (let s := up; let s := s.set F.PKT_SVC_STATE 3; let s := { s with pkt := { s.pkt with svcMs := 10 ^ 9 } }; let s := s.set F.EBND_SERVELIM 1000;
      let s := s.set F.EBND_COMMON 0; decide (s.past 6 = true ∧ s.seq.st ≠ .safe ∧ s.intc.running = true ∧ s.pkt.slaves.length = 2 ∧
      (s.get F.PKT_SVC_STATE = 3 ∨ s.get F.PKT_SVC_STATE = 4) ∧ s.boundOver = false ∧ s.get F.PKT_SVCHOLD ≤ s.pkt.svcMs))].all id = true := by decide +kernel

/-- The hypotheses of the clauses of PktWaybills can be met. -/
theorem witness_PktWaybills : [
    (let h : WbHead := h0; let a : Nat := 2047; let b : Nat := 65535; let c : Nat := 255; let d : Nat := 65535; let e : Nat := 65535; let s := up;
      readyB h s && decide (s.pkt.cfgs = [] ∧ s.pkt.ready = [] ∧ a < 2048 ∧ 1 ≤ b ∧ b < 65536 ∧ c < 256 ∧ d < 65536 ∧ e < 65536)),
    (let h : WbHead := h0; let a : Nat := 65535; let b : Nat := 281474976710655; let k : Nat := 7; let s := up;
      readyB h s && decide (s.pkt.cfgs = [] ∧ s.pkt.ready = [] ∧ k < 8 ∧ a < 65536 ∧ a ≠ s.get F.PKT_GEN ∧ b < 2 ^ 48)),
    (let h : WbHead := h0; let a : Nat := 65535; let b : Nat := 65535; let c : Nat := 4294967295; let d : Nat := 65535; let p4 : Nat := 32;
      let p6 : Nat := 128; let gm : Nat := 4095; let gd : Nat := 65535; let gb : Nat := 4294967295; let s := up;
      readyB h s && decide (s.pkt.cfgs = [] ∧ s.pkt.ready = [] ∧ 1 ≤ a ∧ a < 65536 ∧ 1 ≤ b ∧ b < 65536 ∧ 8 ≤ p4 ∧ p4 ≤ 32 ∧ 32 ≤ p6 ∧
      p6 ≤ 128 ∧ c < 2 ^ 32 ∧ d < 65536 ∧ gm < 4096 ∧ 10 ≤ gd ∧ gd < 65536 ∧ gb < 2 ^ 32)),
    (let h : WbHead := h0; let a : Nat := 31; let b : Nat := 4095; let c : Nat := 340282366920938463463374607431768211455; let k : Nat := 7;
      let s := up; readyB h s && decide (s.pkt.cfgs = [] ∧ s.pkt.ready = [] ∧ k < 8 ∧ a < 32 ∧ b < 4096 ∧ c < 2 ^ 128)),
    (let h : WbHead := h0; let a : Nat := 281474976710655; let k : Nat := 7; let s := up;
      readyB h s && decide (s.pkt.cfgs = [] ∧ s.pkt.ready = [] ∧ k < 8 ∧ a < 2 ^ 48)),
    (let h : WbHead := h0; let a : Nat := 511; let b : Nat := 255; let c : Nat := 65535; let d : Nat := 4095; let e : Nat := 255; let k : Nat := 1;
      let s := up; readyB h s && decide (s.pkt.cfgs = [] ∧ s.pkt.ready = [] ∧ k < 2 ∧ a < 512 ∧ b < 256 ∧ c < 65536 ∧ d < 4096 ∧ e < 256 ∧
      s.pkt.epoch.length = 2)),
    (let h : WbHead := h0; let a : Nat := 1; let b : Nat := 18446744073709551615; let c : Nat := 340282366920938463463374607431768211455;
      let k : Nat := 1; let s := up;
      readyB h s && decide (s.pkt.cfgs = [] ∧ s.pkt.ready = [] ∧ k < 2 ∧ a < 4096 ∧ a / 16 % 4 ≤ 2 ∧ a / 64 % 4 = 0 ∧ b < 2 ^ 64 ∧
      c < 2 ^ 128 ∧ s.pkt.slaves.length = 2)),
    (let h : WbHead := h0; let a : Nat := 4294967295; let k : Nat := 12; let s := up;
      readyB h s && decide (s.pkt.cfgs = [] ∧ s.pkt.ready = [] ∧ k < 13 ∧ a < 2 ^ 32)),
    (let h : WbHead := h0; let a : Nat := 32; let n : Nat := 1; let s := up; readyB h s && decide (a < 33 ∧ a + n ≤ 33)),
    (let h : WbHead := h0; let a : Nat := 7; let n : Nat := 1; let s := up; readyB h s && decide (a < 8 ∧ a + n ≤ 8 ∧ (s.entryOf h).spec = false ∧
      (List.range n).all (fun i => (s.latched 3 (F.PKT_PORT_LASTST (a + i)).addr).isNone) = true)),
    (let h : WbHead := h0; let k : Nat := 1; let s := up; readyB h s && decide (k < 2)),
    (let h : WbHead := h0; let k : Nat := 2; let s := up; readyB h s && decide (k < 3 ∧ s.pkt.cfgs = [] ∧ s.pkt.ready = [] ∧ s.pkt.epoch.length = 2))].all id = true := by decide +kernel

/-- The hypotheses of the clauses of AuthVerdicts can be met. -/
theorem witness_AuthVerdicts : [
    (let id : Nat := 1; let g : Bool := true; let j : AuthJob := .verify id g; let r : List AuthJob := []; let s := up;
      let s := { s with auth := { s.auth with jobs := j :: r } };
      decide (s.past 3 = true ∧ s.seq.st ≠ .safe ∧ s.intc.running = true ∧ s.auth.jobs = j :: r ∧ j = .verify id g ∧
      (g = true ∨ r.any (isVerify true) = false) ∧ (r.all (fun k => isVerify true k || isVerify false k) = true))),
    (let s := up; let s := { s with auth := { s.auth with jobs := [.tag 0] } };
      decide (s.past 3 = true ∧ s.seq.st ≠ .safe ∧ s.intc.running = true ∧ s.auth.jobs.any (fun j => j.slot.isSome) = true)),
    (let id : Nat := 0; let q : Req := { req0 with body := .ntp ext0 }; let e : Nat := 7; let d : List Nat := [1]; let m : List Nat := [2];
      let s := up; let s := { s with pkt := { s.pkt with reqs := [q] } };
      decide (s.past 3 = true ∧ s.seq.st ≠ .safe ∧ s.intc.running = true ∧ s.req? id = some q ∧
      (match q.body with | .ntp x => x.ext | _ => .none) = .mac e d m)),
    (let id : Nat := 0; let g : Bool := true; let s := up; let s := { s with auth := { s.auth with jobs := [.verify 0 true] } };
      decide (s.past 3 = true ∧ s.seq.st ≠ .safe ∧ s.intc.running = true ∧ s.auth.jobs.contains (.verify id g) = true))].all id = true := by decide +kernel

/-- The hypotheses of the clauses of KeyLife can be met. -/
theorem witness_KeyLife : [
    (let s := up; let s := s.setB F.AUTH_STAT_DRBGOK true;
      decide (s.past 3 = true ∧ s.seq.st ≠ .safe ∧ s.intc.running = true ∧ s.on F.AUTH_STAT_DRBGOK = true)),
    (let n : Nat := 3; let s := up; let s := { s with auth := { s.auth with stages := [(3, {})] } };
      decide (s.past 3 = true ∧ s.seq.st ≠ .safe ∧ s.intc.running = true ∧ s.auth.stages.any (fun p => p.1 = n) = true)),
    (let n : Nat := 1023; let c : KeyChange := ⟨1023, 7⟩; let r : List KeyChange := []; let s := up;
      let s := { s with auth := { s.auth with changes := c :: r } };
      decide (s.past 3 = true ∧ s.seq.st ≠ .safe ∧ s.intc.running = true ∧ n < 1024 ∧ s.slotsUsed.all (fun m => m < 1024) = true ∧
      s.auth.changes = c :: r ∧ r = [] ∧ c.slot = n ∧ c.state < 8 ∧ s.keyState n ≠ 4)),
    (let n : Nat := 1023; let s := up; let s := { s with auth := { s.auth with zero := [⟨none, 1, [1023]⟩], keys := [(1023, [])] } };
      decide (s.past 3 = true ∧ s.seq.st ≠ .safe ∧ s.intc.running = true ∧ n < 1024 ∧ s.slotsUsed.all (fun m => m < 1024) = true ∧
      s.zeroising n = true ∧ s.keyHeld n = false)),
    (let n : Nat := 1023; let s := up; let s := s.set (F.AUTH_SLOT_CFG_STATE n) 1;
      decide (s.past 3 = true ∧ s.seq.st ≠ .safe ∧ s.intc.running = true ∧ n < 1024 ∧ s.slotsUsed.all (fun m => m < 1024) = true ∧ s.keyState n ≠ 0)),
    (let n : Nat := 1023; let x : Rotation := { rot0 with new := 1023 }; let r : List Rotation := []; let s := up;
      let s := { s with auth := { s.auth with rots := x :: r } };
      decide (s.past 3 = true ∧ s.seq.st ≠ .safe ∧ s.intc.running = true ∧ n < 1024 ∧ s.slotsUsed.all (fun m => m < 1024) = true ∧
      s.auth.rots = x :: r ∧ x.new = n ∧ x.activated = false ∧ x.act ≤ s.secNow ∧ 1 ≤ x.delay ∧ s.keyState n ≠ 4 ∧ x.gen = s.get F.AUTH_GEN)),
    (let n : Nat := 1023; let x : Rotation := { rot0 with new := 1023, old := some 1022, activated := true, act := 1, delay := 1 };
      let r : List Rotation := []; let o : Nat := 1022; let s := up; let s := { s with auth := { s.auth with rots := x :: r } };
      let s := { s with tb := { s.tb with time := 2 * SEC48 } };
      decide (s.past 3 = true ∧ s.seq.st ≠ .safe ∧ s.intc.running = true ∧ n < 1024 ∧ s.slotsUsed.all (fun m => m < 1024) = true ∧
      s.auth.rots = x :: r ∧ x.new = n ∧ x.activated = true ∧ x.retiring = false ∧ x.act + x.delay ≤ s.secNow ∧ x.old = some o ∧
      s.keyHeld o = false ∧ o < 1024 ∧ s.canWrite x.wb.ring x.wb.slot = true)),
    (let n : Nat := 1023; let x : Rotation := { rot0 with new := 1023, old := some 1022, activated := true, act := 1, delay := 1 };
      let r : List Rotation := []; let o : Nat := 1022; let s := up; let s := { s with auth := { s.auth with rots := x :: r } };
      let s := { s with tb := { s.tb with time := 2 * SEC48 } };
      let s := { s with pkt := { s.pkt with reqs := [{ req0 with ver := some (.pass [o] none 0 [] 0) }] } };
      decide (s.past 3 = true ∧ s.seq.st ≠ .safe ∧ s.intc.running = true ∧ n < 1024 ∧ s.slotsUsed.all (fun m => m < 1024) = true ∧
      s.auth.rots = x :: r ∧ x.new = n ∧ x.activated = true ∧ x.retiring = false ∧ x.act + x.delay ≤ s.secNow ∧ x.old = some o ∧ s.keyHeld o = true))].all id = true := by decide +kernel

/-- The hypotheses of the clauses of KeyWaybills can be met. -/
theorem witness_KeyWaybills : [
    (let h : WbHead := h0; let n : Nat := 1023; let ty : Nat := 5; let pe : Nat := 1; let id : Nat := 4294967295; let spp : Nat := 255;
      let key : List Word := List.replicate 16 0xABCD; let s := up.set (F.AUTH_SLOT_CFG n) 0; let s := s.set (F.AUTH_SLOT_CFG_STATE n) 0;
      readyB h s && decide (n < 1024 ∧ s.keyState n = 0 ∧ 1 ≤ ty ∧ ty ≤ 5 ∧ ty ≠ 3 ∧ pe < 2 ∧ spp < 256 ∧ id < 2 ^ 32 ∧
      2 * key.length = keyLen ty ∧ kcvOf ty (wordBytes key) < 2 ^ 24 ∧ s.slotsUsed.contains n = false)),
    (let h : WbHead := h0; let n : Nat := 1023; let ty : Nat := 5; let key : List Word := List.replicate 16 0xABCD; let s := up;
      let s := s.set (F.AUTH_SLOT_CFG_STATE n) 1; let s := { s with auth := { s.auth with keys := [(n, [1])] } };
      readyB h s && decide (n < 1024 ∧ s.slotsUsed.contains n = true ∧ 1 ≤ ty ∧ ty ≤ 5 ∧ 2 * key.length = keyLen ty)),
    (let h : WbHead := h0; let n : Nat := 1023; let st : Nat := 3; let s := up; let s := s.set (F.AUTH_SLOT_CFG_STATE n) 1;
      readyB h s && decide (n < 1024 ∧ 1 ≤ st ∧ st ≤ 3 ∧ s.keyState n ≠ 0 ∧ s.keyState n ≠ 4 ∧ (s.keyType n ≠ 5 ∨ st = 1) ∧
      s.rotsOf n = [] ∧ s.zeroising n = false)),
    (let h : WbHead := h0; let n : Nat := 1023; let s := up; let s := { s with auth := { s.auth with keys := [(1023, [])] } };
      readyB h s && decide (n < 1024 ∧ s.slotsUsed.contains n = true ∧ s.auth.rots = [])),
    (let h : WbHead := h0; let n : Nat := 1023; let s := up; readyB h s && decide (n < 1024 ∧ s.slotsUsed.contains n = false ∧ s.auth.rots = [])),
    (let h : WbHead := h0; let n : Nat := 1023; let act : Nat := 18446744073709551615; let d : Nat := 4294967295; let s := up;
      let s := s.set (F.AUTH_SLOT_CFG_TYPE n) 1; let s := s.set (F.AUTH_SLOT_CFG_STATE n) 1;
      readyB h s && decide (n < 1024 ∧ act < 2 ^ 64 ∧ d < 2 ^ 32 ∧ (s.keyType n = 1 ∨ s.keyType n = 2) ∧ s.keyState n = 1 ∧
      s.zeroising n = false ∧ s.on F.TBASE_STAT_TIMESET = true ∧ s.auth.rots.any (fun r => !r.ptp && r.spp = 0) = false)),
    (let h : WbHead := h0; let n : Nat := 1023; let spp : Nat := 255; let k : Nat := 1; let s := up;
      readyB h s && decide (n < 1024 ∧ k < 2 ∧ spp < 256 ∧ s.auth.rots = []))].all id = true := by decide +kernel

/-- The hypotheses of the clauses of AuthWaybills can be met. -/
theorem witness_AuthWaybills : [
    (let h : WbHead := h0; let a : Nat := 65535; let c : Nat := 4; let s := up; readyB h s && decide (c < 64 ∧ 1 ≤ c / 4 ∧ c / 4 ≤ 8 ∧ a < 65536)),
    (let h : WbHead := h0; let n : Nat := 8; let keys : List Word := List.replicate 32 0xABCD; let s := up; let s := s.setB F.AUTH_STAT_CURVALID true;
      let s := s.setB F.AUTH_STAT_DRBGOK true; let s := s.setB F.AUTH_CTRL_EN256 true;
      readyB h s && decide (n ≤ 8 ∧ keys.length = 32 ∧ s.on F.AUTH_STAT_CURVALID = true ∧ s.zeroising (s.get F.AUTH_CURNTS) = false ∧
      s.on F.AUTH_STAT_DRBGOK = true ∧ s.on F.AUTH_CTRL_EN256 = true ∧ s.auth.jobs = [])),
    (let h : WbHead := h0; let n : Nat := 8; let keys : List Word := List.replicate 32 0xABCD; let s := up;
      let s := s.setB F.AUTH_STAT_CURVALID false; readyB h s && decide (1 ≤ n ∧ n ≤ 8 ∧ keys.length = 32 ∧
      (s.on F.AUTH_STAT_CURVALID = false ∨ s.on F.AUTH_STAT_DRBGOK = false ∨ s.on F.AUTH_CTRL_EN256 = false) ∧ s.auth.jobs = [])),
    (let h : WbHead := h0; let n : Nat := 8; let k : Nat := 3; let s := up;
      readyB h s && decide (1 ≤ n ∧ n ≤ 8 ∧ k < 4 ∧ s.auth.stages.all (fun p => p.1 ≠ k) = true ∧ s.auth.jobs = [])),
    (let h : WbHead := h0; let n : Nat := 8; let keys : List Word := List.replicate 32 0xABCD; let s := up;
      let s := { s with auth := { s.auth with jobs := [.tag 0] } }; readyB h s && decide (1 ≤ n ∧ n ≤ 8 ∧ keys.length = 32 ∧ s.auth.jobs ≠ [])),
    (let h : WbHead := h0; let k : Nat := 3; let keys : List Word := List.replicate 32 0xABCD; let s := up;
      readyB h s && decide (k < 4 ∧ keys.length = 32 ∧ s.auth.stages = [])),
    (let h : WbHead := h0; let a : Nat := 1023; let n : Nat := 1; let s := up; readyB h s && decide (a < 1024 ∧ n ≤ 16 ∧ a + n ≤ 1024)),
    (let h : WbHead := h0; let a : Nat := 13; let n : Nat := 1; let s := up; readyB h s && decide (a < 14 ∧ a + n ≤ 14))].all id = true := by decide +kernel

/-- The hypotheses of the clauses of TableLookups can be met. -/
theorem witness_TableLookups : [
    (let id : Nat := 0; let r : Req := req0; let s := up; let s := { s with pkt := { s.pkt with reqs := [r] } };
      let s := { s with pkt := { s.pkt with reqs := [req0] } };
      decide (s.ctabUp = true ∧ s.intc.running = true ∧ s.req? id = some r ∧ r.dec = none ∧ r.looksUp = true ∧ s.turn r = true ∧
      s.findKey r.key = none ∧ s.rebuilding r.key = false))].all id = true := by decide +kernel

/-- The hypotheses of the clauses of CommitsAndLeases can be met. -/
theorem witness_CommitsAndLeases : [
    (let c : Commit := .lost 0 0; let r : List Commit := []; let s := up; let s := { s with ctab := { s.ctab with commits := c :: r } };
      decide (s.ctabUp = true ∧ s.intc.running = true ∧ s.ctab.commits = c :: r ∧ s.mayLease c.entry (.commit c) = true ∧
      (s.eValid c.entry = false ∨ s.eGen c.entry ≠ c.gen))),
    (let c : Commit := .lost 4194303 7; let r : List Commit := []; let s := up; let s := { s with ctab := { s.ctab with commits := c :: r } };
      let s := (s.ePut 4194303 0 2 1).ePut 4194303 0x16 2 7;
      decide (s.ctabUp = true ∧ s.intc.running = true ∧ s.ctab.commits = c :: r ∧ s.mayLease c.entry (.commit c) = true ∧
      s.eValid c.entry = true ∧ s.eGen c.entry = c.gen ∧ c.entry < 2 ^ 22)),
    (let e : Nat := 4194303; let g : Nat := 7; let rx : Nat := 0; let tx : Nat := 1; let kind : Nat := 1; let cls : Nat := 2;
      let inter : Bool := true; let again : Bool := false; let xmt : Nat := 1; let bound : Nat := 1; let prev : Nat := 1; let r : List Commit := [];
      let s := up; let s := { s with ctab := { s.ctab with commits := .resp e g rx tx kind cls inter again xmt bound prev :: r } };
      let s := (((s.ePut e 0 2 1).ePut e 0x16 2 7).ePut e 0x68 2 1).ePut e 0x48 16 5;
      decide (s.ctabUp = true ∧ s.intc.running = true ∧ s.ctab.commits = .resp e g rx tx kind cls inter again xmt bound prev :: r ∧
      s.leased e = false ∧ s.ctab.queue = [] ∧ s.eValid e = true ∧ s.eGen e = g ∧ e < 2 ^ 22 ∧ cls < 3 ∧ s.eGet e 0x68 2 % 2 = 1 ∧
      time128 rx < s.eGet e 0x48 16)),
    (let c : Commit := .lost 4194303 7; let l : Lease := ⟨4194303, .commit c⟩; let n : Nat := 4194303; let r : List Lease := []; let s := up;
      let s := { s with ctab := { s.ctab with leases := l :: r } };
      decide (s.ctabUp = true ∧ s.intc.running = true ∧ n < 2 ^ 22 ∧ s.ctab.leases = l :: r ∧ l.entry = n ∧ l.op = .commit c)),
    (let n : Nat := 4194303; let s := up; let s := { s with ctab := { s.ctab with leases := [⟨4194303, .load⟩] } };
      decide (s.ctabUp = true ∧ s.intc.running = true ∧ n < 2 ^ 22 ∧ s.leased n = true)),
    (let n : Nat := 4194303; let s := up; let s := s.ePut n 0 2 2; let s := s.ePut n 0xFC 4 (crc32 (s.memBytes (entAddr n) 0xFC));
      decide (s.ctabUp = true ∧ s.intc.running = true ∧ n < 2 ^ 22 ∧ s.leased n = false ∧ s.eBit n 1 = true ∧ s.eBad n = false ∧
      s.eGet n 0xFC 4 = crc32 (s.memBytes (entAddr n) 0xFC))),
    (let n : Nat := 4194303; let s := up; let s := s.ePut n 0 2 2;
      decide (s.ctabUp = true ∧ s.intc.running = true ∧ n < 2 ^ 22 ∧ s.leased n = false ∧ s.eBit n 1 = true ∧ s.eBad n = false ∧
      s.eGet n 0xFC 4 ≠ crc32 (s.memBytes (entAddr n) 0xFC))),
    (let n : Nat := 4194303; let s := up; let s := s.set F.FCOL_FENCEMAP 1;
      decide (s.ctabUp = true ∧ s.intc.running = true ∧ n < 2 ^ 22 ∧ s.get F.FCOL_FENCEMAP ≠ 0))].all id = true := by decide +kernel

/-- The hypotheses of the clauses of MemoryErrors can be met. -/
theorem witness_MemoryErrors : [
    (let n : Nat := 1; let s := up; decide (s.ctabUp = true ∧ s.intc.running = true ∧ 1 ≤ n)),
    (let k : Nat := 4194303; let n : Nat := 1; let s := up; let s := s.setB (F.HIF_DMA_STAT_BUSY 1) false;
      decide (s.ctabUp = true ∧ s.intc.running = true ∧ k < 2 ^ 22 ∧ n < 0x400 ∧ s.on (F.HIF_DMA_STAT_BUSY 1) = false)),
    (let k : Nat := 4194303; let n : Nat := 63; let s := up; let s := s.setB (F.HIF_DMA_STAT_BUSY 1) false;
      decide (s.ctabUp = true ∧ s.intc.running = true ∧ k < 2 ^ 22 ∧ n < 64 ∧ s.on (F.HIF_DMA_STAT_BUSY 1) = false)),
    (let k : Nat := 4194303; let n : Nat := 1; let s := up; let s := s.setB (F.HIF_DMA_STAT_BUSY 1) false;
      decide (s.ctabUp = true ∧ s.intc.running = true ∧ k < 2 ^ 22 ∧ n < 0x200 ∧ s.on (F.HIF_DMA_STAT_BUSY 1) = false)),
    (let n : Nat := 1; let s := up; let s := s.setB (F.HIF_DMA_STAT_BUSY 1) false;
      decide (s.ctabUp = true ∧ s.intc.running = true ∧ n < 0x3C000000 ∧ s.on (F.HIF_DMA_STAT_BUSY 1) = false ∧ s.ctab.bulks = [])),
    (let s := up; let s := { s with ctab := { s.ctab with rebuild := [1] } }; decide (s.ctabUp = true ∧ s.intc.running = true ∧ s.ctab.rebuild ≠ []))].all id = true := by decide +kernel

/-- The hypotheses of the clauses of BulkOperations can be met. -/
theorem witness_BulkOperations : [
    (let r : List Bulk := []; let h : WbHead := h0; let f : Nat := 1; let l : Nat := 1; let n : Nat := 1; let rs : List Word := [];
      let b : Bulk := .load h f l n rs; let s := up; let s := { s with ctab := { s.ctab with bulks := b :: r } };
      let s := { s with mgmt := { s.mgmt with taken := [{ taken0 with started := true, long := true, state := .running }] } };
      let s := s.setBit F.FCOL_FENCEMAP 6 false;
      decide (s.ctabUp = true ∧ s.intc.running = true ∧ s.ctab.bulks = b :: r ∧ b = .load h f l n rs ∧ s.running h = true ∧
      s.bit F.FCOL_FENCEMAP 6 = false ∧ s.mayLease s.loadEntry .load = true ∧ s.memN (loadBase + f * 320) 4 / 2 ^ 30 ≠ 3 ∧
      (s.memN (loadBase + f * 320) 4 / 2 ^ 30 = 0 → s.memN (loadBase + f * 320 + 4) 2 % 4 ≠ 3))),
    (let r : List Bulk := []; let h : WbHead := h0; let f : Nat := 1; let l : Nat := 1; let n : Nat := 1; let rs : List Word := [];
      let b : Bulk := .load h f l n rs; let s := up; let s := { s with ctab := { s.ctab with bulks := b :: r } };
      let s := { s with mgmt := { s.mgmt with taken := [{ taken0 with started := true, long := true, state := .running }] } };
      let s := s.setBit F.FCOL_FENCEMAP 6 false;
      decide (s.ctabUp = true ∧ s.intc.running = true ∧ s.ctab.bulks = b :: r ∧ b = .load h f l n rs ∧ s.running h = true ∧
      s.bit F.FCOL_FENCEMAP 6 = false ∧ s.mayLease s.loadEntry .load = true ∧ s.loadEntry ≤ 4194303)),
    (let r : List Bulk := []; let h : WbHead := h0; let f : Nat := 1; let l : Nat := 1; let n : Nat := 1; let fl : Nat := 1; let i : Nat := 1;
      let d : Nat := 1; let a : Nat := 0; let m : Nat := 1; let rs : List Word := []; let b : Bulk := .sweep h f l n fl i d a m rs; let s := up;
      let s := { s with ctab := { s.ctab with bulks := b :: r } };
      let s := { s with mgmt := { s.mgmt with taken := [{ taken0 with started := true, long := true, state := .running }] } };
      let s := s.setBit F.FCOL_FENCEMAP 6 false;
      decide (s.ctabUp = true ∧ s.intc.running = true ∧ s.ctab.bulks = b :: r ∧ b = .sweep h f l n fl i d a m rs ∧ a = 0 ∧
      s.running h = true ∧ s.bit F.FCOL_FENCEMAP 6 = false ∧ r = [] ∧ s.canWrite h.ring h.slot = true)),
    (let r : List Bulk := []; let h : WbHead := h0; let k : Bool := true; let f : Nat := 1; let l : Nat := 1; let n : Nat := 524288;
      let b : Bulk := .dump h k f l n; let s := up; let s := { s with ctab := { s.ctab with bulks := b :: r } };
      let s := { s with mgmt := { s.mgmt with taken := [{ taken0 with started := true, long := true, state := .running }] } };
      let s := s.setBit F.FCOL_FENCEMAP 6 false;
      decide (s.ctabUp = true ∧ s.intc.running = true ∧ s.ctab.bulks = b :: r ∧ b = .dump h k f l n ∧ s.running h = true ∧
      s.bit F.FCOL_FENCEMAP 6 = false ∧ r = [] ∧ s.canWrite h.ring h.slot = true ∧ l ≤ n ∧ n ≤ 524288)),
    (let s := up; let s := s.setBit F.FCOL_FENCEMAP 6 true; decide (s.ctabUp = true ∧ s.intc.running = true ∧ s.bit F.FCOL_FENCEMAP 6 = true)),
    (let h : WbHead := h0; let a : Nat := 15; let b : Nat := 168; let c : Nat := 65535; let d : Nat := 65535; let s := up;
      readyB h s && decide (1 ≤ a ∧ a < 16 ∧ 1 ≤ b ∧ b ≤ 168 ∧ c < 65536 ∧ 1 ≤ d ∧ d < 65536)),
    (let h : WbHead := h0; let f : Nat := 1; let n : Nat := 1; let s := up; readyB h s && decide (1 ≤ n ∧ f + n ≤ 3145728 ∧ s.bulkBusy 0 = false)),
    (let h : WbHead := h0; let f : Nat := 3145727; let s := up; readyB h s && decide (f ≤ 3145727)),
    (let h : WbHead := h0; let a : Nat := 31; let d : Nat := 2; let f : Nat := 4194304; let s := up;
      readyB h s && decide (f ≤ 4194304 ∧ a < 32 ∧ d < 3)),
    (let h : WbHead := h0; let a : Nat := 1; let f : Nat := 4194304; let s := up; readyB h s && decide (f ≤ 4194304 ∧ a < 2)),
    (let h : WbHead := h0; let f : Nat := 1; let n : Nat := 1; let s := up;
      let s := { s with ctab := { s.ctab with bulks := [.load ⟨3, 0, 7, 0⟩ 0 1 1 []] } };
      readyB h s && decide (1 ≤ n ∧ f + n ≤ 3145728 ∧ s.bulkBusy 0 = true)),
    (let h : WbHead := h0; let a : Nat := 31; let d : Nat := 2; let f : Nat := 1; let n : Nat := 1; let s := up;
      let s := { s with ctab := { s.ctab with bulks := [.sweep h0 0 1 1 0 0 0 0 1 []] } };
      readyB h s && decide (1 ≤ n ∧ f + n ≤ 4194304 ∧ a < 32 ∧ d < 3 ∧ s.bulkBusy 1 = true)),
    (let h : WbHead := h0; let a : Nat := 1; let f : Nat := 1; let n : Nat := 524288; let s := up;
      let s := { s with ctab := { s.ctab with bulks := [.dump h0 false 0 1 1] } };
      readyB h s && decide (1 ≤ n ∧ f + n ≤ 4194304 ∧ a < 2 ∧ n ≤ 524288 ∧ s.bulkBusy 2 = true)),
    (let h : WbHead := h0; let a : Nat := 31; let b : Nat := 4294967295; let c : Nat := 4294967295; let d : Nat := 2; let f : Nat := 1;
      let n : Nat := 1; let s := up; readyB h s && decide (1 ≤ n ∧ f + n ≤ 4194304 ∧ a < 32 ∧ b < 2 ^ 32 ∧ c < 2 ^ 32 ∧ d < 3 ∧ s.bulkBusy 1 = false)),
    (let h : WbHead := h0; let a : Nat := 1; let f : Nat := 1; let n : Nat := 524288; let s := up;
      readyB h s && decide (1 ≤ n ∧ f + n ≤ 4194304 ∧ a < 2 ∧ n ≤ 524288 ∧ s.bulkBusy 2 = false)),
    (let h : WbHead := h0; let n : Nat := 4194303; let s := up; readyB h s && decide (n ≤ 4194303)),
    (let h : WbHead := h0; let a : Nat := 6; let b : Nat := 4095; let d : Nat := 340282366920938463463374607431768211455; let s := up;
      readyB h s && decide (a < 8 ∧ a % 4 ≠ 3 ∧ b < 4096 ∧ d < 2 ^ 128))].all id = true := by decide +kernel

/-- The hypotheses of the clauses of ErrorBounds can be met. -/
theorem witness_ErrorBounds : [
    (let b : Nat := 1; let miss : List Nat := [1]; let k : Nat := 1; let s := up; let s := s.setB F.EBND_STAT_STALE false;
      let s := { s with ebnd := { s.ebnd with missing := [(1, 1)] } };
      decide (s.past 6 = true ∧ (b, k) ∈ s.ebnd.missing ∧ look 0 s.ebnd.missing b = k ∧ 1 ≤ k ∧ b ∈ miss ∧ s.ebnd.cfgs = [] ∧
      s.on F.EBND_STAT_STALE = false ∧ s.on F.TBASE_STAT_TIMESET = true ∧ s.intc.running = true)),
    (let b' : Nat := 1; let miss : List Nat := [b']; let s := up;
      decide (s.past 6 = true ∧ miss = [b'] ∧ s.on F.TBASE_STAT_TIMESET = true ∧ look 0 s.ebnd.missing b' = 0)),
    (let s := up; let s := { s with ebnd := { s.ebnd with terms := [0, 0, 0, 0, 1, 0, 0, 0, 0], stamps := [0, 0, 0, 0, 0, 0, 0, 0] } };
      decide (s.past 6 = true ∧ s.termsRose = true ∧ s.intc.running = true)),
    (let h : WbHead := h0; let a : Nat := 15; let b : Nat := 4294967295; let c : Nat := 4294967295; let d : Nat := 4294967295;
      let e : Nat := 4294967295; let f : Nat := 65535; let o : Nat := 16777215; let v : Nat := 65535; let w : Nat := 65535; let s := up;
      readyB h s && decide (a < 16 ∧ 1 ≤ b ∧ b < 2 ^ 32 ∧ c < 2 ^ 32 ∧ d < 2 ^ 32 ∧ e < 2 ^ 32 ∧ f < 65536 ∧ o < 2 ^ 24 ∧ v < 65536 ∧ w < 65536)),
    (let h : WbHead := h0; let b : Nat := 4294967295; let k : Nat := 11; let s := up; readyB h s && decide (k < 12 ∧ b < 2 ^ 32)),
    (let h : WbHead := h0; let a : Nat := 65535; let k : Nat := 11; let s := up;
      readyB h s && decide (k < 12 ∧ a < 65536 ∧ a ≠ s.get F.EBND_GEN ∧ s.ebnd.cfgs = [])),
    (let h : WbHead := h0; let k : Nat := 7; let n : Nat := 1; let s := up; readyB h s && decide (k + n ≤ 8 ∧ k < 8)),
    (let h : WbHead := h0; let a : Nat := 4095; let k : Nat := 7; let n : Nat := 1; let s := up;
      readyB h s && decide (k < 8 ∧ a < 4096 ∧ n ≤ 64 ∧ a + n ≤ 4096))].all id = true := by decide +kernel

/-- The hypotheses of the clauses of TakingWaybills can be met. -/
theorem witness_TakingWaybills : [
    (let w : Nat := 0x7800; let h : WbHead := h0; let c : Instr := .mgmtEcho h []; let ps : List Word := []; let e : Taken := ownTaken w h ps;
      let s := up; let s := { s with mgmt := { s.mgmt with taken := [e] } };
      decide (c.waybill = some (w, h, ps) ∧ s.takenAt h.ring h.slot = some e ∧ e.spells w h ps = true ∧ e.started = false ∧
      s.mayStart e = true ∧ s.checkWords e.words = none)),
    (let r : Nat := 1; let s := up; let s := (s.setB (F.HIF_RING_CFG_EN 1) true).set (F.HIF_RING_PROD 1) 1;
      decide (r < 2 ∧ s.ringTurn r = true ∧ s.mayTake = true ∧ s.ringReady r = true ∧
      (s.takenAt r (s.get (F.HIF_RING_CONS r) % s.ringDepth r)).isNone = true)),
    (let b : Nat × Nat := (2, 0); let l : List (Nat × Nat) := []; let s := up; let s := { s with hif := { s.hif with bells := b :: l } };
      decide (s.hif.bells = b :: l ∧ 2 ≤ b.1 ∧ s.mayTake = true ∧ s.ringTurn b.1 = true)),
    (let r : Nat := 1; let s := up; decide (s.ringTurn r = false)),
    (let r : Nat := 0; let s := up; let s := (s.setB (F.HIF_RING_CFG_EN 1) true).set (F.HIF_RING_PROD 1) 1; decide (r ≠ 1 ∧ s.ringReady 1 = true)),
    (let s := up; let s : State := { s with mgmt := { s.mgmt with taken := List.replicate 64 busy0 } };
      decide (64 ≤ (s.mgmt.taken.filter (fun e => e.long)).length)),
    (let r : Nat := 2; let k : Nat := 0; let e : Taken := ownTaken 0x7800 h0 []; let s := up;
      let s := { s with mgmt := { s.mgmt with taken := [e] } }; let s := { s with seq := { s.seq with st := .running } };
      decide (s.takenAt r k = some e ∧ s.intc.running = true ∧ s.mgmtFenced = false ∧ e.started = false ∧ s.mayStart e = true ∧
      s.checkWords e.words = none ∧ e.w0.toNat / 8 = 0xF00 ∧ s.canWrite r k = true ∧ s.seq.st = .running ∧ e.suspReqs = [])),
    (let r : Nat := 1; let k : Nat := 1; let s := up; decide ((∀ e, s.takenAt r k = some e → e.started = true ∨ s.mayStart e = false))),
    (let r : Nat := 2; let k : Nat := 0;
      let e : Taken := { taken0 with w0 := 0x4840, words := [0x4840, 0x1234, 0, w16 (crc16 (wordBytes [0x4840, 0x1234, 0]))] }; let s := up;
      let s := { s with mgmt := { s.mgmt with taken := [e] } }; let s := { s with seq := { s.seq with st := .starting, step := 7 } };
      decide (s.takenAt r k = some e ∧ s.intc.running = true ∧ s.mgmtFenced = false ∧ e.started = false ∧ s.mayStart e = true ∧
      s.checkWords e.words = none ∧ earlyBlocks.contains (e.w0.toNat / 2048) = false ∧ s.seq.st ≠ .safe ∧ s.past 7 = false ∧
      e.w0.toNat % 64 < 8 ∧ e.long = false ∧ e.upd = 0 ∧ s.canWrite r k = true)),
    (let r : Nat := 2; let k : Nat := 0; let e : Taken := { taken0 with words := [0x1040, 0x1234, 61] }; let s := up;
      let s := { s with mgmt := { s.mgmt with taken := [e] } };
      decide (s.takenAt r k = some e ∧ s.intc.running = true ∧ s.mgmtFenced = false ∧ e.started = false ∧ s.mayStart e = true ∧
      e.suspReqs = [] ∧ s.canWrite r k = true ∧ 60 < (e.words.getD 2 0).toNat)),
    (let r : Nat := 2; let k : Nat := 0;
      let e : Taken := { taken0 with words := [0x1040, 0x1234, 0, w16 (crc16 (wordBytes [0x1040, 0x1234, 0]) + 1)] }; let s := up;
      let s := { s with mgmt := { s.mgmt with taken := [e] } };
      decide (s.takenAt r k = some e ∧ s.intc.running = true ∧ s.mgmtFenced = false ∧ e.started = false ∧ s.mayStart e = true ∧
      e.suspReqs = [] ∧ s.canWrite r k = true ∧ s.checkWords e.words = some .crc)),
    (let r : Nat := 2; let k : Nat := 0;
      let e : Taken := { taken0 with w0 := 0xFFC0, words := [0xFFC0, 0x1234, 0, w16 (crc16 (wordBytes [0xFFC0, 0x1234, 0]))] }; let s := up;
      let s := { s with mgmt := { s.mgmt with taken := [e] } };
      decide (s.takenAt r k = some e ∧ s.intc.running = true ∧ s.mgmtFenced = false ∧ e.started = false ∧ s.mayStart e = true ∧
      e.suspReqs = [] ∧ s.canWrite r k = true ∧ s.checkWords e.words = some .unknown)),
    (let r : Nat := 2; let k : Nat := 0;
      let e : Taken := { taken0 with w0 := 0x4840, words := [0x4840, 0x1234, 0, w16 (crc16 (wordBytes [0x4840, 0x1234, 0]))] }; let s := up;
      let s := { s with mgmt := { s.mgmt with taken := [e] } }; let s := { s with seq := { s.seq with st := .safe } };
      decide (s.takenAt r k = some e ∧ s.intc.running = true ∧ s.mgmtFenced = false ∧ e.started = false ∧ s.mayStart e = true ∧
      e.suspReqs = [] ∧ s.canWrite r k = true ∧ s.checkWords e.words = some .blockUnavail))].all id = true := by decide +kernel

/-- The hypotheses of the clauses of MgmtWaybills can be met. -/
theorem witness_MgmtWaybills : [
    (let h : WbHead := h0; let r : Nat := 3; let k : Nat := 65535; let s := up;
      readyB h s && decide (r < 4 ∧ k < 65536 ∧ s.named r k = none ∧ (h.ring ≠ r ∨ h.tag ≠ w16 k))),
    (let h : WbHead := h0; let r : Nat := 3; let k : Nat := 65535; let e : Taken := busy0; let s := up;
      let s := { s with mgmt := { s.mgmt with taken := [e] } };
      readyB h s && decide (r < 4 ∧ k < 65536 ∧ s.named r k = some e ∧ (h.ring ≠ e.ring ∨ h.slot ≠ e.slot) ∧ e.long = true ∧
      e.state = .running ∧ suspendable e.w0.toNat = true ∧ s.takenAt e.ring e.slot = some e)),
    (let h : WbHead := h0; let r : Nat := 3; let k : Nat := 65535; let e : Taken := { busy0 with state := .queued }; let s := up;
      let s := { s with mgmt := { s.mgmt with taken := [e] } };
      readyB h s && decide (r < 4 ∧ k < 65536 ∧ s.named r k = some e ∧ (h.ring ≠ e.ring ∨ h.slot ≠ e.slot) ∧
      (e.long = false ∨ e.state ≠ .running ∨ suspendable e.w0.toNat = false))),
    (let h : WbHead := h0; let r : Nat := 3; let k : Nat := 65535; let e : Taken := { busy0 with state := .partialSt }; let s := up;
      let s := { s with mgmt := { s.mgmt with taken := [e] } };
      readyB h s && decide (r < 4 ∧ k < 65536 ∧ s.named r k = some e ∧ (h.ring ≠ e.ring ∨ h.slot ≠ e.slot) ∧ e.state = .partialSt ∧
      s.takenAt e.ring e.slot = some e)),
    (let h : WbHead := h0; let r : Nat := 3; let k : Nat := 65535; let e : Taken := busy0; let s := up;
      let s := { s with mgmt := { s.mgmt with taken := [e] } };
      readyB h s && decide (r < 4 ∧ k < 65536 ∧ s.named r k = some e ∧ (h.ring ≠ e.ring ∨ h.slot ≠ e.slot) ∧ e.state ≠ .partialSt)),
    (let h : WbHead := h0; let r : Nat := 2; let k : Nat := 0x1234; let e : Taken := { taken0 with slot := 1, started := true }; let s := up;
      let s := { s with seq := { s.seq with st := .running } }; let s := { s with mgmt := { s.mgmt with taken := [e] } };
      decide (s.mayTake = true ∧ s.seq.st = .running ∧ h.flags < 8 ∧ h.flags / 2 % 2 = 0 ∧ s.takenAt h.ring h.slot = none ∧
      (∀ x ∈ s.mgmt.taken, x.w0.toNat / 2048 = 15 → x.long = true) ∧ s.canWrite h.ring h.slot = true ∧ r < 4 ∧ k < 65536 ∧
      s.named r k = some e ∧ e.long = false ∧ e.started = true)),
    (let h : WbHead := h0; let r : Nat := 2; let k : Nat := 0x1234; let e : Taken := { taken0 with slot := 1, started := false }; let s := up;
      let s := { s with seq := { s.seq with st := .running } }; let s := { s with mgmt := { s.mgmt with taken := [e] } };
      decide (s.mayTake = true ∧ s.seq.st = .running ∧ h.flags < 8 ∧ h.flags / 2 % 2 = 0 ∧ s.takenAt h.ring h.slot = none ∧
      (∀ x ∈ s.mgmt.taken, x.w0.toNat / 2048 = 15 → x.long = true) ∧ s.canWrite h.ring h.slot = true ∧ r < 4 ∧ k < 65536 ∧
      s.named r k = some e ∧ e.long = false ∧ e.started = false ∧ s.canWrite e.ring e.slot = true ∧ s.takenAt e.ring e.slot = some e ∧
      e.suspReqs = [])),
    (let h : WbHead := h0; let ps : List Word := []; let s := up; readyB h s && decide (ps.length ≤ 60)),
    (let h : WbHead := h0; let k : Nat := 65535; let n : Nat := 64; let s := up; readyB h s && decide (k < 65536 ∧ n ≤ 64)),
    (let h : WbHead := h0; let s := up; readyB h s && decide (s.seq.saving = none))].all id = true := by decide +kernel

/-- The hypotheses of the clauses of GenerationChecks can be met. -/
theorem witness_GenerationChecks : [
    (let c : Instr := .hifCfg h0 [5, 0, 1, 1]; let w : Nat := 0x8000; let h : WbHead := h0; let ps : List Word := [5, 0, 1, 1];
      let g : Field := F.HIF_GEN; let v : Word := 5; let s := up;
      readyB h s && decide (c.waybill = some (w, h, ps) ∧ c.unitGen = some (g, v) ∧ v.toNat ≠ s.get g ∧ c.atClose = false ∧
      c.atTick = false ∧ (w = 0x3000 → s.tb.load = none))),
    (let c : Instr := .pktCfg h0 [5]; let w : Nat := 0x5800; let h : WbHead := h0; let ps : List Word := [5]; let g : Field := F.PKT_GEN;
      let v : Word := 5; let s := up;
      readyB h s && decide (c.waybill = some (w, h, ps) ∧ c.unitGen = some (g, v) ∧ v.toNat ≠ s.get g ∧ c.atClose = true ∧
      s.pkt.cfgs = [] ∧ s.pkt.ready = [])),
    (let c : Instr := .ebndCfg h0 [5]; let w : Nat := 0x7000; let h : WbHead := h0; let ps : List Word := [5]; let g : Field := F.EBND_GEN;
      let v : Word := 5; let s := up;
      readyB h s && decide (c.waybill = some (w, h, ps) ∧ c.unitGen = some (g, v) ∧ v.toNat ≠ s.get g ∧ c.atTick = true ∧ s.ebnd.cfgs = []))].all id = true := by decide +kernel

/-- The hypotheses of the clauses of WaybillGate can be met. -/
theorem witness_WaybillGate : [
    (let w : Nat := 0x1040; let h : WbHead := ⟨2, 0, 1, 8⟩; let c : Instr := .rmonStatus h [0]; let ps : List Word := [0]; let s := up;
      takesB h s && decide (c.waybill = some (w, h, ps) ∧ 8 ≤ h.flags ∧ s.canWrite h.ring h.slot = true)),
    (let w : Nat := 0x1040; let h : WbHead := h0; let c : Instr := .rmonStatus h [0]; let ps : List Word := [0]; let s := up;
      let s := { s with intc := { s.intc with running := false } };
      decide (c.waybill = some (w, h, ps) ∧ (s.intc.running = false ∨ s.mgmtFenced = true))),
    (let w : Nat := 0x1040; let h : WbHead := h0; let c : Instr := .rmonStatus h [0]; let ps : List Word := [0]; let s := up;
      let s := { s with seq := { s.seq with st := .safe } };
      takesB h s && decide (c.waybill = some (w, h, ps) ∧ h.flags < 8 ∧ s.seq.st = .safe ∧ (¬ w / 2048 ∈ [0, 1, 0x10, 0x12]) ∧
      s.canWrite h.ring h.slot = true)),
    (let c : Instr := .rmonStatus h0 []; let w : Nat := (0x1040); let h : WbHead := h0; let ps : List Word := []; let s := up;
      let s := { s with seq := { s.seq with st := .starting, step := 7 } };
      takesB h s && decide (c.waybill = some (w, h, ps) ∧ h.flags < 8 ∧ s.seq.st ≠ .safe ∧ s.past 7 = false ∧
      (¬ w / 2048 ∈ [0, 1, 0x0F, 0x10, 0x12]) ∧ c.isLong = false)),
    (let c : Instr := .ticCalrun h0 []; let w : Nat := (0x3980); let h : WbHead := h0; let ps : List Word := []; let s := up;
      let s := { s with seq := { s.seq with st := .starting, step := 7 } };
      takesB h s && decide (c.waybill = some (w, h, ps) ∧ h.flags < 8 ∧ s.seq.st ≠ .safe ∧ s.past 7 = false ∧
      (¬ w / 2048 ∈ [0, 1, 0x0F, 0x10, 0x12]) ∧ c.isLong = true ∧ s.canWrite h.ring h.slot = true)),
    (let w : Nat := 0x1040; let h : WbHead := h0; let c : Instr := .rmonStatus h [0]; let ps : List Word := [0]; let s := up;
      let s := { s with mgmt := { s.mgmt with taken := [{ taken0 with slot := 1 }] } };
      decide (c.waybill = some (w, h, ps) ∧ s.mayTake = true ∧ s.takenAt h.ring h.slot = none ∧ s.mayStart (ownTaken w h ps) = false)),
    (let w : Nat := 0x1040; let h : WbHead := h0; let c : Instr := .rmonStatus h [0]; let ps : List Word := [0];
      let e : Taken := { taken0 with started := true }; let s := up; let s := { s with mgmt := { s.mgmt with taken := [e] } };
      decide (c.waybill = some (w, h, ps) ∧ s.takenAt h.ring h.slot = some e ∧ (e.started = true ∨ e.spells w h ps = false ∨ s.mayStart e = false))),
    (let h : WbHead := ⟨0, 0, 1, 0⟩; let k : Nat := 65535; let b : Nat := 65535; let s := up;
      let s := { s with seq := { s.seq with st := .running } }; let s := s.setB F.HIF_STAT_LINKUP false;
      takesB h s && decide (h.flags < 8 ∧ s.seq.st = .running ∧ s.canWrite h.ring h.slot = false ∧ k < 65536 ∧ b < 65536))].all id = true := by decide +kernel

/-- The hypotheses of the clauses of RegisterReads can be met. -/
theorem witness_RegisterReads : [
    (let req : Nat := 1; let a : Nat := 0x0E0010; let r : RegRow := ((regAt 0x0E0010).getD (⟨"", 0, 0, 0, 0, 0, 0, []⟩, 0)).1;
      let i : Nat := ((regAt 0x0E0010).getD (⟨"", 0, 0, 0, 0, 0, 0, []⟩, 0)).2; let s := up;
      decide (s.pathUp req = true ∧ regAt a = some (r, i) ∧ a = blockOf a * 65536 + r.off + i * r.stride ∧
      blockOf a ∈ [2, 3, 4, 5, 8, 9, 0xA, 0xC, 0xD, 0xE, 0xF, 0x10] ∧ a < 0x140000 ∧ s.noBlock a = false ∧ s.latched req a = none)),
    (let req : Nat := 6; let a : Nat := 0x0E0010 / 2; let w : Word := 7; let s := up;
      let s := { s with hif := { s.hif with latches := [⟨6, 14, [(0x0E0010, 7)]⟩] } };
      decide (s.pathUp req = true ∧ s.latched req (2 * a) = some w ∧ 2 * a < 0x140000 ∧ s.noBlock (2 * a) = false ∧
      (regAt (2 * a)).isSome = true ∧ (2 * a < 0x060010 ∨ 0x060024 ≤ 2 * a) ∧ s.actRead req (2 * a) = none)),
    (let req : Nat := 1; let n : Nat := 7; let s := up; decide (s.pathUp req = true ∧ 1 ≤ n ∧ n < 8)),
    (let req : Nat := 6; let n : Nat := 7; let x : CapStamp := ⟨7, true, false, true, 0⟩; let r : List CapStamp := []; let s := up;
      let s : State := { s with tb := { s.tb with caps := modAt s.tb.caps n (fun y => { y with fifo := x :: r }) } };
      decide (s.pathUp req = true ∧ n < 8 ∧ s.tb.caps.length = 8 ∧ (s.cap n).fifo = x :: r)),
    (let req : Nat := 1; let n : Nat := 7; let s := up;
      let s : State := { s with tb := { s.tb with caps := modAt s.tb.caps n (fun y => { y with fifo := [] }) } };
      decide (s.pathUp req = true ∧ n < 8 ∧ s.tb.caps.length = 8 ∧ (s.cap n).fifo = [])),
    (let req : Nat := 6; let n : Nat := 15; let x : CapStamp := ⟨7, true, false, true, 0⟩; let r : List CapStamp := []; let s := up;
      let s : State := { s with tic := { s.tic with chans := modAt s.tic.chans n (fun y => { y with fifo := x :: r }) } };
      decide (s.pathUp req = true ∧ n < 16 ∧ s.tic.chans.length = 16 ∧ (s.ticCh n).fifo = x :: r)),
    (let req : Nat := 1; let n : Nat := 15; let s := up;
      let s : State := { s with tic := { s.tic with chans := modAt s.tic.chans n (fun y => { y with fifo := [] }) } };
      decide (s.pathUp req = true ∧ n < 16 ∧ s.tic.chans.length = 16 ∧ (s.ticCh n).fifo = [])),
    (let req : Nat := 1; let a : Nat := 0x1FFFFF; let s := up; decide (s.pathUp req = true ∧ 0x140000 ≤ a ∧ a < 0x200000)),
    (let req : Nat := 1; let a : Nat := 0x0DFFFF; let s := up; let s := { s with seq := { s.seq with st := .safe } };
      decide (s.pathUp req = true ∧ a < 0x140000 ∧ s.seq.st = .safe ∧ blockOf a ∈ [8, 9, 0xA, 0xB, 0xC, 0xD]))].all id = true := by decide +kernel

/-- The hypotheses of the clauses of RegisterWrites can be met. -/
theorem witness_RegisterWrites : [
    (let req : Nat := 1; let s := up; decide (s.pathUp req = true ∧ s.mayWrite req = true)),
    (let req : Nat := 1; let s := up; decide (s.pathUp req = true ∧ s.mayWrite req = true)),
    (let req : Nat := 1; let w : Word := 16; let s := up; decide (s.pathUp req = true ∧ 16 ≤ w.toNat ∧ s.mayWrite req = true)),
    (let req : Nat := 1; let w : Word := 3; let f : Field := F.EBND_COMMON; let s := up;
      decide (s.pathUp req = true ∧ s.noBlock f.addr = false ∧ s.mayWrite req = true ∧ w.toNat < 4)),
    (let req : Nat := 1; let w : Word := 3; let s := up; decide (s.pathUp req = true ∧ req ≠ 0 ∧ s.mayWrite req = true ∧ w.toNat < 4)),
    (let req : Nat := 0; let w : Word := 3; let s := up; decide (s.pathUp req = true ∧ req = 0 ∧ w.toNat < 4)),
    (let req : Nat := 1; let s := up; let s := s.setB F.HIF_ACCESS_SPIWR false; decide (s.pathUp req = true ∧ s.mayWrite req = false)),
    (let req : Nat := 1; let w : Word := 63; let n : Nat := 255; let s := up;
      decide (s.pathUp req = true ∧ 1 ≤ n ∧ n < 256 ∧ w.toNat < 64 ∧ s.mayWrite req = true))].all id = true := by decide +kernel

/-- The hypotheses of the clauses of RingsAndTransfers can be met. -/
theorem witness_RingsAndTransfers : [
    (let req : Nat := 0; let r : Nat := 1; let v : Nat := 16; let s := up; let s := s.set (F.HIF_RING_CFG_DEPTHLOG r) 4;
      decide (s.pathUp req = true ∧ s.mayWrite req = true ∧ r < 2 ∧ v < 65536 ∧ (v + 65536 - s.get (F.HIF_RING_CONS r)) % 65536 ≤ s.ringDepth r)),
    (let req : Nat := 0; let r : Nat := 1; let v : Nat := 65535; let s := up; let s := s.setB (F.HIF_RING_CFG_EN r) true;
      decide (s.pathUp req = true ∧ s.mayWrite req = true ∧ r < 2 ∧ s.on (F.HIF_RING_CFG_EN r) = true ∧
      s.ringDepth r < (v % 65536 + 65536 - s.get (F.HIF_RING_CONS r)) % 65536)),
    (let req : Nat := 1; let r : Nat := 1; let v : Nat := 8; let s := up; let s := s.setB (F.HIF_RING_CFG_EN r) false;
      decide (s.pathUp req = true ∧ s.mayWrite req = true ∧ r < 2 ∧ s.on (F.HIF_RING_CFG_EN r) = false ∧ 4 ≤ v ∧ v ≤ 8)),
    (let req : Nat := 1; let r : Nat := 1; let v : Nat := 15; let s := up; let s := s.setB (F.HIF_RING_CFG_EN r) false;
      decide (s.pathUp req = true ∧ s.mayWrite req = true ∧ r < 2 ∧ s.on (F.HIF_RING_CFG_EN r) = false ∧ v < 16 ∧ (v < 4 ∨ 8 < v))),
    (let req : Nat := 1; let r : Nat := 1; let v : Nat := 15; let s := up; let s := s.setB (F.HIF_RING_CFG_EN r) true;
      decide (s.pathUp req = true ∧ s.mayWrite req = true ∧ r < 2 ∧ s.on (F.HIF_RING_CFG_EN r) = true ∧ v < 16)),
    (let req : Nat := 1; let r : Nat := 1; let v : Nat := 1; let p : Nat := 1; let f : Nat := 1; let l : List (Nat × Nat) := [(p, f)]; let s := up;
      let s := s.setB (F.HIF_Q_CFG_EN 1) true;
      decide (s.pathUp req = true ∧ s.mayWrite req = true ∧ r < 2 ∧ l = [(p, f)] ∧ v = (s.get (F.HIF_Q_PROD 1) + 1) % 65536 ∧
      s.on (F.HIF_Q_CFG_EN 1) = true ∧ s.hostMem = true ∧ s.hif.txWait = [])),
    (let req : Nat := 1; let r : Nat := 1; let v : Nat := 1; let p : Nat := 1; let f : Nat := 1; let l : List (Nat × Nat) := [(p, f)]; let s := up;
      let s := s.setB (F.HIF_Q_CFG_EN 1) true;
      let s := s.setB F.HIF_STAT_BUSMASTER false; decide (s.pathUp req = true ∧ s.mayWrite req = true ∧ r < 2 ∧ l = [(p, f)] ∧ v = (s.get (F.HIF_Q_PROD 1) + 1) % 65536 ∧
      s.on (F.HIF_Q_CFG_EN 1) = true ∧ s.hostMem = false)),
    (let req : Nat := 1; let r : Nat := 1; let s := up; let s := s.setB (F.HIF_DMA_STAT_BUSY r) false;
      let s := s.setBit F.FCOL_FENCEMAP (4 + r) false; let s := s.set (F.HIF_DMA_LEN r) 0;
      decide (s.pathUp req = true ∧ s.mayWrite req = true ∧ r < 2 ∧ s.on (F.HIF_DMA_STAT_BUSY r) = false ∧
      s.bit F.FCOL_FENCEMAP (4 + r) = false ∧ s.get (F.HIF_DMA_LEN r) = 0)),
    (let req : Nat := 0; let r : Nat := 0; let s := up; let s := s.setB (F.HIF_DMA_STAT_BUSY r) false;
      let s := s.setBit F.FCOL_FENCEMAP (4 + r) false; let s := (s.set (F.HIF_DMA_LEN r) 64).set (F.HIF_DMA_MADDR r) loadBase;
      decide (s.pathUp req = true ∧ s.mayWrite req = true ∧ r < 2 ∧ s.on (F.HIF_DMA_STAT_BUSY r) = false ∧
      s.bit F.FCOL_FENCEMAP (4 + r) = false ∧ 0 < s.get (F.HIF_DMA_LEN r) ∧ s.get (F.HIF_DMA_HADDR r) % 64 = 0 ∧
      s.get (F.HIF_DMA_MADDR r) % 64 = 0 ∧ s.get (F.HIF_DMA_LEN r) % 64 = 0 ∧ dmaArea r (s.get (F.HIF_DMA_MADDR r)) (s.get (F.HIF_DMA_LEN r)) = true)),
    (let req : Nat := 1; let r : Nat := 1; let s := up; let s := s.setB (F.HIF_DMA_STAT_BUSY r) false;
      let s := s.setBit F.FCOL_FENCEMAP (4 + r) false; let s := s.set (F.HIF_DMA_LEN r) (0 + 1);
      decide (s.pathUp req = true ∧ s.mayWrite req = true ∧ r < 2 ∧ s.on (F.HIF_DMA_STAT_BUSY r) = false ∧
      s.bit F.FCOL_FENCEMAP (4 + r) = false ∧ 0 < s.get (F.HIF_DMA_LEN r) ∧
      (s.get (F.HIF_DMA_HADDR r) % 64 ≠ 0 ∨ s.get (F.HIF_DMA_MADDR r) % 64 ≠ 0 ∨ s.get (F.HIF_DMA_LEN r) % 64 ≠ 0 ∨ dmaArea r (s.get (F.HIF_DMA_MADDR r)) (s.get (F.HIF_DMA_LEN r)) = false))),
    (let req : Nat := 1; let r : Nat := 1; let s := up; let s := s.setB (F.HIF_DMA_STAT_BUSY r) false; let s := s.setBit F.FCOL_FENCEMAP (4 + r) true;
      decide (s.pathUp req = true ∧ s.mayWrite req = true ∧ r < 2 ∧ s.on (F.HIF_DMA_STAT_BUSY r) = false ∧ s.bit F.FCOL_FENCEMAP (4 + r) = true)),
    (let req : Nat := 1; let r : Nat := 1; let s := up; let s := s.setB (F.HIF_DMA_STAT_BUSY r) true;
      decide (s.pathUp req = true ∧ s.mayWrite req = true ∧ r < 2 ∧ s.on (F.HIF_DMA_STAT_BUSY r) = true)),
    (let req : Nat := 1; let r : Nat := 1; let s := up; let s := s.setB (F.HIF_DMA_STAT_BUSY 0) true; let s := s.setBit F.FCOL_FENCEMAP 4 false;
      let m : Nat := (s.dmaRange 0).1; let n : Nat := (s.dmaRange 0).2;
      decide (s.pathUp req = true ∧ s.mayWrite req = true ∧ r < 2 ∧ s.dmaRange 0 = (m, n) ∧ s.on (F.HIF_DMA_STAT_BUSY 0) = true ∧
      s.hostMem = true ∧ s.bit F.FCOL_FENCEMAP 4 = false ∧ n < 2 ^ 20)),
    (let req : Nat := 1; let r : Nat := 1; let s := up; let s := s.setB (F.HIF_DMA_STAT_BUSY 1) true; let s := s.setBit F.FCOL_FENCEMAP 5 false;
      decide (s.pathUp req = true ∧ s.mayWrite req = true ∧ r < 2 ∧ s.on (F.HIF_DMA_STAT_BUSY 1) = true ∧ s.hostMem = true ∧
      s.bit F.FCOL_FENCEMAP 5 = false))].all id = true := by decide +kernel

/-- The hypotheses of the clauses of HostPaths can be met. -/
theorem witness_HostPaths : [
    (let v : Nat := 4; let w : Nat := 1; let s := up; decide (s.past 2 = true ∧ 1 ≤ v ∧ v ≤ 4 ∧ (w = 1 ∨ w = 2 ∨ w = 4))),
    (let e : LinkEvent := .down; let s := up; let s := s.setB F.HIF_STAT_LINKUP true;
      decide (s.past 2 = true ∧ e ≠ .aer ∧ s.on F.HIF_STAT_LINKUP = true)),
    (let a : Nat := 1; let n : Nat := 2048; let s := up; decide (s.pathUp 1 = true ∧ a < 0x200000 ∧ n ≤ 2048)),
    (let a : Nat := 3; let ws : List Word := List.replicate 64 0x1001; let s := up;
      decide (s.pathUp 1 = true ∧ a < 4 ∧ 4 ≤ ws.length ∧ ws.length ≤ 64 ∧ s.mayWrite 1 = true ∧ s.slotBusy 2 a = false)),
    (let ws : List Word := [7]; let w : Word := 7; let s := up; let s := s.setB F.HIF_ACCESS_SPIWR false;
      decide (s.pathUp 1 = true ∧ s.mayWrite 1 = false ∧ w = ws.headD 0)),
    (let ws : List Word := [7]; let w : Word := 7; let s := up; decide (s.pathUp 1 = true ∧ s.mayWrite 1 = true ∧ w = ws.headD 0)),
    (let ws : List Word := List.replicate 64 0x1001; let s := up;
      decide (s.pathUp 1 = true ∧ 4 ≤ ws.length ∧ (ws.getD 0 0).toNat / 4096 ≠ 2 ∧ (ws.getD 0 0).toNat / 4096 ≠ 3 ∧
      crc16 (wordBytes (ws.take 3)) ≠ (ws.getD 3 0).toNat)),
    (let s := up; let s := s.setB F.HIF_ACCESS_CONWR false; decide (s.pathUp 1 = true ∧ s.mayWrite 2 = false)),
    (let ws : List Word := List.replicate 64 0x1001; let s := up;
      decide (s.pathUp 1 = true ∧ 4 ≤ ws.length ∧ ws.length ≤ 64 ∧ s.mayWrite 2 = true ∧ s.slotBusy 3 0 = false)),
    (let m : Manifest := man0; let s := up; let s := { s with mgmt := { s.mgmt with manifests := [man0] } };
      decide (s.pathUp 1 = true ∧ s.manifestAt 3 0 = some m)),
    (let n : Nat := 1000; let s := up; decide (s.pathUp 1 = true ∧ n ≤ 1000))].all id = true := by decide +kernel

/-- The hypotheses of the clauses of ClaimsAndCompletions can be met. -/
theorem witness_ClaimsAndCompletions : [
    (let req : Nat := 1; let n : Nat := 1; let s := up;
      decide (s.pathUp req = true ∧ s.intc.running = true ∧ unusedSource n = false ∧ levelSources.contains n = false)),
    (let req : Nat := 1; let n : Nat := 255; let s := up; decide (s.pathUp req = true ∧ s.intc.running = true ∧ unusedSource n = true)),
    (let req : Nat := 1; let m : Nat := 8; let s := up; let s := { s with intc := { s.intc with host := { pend := [8] }, mgmt := { pend := [8] } } };
      let s := s.set (F.INTC_SRC_HCFG 8) 31; decide (s.pathUp req = true ∧ s.intc.running = true ∧ s.eligible false s.intc.host = some m)),
    (let req : Nat := 1; let s := up; decide (s.pathUp req = true ∧ s.intc.running = true ∧ s.eligible false s.intc.host = none)),
    (let req : Nat := 6; let m : Nat := 8; let s := up; let s := { s with intc := { s.intc with host := { pend := [8] }, mgmt := { pend := [8] } } };
      let s := s.set (F.INTC_SRC_MCFG 8) 31; decide (s.pathUp req = true ∧ s.intc.running = true ∧ s.eligible true s.intc.mgmt = some m ∧ 3 ≤ req)),
    (let req : Nat := 1; let e : StackEnt := ⟨255, 3, false, false⟩; let r : List StackEnt := [⟨9, 2, false, false⟩]; let s := up;
      let s := { s with intc := { s.intc with host := { s.intc.host with stack := e :: r } } };
      decide (s.pathUp req = true ∧ s.intc.running = true ∧ s.intc.host.stack = e :: r ∧ s.mayWrite req = true ∧ 0 < e.src ∧ e.src < 256)),
    (let req : Nat := 1; let e : StackEnt := ⟨8, 3, false, false⟩; let r : List StackEnt := [⟨255, 2, false, false⟩];
      let x : StackEnt := ⟨255, 2, false, false⟩; let s := up;
      let s := { s with intc := { s.intc with host := { s.intc.host with stack := e :: r } } };
      decide (s.pathUp req = true ∧ s.intc.running = true ∧ s.intc.host.stack = e :: r ∧ s.mayWrite req = true ∧ x ∈ r ∧ x.src ≠ e.src ∧
      0 < x.src ∧ x.src < 256)),
    (let req : Nat := 1; let n : Nat := 255; let s := up;
      decide (s.pathUp req = true ∧ s.intc.running = true ∧ s.intc.host.stack.any (fun e => e.src = n) = false ∧ s.mayWrite req = true ∧
      0 < n ∧ n < 256)),
    (let req : Nat := 2; let w : Word := 255; let s := up;
      decide (s.pathUp req = true ∧ s.intc.running = true ∧ req < 3 ∧ s.mayWrite req = true ∧ w.toNat < 256))].all id = true := by decide +kernel

/-- The hypotheses of the clauses of IntcHifWaybills can be met. -/
theorem witness_IntcHifWaybills : [
    (let h : WbHead := h0; let a : Nat := 199; let l : List Nat := List.replicate 57 31; let s := up;
      readyB h s && decide (1 ≤ a ∧ l.length ≤ 57 ∧ a + l.length ≤ 256 ∧ 1 ≤ l.length ∧ (∀ x ∈ l, x < 32))),
    (let h : WbHead := h0; let n : Nat := 3; let c : Nat := 6; let v : Nat := 15; let s := up; readyB h s && decide (n < 4 ∧ c < 7 ∧ 1 ≤ v ∧ v < 16))].all id = true := by decide +kernel

/-- The hypotheses of the clauses of FaultMessages can be met. -/
theorem witness_FaultMessages : [
    (let i : Nat := 0; let m : FMsg := { src := 19, kind := 15 }; let s := up; let s := { s with fcol := { s.fcol with inflight := [m] } };
      decide (s.fcol.running = true ∧ s.intc.running = true ∧ s.fcol.doms.length = 4 ∧ s.arrives i = some m ∧ m.src < 20 ∧ m.kind < 16 ∧
      s.get F.FCOL_LDGNEXT < 2 ^ 48 - 1))].all id = true := by decide +kernel

/-- The hypotheses of the clauses of DomainsAndFences can be met. -/
theorem witness_DomainsAndFences : [
    (let d : Nat := 3; let s := up;
      let s : State := { s with fcol := { s.fcol with doms := modAt s.fcol.doms d (fun y => { y with quiet := false }) } };
      let s : State := { s with fcol := { s.fcol with doms := modAt s.fcol.doms d (fun y => { y with st := .faulted }) } };
      let s := s.setB F.FCOL_CTRL_COMPAT false;
      decide (s.fcol.running = true ∧ s.intc.running = true ∧ s.fcol.doms.length = 4 ∧ d < 4 ∧ (s.dom d).quiet = false ∧
      (s.dom d).st = .faulted ∧ s.on F.FCOL_CTRL_COMPAT = false)),
    (let d : Nat := 3; let s := up;
      let s : State := { s with fcol := { s.fcol with doms := modAt s.fcol.doms d (fun y => { y with quiet := false }) } };
      let s : State := { s with fcol := { s.fcol with doms := modAt s.fcol.doms d (fun y => { y with st := .faulted }) } };
      let s := s.setB F.FCOL_CTRL_COMPAT true;
      decide (s.fcol.running = true ∧ s.intc.running = true ∧ s.fcol.doms.length = 4 ∧ d < 4 ∧ (s.dom d).quiet = false ∧
      (s.dom d).st = .faulted ∧ s.on F.FCOL_CTRL_COMPAT = true)),
    (let v : Nat := 15; let s := up; decide (s.fcol.running = true ∧ s.intc.running = true ∧ s.fcol.doms.length = 4 ∧ v < 16 ∧ s.busUp 0x12 = true)),
    (let v : Nat := 7; let s := up; decide (s.fcol.running = true ∧ s.intc.running = true ∧ s.fcol.doms.length = 4 ∧ v < 8 ∧ s.busUp 0x12 = true ∧
      s.fcol.privAt.any (fun k => s.tb.ticks ≤ k + 1) = false)),
    (let s := up; let s := s.setB F.FCOL_CRIT_PULSE true;
      decide (s.fcol.running = true ∧ s.intc.running = true ∧ s.fcol.doms.length = 4 ∧ s.on F.FCOL_CRIT_PULSE = true)),
    (let m : Nat := 0x0B; let b : Nat := 4; let s := up; let s := s.setBit F.FCOL_FENCEMAP b false; let s := s.setB (F.HIF_DMA_STAT_BUSY 0) true;
      decide (s.fcol.running = true ∧ s.intc.running = true ∧ s.fcol.doms.length = 4 ∧ fenceBit m = some b ∧
      s.bit F.FCOL_FENCEMAP b = false ∧ s.canStall m = true)),
    (let d : Nat := 4; let s := up; let s := s.set F.FCOL_FENCEMAP 1;
      decide (s.fcol.running = true ∧ s.intc.running = true ∧ s.fcol.doms.length = 4 ∧ s.get F.FCOL_FENCEMAP ≠ 0 ∧ d < 5 ∧ d ≠ 2))].all id = true := by decide +kernel

/-- The hypotheses of the clauses of LedgerAndFcolWaybills can be met. -/
theorem witness_LedgerAndFcolWaybills : [
    (let p : Nat × List Word := (5, []); let r : List (Nat × List Word) := []; let s := up;
      let s := { s with fcol := { s.fcol with toWrite := p :: r } }; decide (s.fcol.running = true ∧ s.fcol.toWrite = p :: r)),
    (let d : LdgDump := { dump0 with summary := false }; let e : LedgerRec := ⟨5, [], 0, true⟩; let s := up;
      let s := { s with fcol := { s.fcol with dump := some d } };
      let s := { s with mgmt := { s.mgmt with taken := [{ taken0 with started := true, long := true, state := .running }] } };
      let s := { s with ledger := { s.ledger with events := [e] } };
      decide (s.fcol.running = true ∧ s.fcol.dump = some d ∧ s.running d.wb = true ∧ s.recordFrom d.next = some e ∧ d.summary = false)),
    (let h : WbHead := h0; let a : Nat := 3; let b : Nat := 60000; let c : Nat := 65535; let d : Nat := 20000; let k : Nat := 319;
      let l : List Nat := []; let s := up;
      readyB h s && decide (s.fcol.doms.length = 4 ∧ a < 4 ∧ 1 ≤ b ∧ b ≤ 60000 ∧ 20 ≤ c ∧ c < 65536 ∧ 1 ≤ d ∧ d ≤ 20000 ∧
      k + l.length ≤ 320 ∧ k < 320 ∧ l.length ≤ 50 ∧ (∀ x ∈ l, x < 2))),
    (let h : WbHead := h0; let s := up; let s := s.setB F.FCOL_FIRSTSTAT true;
      readyB h s && decide (s.fcol.doms.length = 4 ∧ s.on F.FCOL_FIRSTSTAT = true)),
    (let h : WbHead := h0; let n : Nat := 1; let s := up; let s := s.setB F.FCOL_FIRSTSTAT false;
      readyB h s && decide (s.fcol.doms.length = 4 ∧ (s.on F.FCOL_FIRSTSTAT = false ∨ n % 2 ^ 48 ≠ s.get F.FCOL_FIRSTNUM))),
    (let h : WbHead := h0; let n : Nat := 31; let s := up; readyB h s && decide (s.fcol.doms.length = 4 ∧ 16 ≤ n ∧ n < 32 ∧ (s.dom 3).st ≠ .clearable ∧
      s.fcol.privAt.any (fun k => s.tb.ticks ≤ k + 1) = false)),
    (let h : WbHead := h0; let n : Nat := 64; let k : Nat := 1; let s := up;
      readyB h s && decide (s.fcol.doms.length = 4 ∧ k + n ≤ 320 ∧ k < 320 ∧ n ≤ 64)),
    (let h : WbHead := h0; let n : Nat := 65536; let k : Nat := 5; let s := up;
      let s := { s with ledger := { s.ledger with events := [⟨5, [], 0, true⟩] } };
      readyB h s && decide (s.fcol.doms.length = 4 ∧ n ≤ 65536 ∧ s.fcol.dump = none ∧ (s.recordsFrom k n).length ≠ 0 ∧ k < 2 ^ 48)),
    (let h : WbHead := h0; let n : Nat := 65536; let k : Nat := 5; let s := up;
      readyB h s && decide (s.fcol.doms.length = 4 ∧ n ≤ 65536 ∧ 1 ≤ n ∧ s.fcol.dump = none ∧ k < 2 ^ 48 ∧ s.recordsFrom k n = [])),
    (let h : WbHead := h0; let n : Nat := 65536; let s := up; let s := { s with fcol := { s.fcol with dump := some dump0 } };
      readyB h s && decide (s.fcol.doms.length = 4 ∧ n ≤ 65536 ∧ 1 ≤ n ∧ s.fcol.dump.isSome = true)),
    (let h : WbHead := h0; let n : Nat := 64; let k : Nat := 281474976710655; let s := up;
      readyB h s && decide (s.fcol.doms.length = 4 ∧ k < 2 ^ 48 ∧ n ≤ 64))].all id = true := by decide +kernel

/-- The hypotheses of the clauses of ClaimsAndArbiter can be met. -/
theorem witness_ClaimsAndArbiter : [
    (let c : Nat := 32769; let u : Nat := 1; let s := up; let s := s.set F.RDN_PCLAIM 2;
      decide (s.paired = true ∧ c < 65536 ∧ u < 2 ∧ exceeds c (s.get F.RDN_PCLAIM) = true)),
    (let c : Nat := 65535; let u : Nat := 1; let s := up; let s := s.set F.RDN_PCLAIM c;
      decide (s.paired = true ∧ c < 65536 ∧ u < 2 ∧ c = s.get F.RDN_PCLAIM)),
    (let c : Nat := 65535; let u : Nat := 1; let s := up; let s := { s with rdn := { s.rdn with heardClaim := true } };
      decide (s.paired = true ∧ c < 65536 ∧ u < 2 ∧ c ≠ s.get F.RDN_PCLAIM ∧ exceeds c (s.get F.RDN_PCLAIM) = false ∧ s.rdn.heardClaim = true)),
    (let c : Nat := 65535; let u : Nat := 1; let s := up; let s := s.setB F.RDN_STAT_CLMOK true;
      decide (s.paired = true ∧ c < 65536 ∧ u < 2 ∧ s.on F.RDN_STAT_CLMOK = true ∧ s.fcol.running = true ∧ s.intc.running = true)),
    (let u : Nat := 1; let s : State := { up with rdn := { up.rdn with mode := 2 } }; let s := s.setB (arbReqF u) true;
      let s := s.setB (arbReqF (1 - u)) true; let s := s.set F.RDN_ARBSTAT_STATE (u + 1);
      decide (s.arbiter = true ∧ s.intc.running = true ∧ u < 2 ∧ s.on (arbReqF u) = true ∧ s.on (arbReqF (1 - u)) = true ∧
      s.get F.RDN_ARBSTAT_STATE = u + 1)),
    (let u : Nat := 1; let s : State := { up with rdn := { up.rdn with mode := 2 } }; let s := s.setB (arbReqF u) true;
      let s := s.set F.RDN_ARBSTAT_STATE (u + 3);
      decide (s.arbiter = true ∧ s.intc.running = true ∧ u < 2 ∧ s.on (arbReqF u) = true ∧ s.get F.RDN_ARBSTAT_STATE = u + 3)),
    (let u : Nat := 1; let s : State := { up with rdn := { up.rdn with mode := 2 } }; let s := s.set F.RDN_ARBSTAT_STATE 0;
      let s := s.setB (arbReqF 0) true; let s := s.setB (arbReqF 1) true;
      decide (s.arbiter = true ∧ s.intc.running = true ∧ u < 2 ∧ s.get F.RDN_ARBSTAT_STATE = 0 ∧ s.on (arbReqF 0) = true ∧ s.on (arbReqF 1) = true)),
    (let u : Nat := 1; let s : State := { up with rdn := { up.rdn with mode := 2 } }; let s := s.set F.RDN_ARBSTAT_STATE 0;
      let s := s.setB (arbReqF u) true; let s := s.setB (arbReqF (1 - u)) false;
      decide (s.arbiter = true ∧ s.intc.running = true ∧ u < 2 ∧ s.get F.RDN_ARBSTAT_STATE = 0 ∧ s.on (arbReqF u) = true ∧
      s.on (arbReqF (1 - u)) = false))].all id = true := by decide +kernel

/-- The hypotheses of the clauses of Handovers can be met. -/
theorem witness_Handovers : [
    (let s := up; let s := s.set F.RDN_STAT_ROLE 1; decide (s.paired = true ∧ s.intc.running = true ∧ s.role = 1 ∧ s.rdn.owes = false ∧
      s.rdn.withdraw = false ∧ s.rdn.ho = none)),
    (let s := up; let s := s.set F.RDN_STAT_ROLE 1; let s := { s with rdn := { s.rdn with ho := some ho0 } };
      decide (s.paired = true ∧ s.intc.running = true ∧ s.role = 1 ∧ s.rdn.owes = false ∧ s.rdn.withdraw = false ∧
      s.rdn.ho.any (fun x => x.planned) = true)),
    (let s := up; let s := (s.set F.RDN_STAT_ROLE 1).set F.RDN_STAT_GNTST 1; let s := { s with rdn := { s.rdn with owes := true } };
      decide (s.paired = true ∧ s.intc.running = true ∧ s.role = 1 ∧ s.grantSt = 1 ∧ (s.rdn.owes = true ∨ s.rdn.withdraw = true))),
    (let s := up; let s := s.set F.RDN_STAT_ROLE 3; decide (s.paired = true ∧ s.intc.running = true ∧ s.role = 3 ∧ s.grantSt ≠ 0)),
    (let x : Handover := { ho0 with leaving := true, heard := some ho0.h }; let s := up; let s := { s with rdn := { s.rdn with ho := some x } };
      let s := s.set F.RDN_STAT_ROLE 4; let s := { s with tb := { s.tb with time := 200 * US48 } };
      decide (s.paired = true ∧ s.intc.running = true ∧ s.rdn.ho = some x ∧ x.h ≤ s.now ∧ x.leaving = true ∧ x.heardOk = true ∧ s.role = 4)),
    (let x : Handover := { ho0 with leaving := true }; let s := up; let s := { s with rdn := { s.rdn with ho := some x } };
      let s := s.set F.RDN_STAT_ROLE 4; let s := { s with tb := { s.tb with time := 200 * US48 } };
      decide (s.paired = true ∧ s.intc.running = true ∧ s.rdn.ho = some x ∧ x.h ≤ s.now ∧ x.leaving = true ∧ x.heardOk = false ∧ s.role = 4)),
    (let x : Handover := { ho0 with leaving := false, planned := false }; let s := up; let s := { s with rdn := { s.rdn with ho := some x } };
      let s := s.set F.RDN_STAT_ROLE 2; let s := { s with tb := { s.tb with time := 200 * US48 } };
      decide (s.paired = true ∧ s.intc.running = true ∧ s.rdn.ho = some x ∧ x.h ≤ s.now ∧ x.leaving = false ∧ x.planned = false ∧ s.role = 2)),
    (let x : Handover := { ho0 with heard := some ho0.h }; let s := up; let s := { s with rdn := { s.rdn with ho := some x } };
      let s := s.set F.RDN_STAT_ROLE 2; let s := s.set F.RDN_STAT_GNTST 1; let s := { s with rdn := { s.rdn with grantedAt := some (100 * US48) } };
      let s := { s with tb := { s.tb with time := 200 * US48 } };
      decide (s.paired = true ∧ s.intc.running = true ∧ s.rdn.ho = some x ∧ x.h ≤ s.now ∧ x.leaving = false ∧ x.planned = true ∧
      x.heardOk = true ∧ s.role = 2 ∧ s.grantSt = 1 ∧ s.rdn.grantedAt.any (fun g => g + 100 * US48 ≤ x.h) = true)),
    (let x : Handover := { ho0 with leaving := false, planned := true }; let s := up; let s := { s with rdn := { s.rdn with ho := some x } };
      let s := s.set F.RDN_STAT_ROLE 1; let s := { s with tb := { s.tb with time := 200 * US48 } };
      decide (s.paired = true ∧ s.intc.running = true ∧ s.rdn.ho = some x ∧ x.h ≤ s.now ∧ x.leaving = false ∧ x.planned = true ∧
      (x.heardOk = false ∨ s.role ≠ 2 ∨ s.grantSt ≠ 1) ∧ (s.role = 1 ∨ s.role = 2))),
    (let s := up; let s := { s with rdn := { s.rdn with owes := true } }; decide (s.paired = true ∧ s.intc.running = true ∧ s.rdn.owes = true)),
    (let s := up; let s := { s with rdn := { s.rdn with withdraw := true } }; decide (s.paired = true ∧ s.intc.running = true ∧ s.rdn.withdraw = true)),
    (let s := up; let s := { s with rdn := { s.rdn with pulse := true } }; decide (s.paired = true ∧ s.intc.running = true ∧ s.rdn.pulse = true)),
    (let s := up; let s := { s with rdn := { s.rdn with rounds := 1 } }; decide (s.paired = true ∧ s.intc.running = true ∧ 0 < s.rdn.rounds)),
    (let s := up; let s := s.setB F.RDN_CFG_BNDREL true; let s := (s.set F.EBND_COMMON 65535000).set F.EBND_SERVELIM 1;
      let s := { s with rdn := { s.rdn with partnerReady := true } };
      decide (s.paired = true ∧ s.intc.running = true ∧ s.on F.RDN_CFG_BNDREL = true ∧ s.boundOver = true ∧
      s.get F.RDN_PBOUND ≤ s.get F.EBND_SERVELIM * 1000 ∧ s.canRelease = true)),
    (let s := up; let s := s.setB F.RDN_CFG_BNDREL true; let s := (s.set F.EBND_COMMON 65535000).set F.EBND_SERVELIM 1;
      decide (s.paired = true ∧ s.intc.running = true ∧ s.on F.RDN_CFG_BNDREL = true ∧ s.boundOver = true ∧
      s.get F.RDN_PBOUND ≤ s.get F.EBND_SERVELIM * 1000 ∧ s.canRelease = false)),
    (let i : Nat := 1; let hb : Heartbeat := hb0; let s := up; let s := s.set F.RDN_CFG 255;
      decide (s.paired = true ∧ s.intc.running = true ∧ s.rdn.lanes.length = 2 ∧ i < 2 ∧ s.droverOn i = true ∧ hb.bound < 2 ^ 48)),
    (let i : Nat := 1; let s := up; let s := s.setB F.RDN_STAT_PARTNER true;
      decide (s.paired = true ∧ s.intc.running = true ∧ s.rdn.lanes.length = 2 ∧ i < 2 ∧ s.on F.RDN_STAT_PARTNER = true))].all id = true := by decide +kernel

/-- The hypotheses of the clauses of RdnWaybills can be met. -/
theorem witness_RdnWaybills : [
    (let h : WbHead := h0; let c : Nat := 254; let a : Nat := 10000; let b : Nat := 10000; let s := up;
      readyB h s && decide (c < 256 ∧ c % 4 ≠ 3 ∧ 300 ≤ a ∧ a ≤ 10000 ∧ 600 ≤ b ∧ b ≤ 10000)),
    (let h : WbHead := h0; let s := up; let s := { s with rdn := { s.rdn with partnerReady := true } }; readyB h s && decide (s.canRelease = true)),
    (let h : WbHead := h0; let s := up; readyB h s && decide (s.canRelease = false))].all id = true := by decide +kernel

/-- The hypotheses of the clauses of StepTakesFront can be met. -/
theorem witness_StepTakesFront : [
    (let s := up; decide (s.pending = []))].all id = true := by decide +kernel

/-- The hypotheses of the clauses of StateFrames can be met. -/
theorem witness_StateFrames : [
    (let c : Instr := .rmonStatus h0 []; let s := up; decide (c.mayMem = false))].all id = true := by decide +kernel

/-! ### Witnesses about the client table and about whole steps -/

/-- Entry 5 put under a key: the key's first way names it. -/
def placed (b : State) (k : Key) : State := b.setWay (b.bucketA k) 0 (2 ^ 63 + b.sigOf k * 2 ^ 22 + 5)

theorem placed_eGet (b : State) (k : Key) (off len : Nat) (h : off + len ≤ 0x400) : (placed b k).eGet 5 off len = b.eGet 5 off len :=
  memN_memPut_apart b _ 8 _ _ len (by simp only [wayAddr, idxBase, entAddr]; omega)

theorem placed_rest (b : State) (k : Key) : (placed b k).ctab = b.ctab ∧ (placed b k).pkt = b.pkt ∧ (placed b k).intc = b.intc ∧ (placed b k).rdn = b.rdn ∧
    (placed b k).seq = b.seq ∧ ∀ f, (placed b k).get f = b.get f := by
  simp [placed, State.setWay]

theorem placed_eBit (b : State) (k : Key) (i : Nat) : (placed b k).eBit 5 i = b.eBit 5 i := by
  rw [State.eBit, State.eBit, placed_eGet b k 0 2 (by decide)]

theorem placed_ePermit (b : State) (k : Key) : (placed b k).ePermit 5 = b.ePermit 5 := placed_eGet b k 0x14 2 (by decide)

theorem placed_eKey (b : State) (k : Key) : (placed b k).eKey 5 = b.eKey 5 := by
  rw [State.eKey, State.eKey, placed_eGet b k 0 2 (by decide), placed_eGet b k 2 2 (by decide), placed_eGet b k 4 16 (by decide)]

/-- A way fits a key. -/
def wayFits (s : State) (k : Key) (w : Nat) : Bool :=
  decide (w / 2 ^ 63 = 1) && decide (w / 2 ^ 22 % 2 ^ 40 = s.sigOf k) && s.eValid (w % 2 ^ 22) && decide (s.eKey (w % 2 ^ 22) = k)

theorem findIn_first (s : State) (b : Nat) (k : Key) (h : wayFits s k (s.way b 0) = true) : s.findIn b k = some (s.way b 0 % 2 ^ 22) := by
  show Option.map (fun i => s.way b i % 2 ^ 22) (List.find? (fun i => wayFits s k (s.way b i)) (0 :: [1, 2, 3, 4, 5, 6, 7])) = _
  rw [List.find?_cons_of_pos (p := fun i => wayFits s k (s.way b i)) h, Option.map_some]

theorem placed_findKey (b : State) (k : Key) (hv : b.eValid 5 = true) (hk : b.eKey 5 = k) : (placed b k).findKey k = some 5 := by
  have hs : b.sigOf k < 2 ^ 40 := Nat.mod_lt _ (by decide)
  have hw : (placed b k).way (b.bucketA k) 0 = 2 ^ 63 + b.sigOf k * 2 ^ 22 + 5 := by
    unfold placed State.setWay State.way
    rw [memN_memPut]
    omega
  have hb : (placed b k).bucketA k = b.bucketA k := by rw [State.bucketA, State.bucketA, (placed_rest b k).1]
  have hg : (placed b k).sigOf k = b.sigOf k := by rw [State.sigOf, State.sigOf, (placed_rest b k).1]
  generalize b.sigOf k = g at hs hw hg
  have h3 : (2 ^ 63 + g * 2 ^ 22 + 5) % 2 ^ 22 = 5 := by omega
  have hf : wayFits (placed b k) k (2 ^ 63 + g * 2 ^ 22 + 5) = true := by
    rw [wayFits, h3, show (2 ^ 63 + g * 2 ^ 22 + 5) / 2 ^ 22 % 2 ^ 40 = g by omega, show (2 ^ 63 + g * 2 ^ 22 + 5) / 2 ^ 63 = 1 by omega, hg,
      State.eValid, placed_eBit, placed_eKey, hk, show b.eBit 5 0 = true from hv]
    simp
  unfold State.findKey
  rw [hb, findIn_first _ _ _ (by rw [hw]; exact hf), hw, h3, Option.orElse_some]

/-- Entry 5 with the key of `req0`, the given ENTCTL, permits and tokens. -/
def row5 (ctl permit tokens : Nat) : State :=
  let s := (((((up.ePut 5 0 2 ctl).ePut 5 2 2 100).ePut 5 4 16 5).ePut 5 0x14 2 permit).ePut 5 0x24 2 10).ePut 5 0x28 4 tokens
  { s with pkt := { s.pkt with reqs := [{ req0 with id := 7 }] } }

/-- The request of `row5`. -/
def req7 : Req := { req0 with id := 7 }

theorem row5_facts (c p t : Nat) : (placed (row5 c p t) req7.key).ctabUp = up.ctabUp ∧ (placed (row5 c p t) req7.key).intc.running = true ∧
    (placed (row5 c p t) req7.key).req? 7 = some req7 ∧ (placed (row5 c p t) req7.key).mayLease 5 (.decide 7) = true ∧
    (placed (row5 c p t) req7.key).turn req7 = true := by
  obtain ⟨h1, h2, h3, -, -, h4⟩ := placed_rest (row5 c p t) req7.key
  simp only [State.ctabUp, State.on, State.req?, State.mayLease, State.leased, State.turn, h1, h2, h3, h4]
  have hr : ∀ f, (row5 c p t).get f = up.get f := fun f => (get_congr (by simp [row5, State.ePut]) f)
  refine ⟨by rw [hr], ?_, ?_, ?_, ?_⟩
  · rw [show (row5 c p t).intc = up.intc by simp [row5, State.ePut]]; decide +kernel
  · rw [show (row5 c p t).pkt.reqs = [req7] from rfl]; decide +kernel
  · rw [show (row5 c p t).ctab = up.ctab by simp [row5, State.ePut]]; rfl
  · rw [show (row5 c p t).pkt.reqs = [req7] from rfl]; decide +kernel

/-- A request behind an undecided one of its key, one that finds a SUSPECT entry, one that finds a BAD one, and three that reach the bucket's decision. -/
theorem witness_TableLookups_found :
    (∃ s : State, ∃ r : Req, s.ctabUp = true ∧ s.intc.running = true ∧ s.req? 7 = some r ∧ r.dec = none ∧ s.turn r = false) ∧
    (∃ s : State, ∃ r : Req, s.ctabUp = true ∧ s.intc.running = true ∧ s.req? 7 = some r ∧ s.findKey r.key = some 5 ∧ r.dec = none ∧ s.eBit 5 1 = true ∧
      s.eBad 5 = false) ∧
    (∃ s : State, ∃ r : Req, s.ctabUp = true ∧ s.intc.running = true ∧ s.req? 7 = some r ∧ s.findKey r.key = some 5 ∧ r.dec = none ∧ r.looksUp = true ∧
      s.turn r = true ∧ s.mayLease 5 (.decide r.id) = true ∧ s.eBit 5 1 = false ∧ s.eBad 5 = true) ∧
    ∀ p ∈ [(0, 0, false), (1, 256, true), (1, 255, false)], ∃ s : State, ∃ r : Req, s.ctabUp = true ∧ s.intc.running = true ∧ s.req? 7 = some r ∧
      s.findKey r.key = some 5 ∧ r.dec = none ∧ r.looksUp = true ∧ s.turn r = true ∧ s.mayLease 5 (.decide r.id) = true ∧ s.eBit 5 1 = false ∧ s.eBad 5 = false ∧
      s.ePermit 5 / 2 ^ classPermit r.cls % 2 = p.1 ∧
      decide (256 ≤ refill (s.eGet 5 0x20 4) (s.eGet 5 0x24 2) (s.eGet 5 0x28 4) (stampNs (stamp64 r.rx) - stampNs (s.eGet 5 0x2C 8))) = p.2.2 := by
  have hu : up.ctabUp = true := by decide +kernel
  refine ⟨⟨{ up with pkt := { up.pkt with reqs := [req0, req7] } }, req7, by decide +kernel, rfl, rfl, rfl, by decide +kernel⟩,
    ⟨_, req7, (row5_facts 3 0 0).1.trans hu, (row5_facts 3 0 0).2.1, (row5_facts 3 0 0).2.2.1,
      placed_findKey _ _ (by decide +kernel) (by decide +kernel), rfl, (placed_eBit _ _ _).trans (by decide +kernel),
      (placed_eBit _ _ _).trans (by decide +kernel)⟩,
    ⟨_, req7, (row5_facts 5 0 0).1.trans hu, (row5_facts 5 0 0).2.1, (row5_facts 5 0 0).2.2.1,
      placed_findKey _ _ (by decide +kernel) (by decide +kernel), rfl, rfl, (row5_facts 5 0 0).2.2.2.2, (row5_facts 5 0 0).2.2.2.1,
      (placed_eBit _ _ _).trans (by decide +kernel), (placed_eBit _ _ _).trans (by decide +kernel)⟩, fun p hp => ?_⟩
  have key : (row5 1 p.1 p.2.1).eValid 5 = true ∧ (row5 1 p.1 p.2.1).eKey 5 = req7.key ∧ (row5 1 p.1 p.2.1).eBit 5 1 = false ∧
      (row5 1 p.1 p.2.1).eBit 5 2 = false ∧ (row5 1 p.1 p.2.1).ePermit 5 / 2 ^ classPermit req7.cls % 2 = p.1 ∧
      decide (256 ≤ refill ((row5 1 p.1 p.2.1).eGet 5 0x20 4) ((row5 1 p.1 p.2.1).eGet 5 0x24 2) ((row5 1 p.1 p.2.1).eGet 5 0x28 4)
        (stampNs (stamp64 req7.rx) - stampNs ((row5 1 p.1 p.2.1).eGet 5 0x2C 8))) = p.2.2 := by
    simp only [List.mem_cons, List.not_mem_nil, or_false] at hp
    obtain rfl | rfl | rfl := hp <;> decide +kernel
  obtain ⟨h1, h2, h3, h4, h5, h6⟩ := key
  obtain ⟨f1, f2, f3, f4, f5⟩ := row5_facts 1 p.1 p.2.1
  refine ⟨_, req7, f1.trans hu, f2, f3, placed_findKey _ _ h1 h2, rfl, rfl, f5, f4, (placed_eBit _ _ _).trans h3, (placed_eBit _ _ _).trans h4,
    (by rw [placed_ePermit]; exact h5), ?_⟩
  rw [placed_eGet _ _ 0x20 4 (by decide), placed_eGet _ _ 0x24 2 (by decide), placed_eGet _ _ 0x28 4 (by decide), placed_eGet _ _ 0x2C 8 (by decide)]
  exact h6

/-- The machine in service while the table rebuilds a bucket that a request's key reads. -/
def rebuildUp : State := { up with pkt := { up.pkt with reqs := [req0] }, ctab := { up.ctab with rebuild := [up.bucketA req0.key] } }

theorem empty_findKey (s : State) (k : Key) (h : s.mem = []) : s.findKey k = none := by
  have hw : ∀ b i, s.way b i = 0 := fun b i => by simp [State.way, State.memN, State.byte, h, look]
  have hf : ∀ b, s.findIn b k = none := fun b => by simp [State.findIn, hw]
  simp [State.findKey, hf]

/-- A request whose key is not held, while the table rebuilds its bucket. -/
theorem witness_TableLookups_rebuilding : rebuildUp.ctabUp = true ∧ rebuildUp.intc.running = true ∧ rebuildUp.req? 0 = some req0 ∧ req0.dec = none ∧
    req0.looksUp = true ∧ rebuildUp.turn req0 = true ∧ rebuildUp.findKey req0.key = none ∧ rebuildUp.rebuilding req0.key = true := by
  refine ⟨by decide +kernel, rfl, rfl, rfl, rfl, by decide +kernel, empty_findKey _ _ (by decide +kernel), ?_⟩
  have h : rebuildUp.bucketA req0.key = up.bucketA req0.key := by simp only [State.bucketA, rebuildUp]
  rw [State.rebuilding, h]
  simp [rebuildUp]

/-- A mirrored grant for a key that is held, and for one that is not. -/
theorem witness_Handovers_mirror :
    (∃ s : State, ∃ k : Key, s.paired = true ∧ s.intc.running = true ∧ s.rdn.lanes.length = 2 ∧ s.role = 1 ∧ s.ctabUp = true ∧ s.droverOn 0 = true ∧
      s.findKey k = some 5) ∧
    ∃ s : State, ∃ k : Key, s.paired = true ∧ s.intc.running = true ∧ s.rdn.lanes.length = 2 ∧ s.role = 1 ∧ s.ctabUp = true ∧ s.droverOn 0 = true ∧
      s.findKey k = none := by
  refine ⟨⟨placed ((row5 1 0 0).set F.RDN_STAT_ROLE 1) req0.key, req0.key, ?_, ?_, ?_, ?_, ?_, ?_, placed_findKey _ _ (by decide +kernel) (by decide +kernel)⟩,
    up.set F.RDN_STAT_ROLE 1, req0.key, by decide +kernel, rfl, rfl, by decide +kernel, by decide +kernel, by decide +kernel,
    empty_findKey _ _ (by decide +kernel)⟩
  all_goals obtain ⟨h1, h2, h3, h4, h5, h6⟩ := placed_rest ((row5 1 0 0).set F.RDN_STAT_ROLE 1) req0.key
  all_goals simp only [State.paired, State.past, State.role, State.ctabUp, State.droverOn, State.laneUp, State.on, State.bit, h3, h4, h5, h6]
  all_goals decide +kernel

/-- A step answers a next state. -/
def steps (s : State) : Bool := match step s with | .next _ => true | _ => false

theorem steps_iff (s : State) (h : steps s = true) : ∃ t, step s = .next t := by
  unfold steps at h
  split at h
  · exact ⟨_, by assumption⟩
  · cases h

/-- Two nested claims stand, and a waybill is waiting. -/
def nestedUp : State :=
  { up with intc := { running := true, host := { stack := [⟨49, 10, false, false⟩, ⟨145, 6, false, false⟩] } }, pending := [.hifReport h0 []] }

theorem witness_NestedStacks : nestedUp.intc.host.nested ∧ nestedUp.intc.mgmt.nested ∧ nestedUp.intc.host.stack.length = 2 ∧ ∃ t, step nestedUp = .next t := by
  refine ⟨⟨?_, ?_⟩, ⟨?_, ?_⟩, rfl, steps_iff _ (by decide +kernel)⟩ <;> simp [nestedUp]

/-- A machine with memory and registers in use keeps the forms and takes a step. -/
theorem witness_StateForms : ∃ s t : State, Memory.wf s.mem = true ∧ s.regsWf = true ∧ s.shaped = true ∧ s.latchesWf = true ∧ s.mem ≠ [] ∧ step s = .next t := by
  obtain ⟨t, ht⟩ := steps_iff { row5 1 1 256 with pending := [.hifReport h0 []] } (by decide +kernel)
  exact ⟨_, t, by decide +kernel, by decide +kernel, by decide +kernel, by decide +kernel, by decide +kernel, ht⟩

end Sys2Proof.Tests
end

section
/-! The taking and the end of a waybill that may run at once: the state its operation starts in, and the manifest it leaves when it fails. -/
namespace Sys2Proof.Machine

theorem takes_mayTake {h : WbHead} {s : State} (ht : Takes h s) : s.mayTake = true := by
  have hl : (s.mgmt.taken.filter (fun t => t.long)).length < 64 := Nat.lt_of_le_of_lt (List.length_filter_le _ _) ht.room
  simp [State.mayTake, ht.intc, ht.cores, hl]

theorem ownTaken_fence (w : Nat) (h : WbHead) (ps : List Word) (hw : w % 64 = 0) (hf : h.flags < 8) :
    (ownTaken w h ps).w0.toNat / 2 % 2 = h.flags / 2 % 2 := by
  simp only [ownTaken, BitVec.toNat_ofNat]; omega

theorem mem_before {s : State} {t x : Taken} (hx : x ∈ s.before t) : x ∈ s.mgmt.taken := List.takeWhile_subset _ hx

/-- Long operations hold nothing up (R370), and a FENCE finds its ring empty. -/
theorem takes_mayStart {h : WbHead} {s : State} (ht : Takes h s) (w : Nat) (ps : List Word) (hw : w % 64 = 0) (hf : h.flags < 8) :
    s.mayStart (ownTaken w h ps) = true := by
  have hlong : ∀ x ∈ s.before (ownTaken w h ps), x.holds = false := fun x hx => by simp [Taken.holds, ht.shorts x (mem_before hx)]
  simp only [State.mayStart, ownTaken_fence w h ps hw hf, Bool.and_eq_true, Bool.or_eq_true, List.all_eq_true, decide_eq_true_eq]
  refine ⟨fun x hx => by simp [hlong x hx], ?_⟩
  by_cases hfl : h.flags / 2 % 2 = 1
  · exact .inr fun x hx => ht.fence hfl x (mem_before hx)
  · exact .inl (by omega)

/-- The state in which a waybill that MGMT takes and starts at once meets its operation. -/
def State.begun (s : State) (w : Nat) (h : WbHead) (ps : List Word) : State :=
  { (s.takeOne (ownTaken w h ps)).markStarted h with fresh := (s.takeOne (ownTaken w h ps)).fresh + 1 }.lookedAt 3 (w / 2048)

/-- A waybill that is ready runs its operation at once, in the state `begun`. -/
theorem runOp_of_ready {h : WbHead} {s : State} (hr : Ready h s) (w : Nat) (long : Bool) (ps : List Word) (f : State → State) (hw : w % 64 = 0) :
    runOp w long h ps s f = fin (f (s.begun w h ps)) := by
  have hst : (s.takeOne (ownTaken w h ps)).seq = s.seq := by simp [State.takeOne]
  simp [runOp, startOp, hr.intc, hr.cores, hr.free, takes_mayTake hr.toTakes, takes_mayStart hr.toTakes w ps hw hr.flags, Nat.not_le.mpr hr.flags, hst,
    hr.up, State.past, State.begun]

@[simp] theorem State.begun_frame (s : State) (w : Nat) (h : WbHead) (ps : List Word) :
    (s.begun w h ps).refs = s.refs ∧ (s.begun w h ps).dpll = s.dpll ∧ (s.begun w h ps).hold = s.hold ∧ (s.begun w h ps).apll = s.apll ∧
    (s.begun w h ps).tb = s.tb ∧ (s.begun w h ps).tic = s.tic ∧ (s.begun w h ps).ebnd = s.ebnd ∧ (s.begun w h ps).gnss = s.gnss ∧
    (s.begun w h ps).mts = s.mts ∧ (s.begun w h ps).pkt = s.pkt ∧ (s.begun w h ps).auth = s.auth ∧ (s.begun w h ps).ctab = s.ctab ∧
    (s.begun w h ps).rdn = s.rdn ∧ (s.begun w h ps).mem = s.mem ∧ (s.begun w h ps).seq = s.seq := by
  simp [State.begun, State.takeOne, State.markStarted]

theorem get_begun (s : State) (w : Nat) (h : WbHead) (ps : List Word) (g : Field) (hg : g.offManifest = true) : (s.begun w h ps).get g = s.get g := by
  simp only [Field.offManifest, Bool.and_eq_true] at hg
  obtain ⟨⟨⟨htaken, -⟩, -⟩, -⟩ := hg
  calc (s.begun w h ps).get g = (s.takeOne (ownTaken w h ps)).get g := get_congr (by simp [State.begun, State.markStarted]) g
    _ = s.get g := (get_bump_disj _ _ g htaken).trans (get_congr (by rfl) g)

theorem get_of_regs_begun {s t : State} {w : Nat} {h : WbHead} {ps : List Word} (hregs : t.regs = (s.begun w h ps).regs) (g : Field)
    (hg : g.offManifest = true) : t.get g = s.get g := (get_congr hregs g).trans (get_begun s w h ps g hg)

theorem takenAt_begun {h : WbHead} {s : State} (hfree : s.takenAt h.ring h.slot = none) (w : Nat) (ps : List Word) :
    (s.begun w h ps).takenAt h.ring h.slot = some { ownTaken w h ps with started := true } := by
  have hnone : ∀ x ∈ s.mgmt.taken, ¬ (x.ring = h.ring ∧ x.slot = h.slot) := by simpa [State.takenAt] using hfree
  have hmap : s.mgmt.taken.map (fun t => if t.ring = h.ring ∧ t.slot = h.slot then { t with started := true } else t) = s.mgmt.taken :=
    (List.map_congr_left fun x hx => if_neg (hnone x hx)).trans (List.map_id _)
  have hm : (s.begun w h ps).mgmt.taken = s.mgmt.taken ++ [{ ownTaken w h ps with started := true }] := by
    simp only [State.begun, State.markStarted, State.lookedAt_frame, State.modTaken, State.takeOne, State.bump_frame, List.map_append, hmap]
    simp [ownTaken]
  rw [State.takenAt, hm, List.find?_append, ← State.takenAt, hfree]
  simp [ownTaken]

/-- A slot whose taken waybill is bound to no base can be written while host memory can be reached (R391). -/
theorem canWrite_of_base_none (s : State) (r k : Nat) (hb : (s.takenAt r k).bind (fun t => t.base) = none) :
    s.canWrite r k = (decide (2 ≤ r) || s.hostMem) := by
  by_cases hr : 2 ≤ r <;> simp [State.canWrite, hb, hr]

/-- MGMT holds the waybill of `h`, nobody waits for it, and its manifest can be written. -/
structure Pends (h : WbHead) (s : State) : Prop where
  entry : (s.entryOf h).suspReqs = []
  slot : s.canWrite h.ring h.slot = true

theorem pends_begun {h : WbHead} {s : State} (hr : Ready h s) (w : Nat) (ps : List Word) : Pends h (s.begun w h ps) where
  entry := by simp [State.entryOf, takenAt_begun hr.free, ownTaken]
  slot := by
    have hmem : (s.begun w h ps).hostMem = s.hostMem := by
      simp only [State.hostMem, State.on, get_begun _ _ _ _ F.HIF_STAT_LINKUP (by decide), get_begun _ _ _ _ F.HIF_STAT_BUSMASTER (by decide)]
    rw [canWrite_of_base_none _ _ _ (by simp [takenAt_begun hr.free, ownTaken]), hmem, ← canWrite_of_base_none s _ h.slot (by simp [hr.free])]
    exact hr.slot

/-- The end of a waybill depends on MGMT's state and the registers alone. -/
theorem Pends.congr {h : WbHead} {s t : State} (hp : Pends h s) (hm : t.mgmt = s.mgmt) (hr : t.regs = s.regs) : Pends h t where
  entry := by simpa only [State.entryOf, State.takenAt, hm] using hp.entry
  slot := by
    by_cases h2 : 2 ≤ h.ring
    · simp [State.canWrite, h2]
    · rw [canWrite_congr hm (fun a _ _ => by simp only [State.rd, hr]) _ _ (by omega)]
      exact hp.slot

theorem Failed.congr {h : WbHead} {s t : State} {e : Status} (hf : Failed h s e) (hm : t.mgmt = s.mgmt) : Failed h t e := by
  simpa only [Failed, Shows, State.manifestAt, hm] using hf

theorem Pends.failed {h : WbHead} {s : State} (hp : Pends h s) (e : Status) : Failed h (s.failed h e) e :=
  ⟨_, manifestAt_finish s h .failed e 0 [] false hp.slot hp.entry, rfl, rfl, rfl, rfl⟩

theorem offManifest_of_below {g : Field} (hb : g.addr + 2 * g.words ≤ 0x0F0000) : g.offManifest = true := by
  have hdisj : ∀ f : Field, 0x0F0000 ≤ f.addr → f.disj g = true := fun f hf => by
    simp only [Field.disj, Field.apart, Bool.or_eq_true, decide_eq_true_eq]; omega
  simp only [Field.offManifest, hdisj F.MGMT_TAKEN (by decide), hdisj F.FCOL_LOST (by decide), hdisj F.MGMT_MANFAIL (by decide),
    hdisj F.MGMT_WBSTAT_LONG (by decide), Bool.and_self]

theorem onlyRegs_nil {s t : State} : OnlyRegs [] s t ↔ ∀ g : Field, g.offManifest = true → t.get g = s.get g := by
  simp [OnlyRegs]

end Sys2Proof.Machine
end

section
/-! Stale generations (R46, R374): what each waybill that carries a generation does when its unit's generation differs. -/
namespace Sys2Proof.Machine

/-! ### At once -/

/-- R46: a stale generation ends the waybill. -/
theorem genCheck_stale {g : Field} {given : Nat} {s : State} (hne : s.get g ≠ given) (h : WbHead) (f : State → State) :
    genCheck g given h s f = s.failed h .genConflict := if_neg hne

theorem cfgOp_stale {g : Field} {given : Nat} {s : State} (hne : s.get g ≠ given) (l : List (Nat × Nat)) (post : State → State → State) (h : WbHead) :
    cfgOp g given l post h s = s.failed h .genConflict := genCheck_stale hne h _

/-- A ready waybill whose operation finds a stale generation ends with that alone. -/
theorem runOp_stale {h : WbHead} {s : State} {w : Nat} {long : Bool} {ps : List Word} {f : State → State} (hr : Ready h s) (hw : w % 64 = 0)
    (hf : f (s.begun w h ps) = (s.begun w h ps).failed h .genConflict) :
    runOp w long h ps s f = fin ((s.begun w h ps).failed h .genConflict) := by rw [runOp_of_ready hr w long ps f hw, hf]

/-- No generation is a register that the taking or the end of a waybill changes. -/
theorem unitGen_offManifest {c : Instr} {g : Field} {v : Word} (hg : c.unitGen = some (g, v)) : g.offManifest = true := by
  unfold Instr.unitGen at hg
  repeat' split at hg
  all_goals cases hg
  -- one generation for each reference, ensemble member and PLL; of the others the register is fixed
  case h_1.isTrue hn | h_2.isTrue hn => exact offManifest_of_below (by simp only [F.RMON_REF_GEN, Field.words]; omega)
  case h_8.isTrue hn => exact offManifest_of_below (by simp only [F.HOLD_MEMBER_GEN, Field.words]; omega)
  case h_11.isTrue hn | h_12.isTrue hn => exact offManifest_of_below (by simp only [F.APLL_PLL_GEN, Field.words]; omega)
  all_goals decide

/-- Where an operation looks at other parameters before its generation, it checks the generation on both sides. -/
theorem genCheck_or_cfgOp_stale {g : Field} {given : Nat} {s : State} (hne : s.get g ≠ given) (h : WbHead) (p : Prop) [Decidable p] (f : State → State)
    (l : List (Nat × Nat)) (post : State → State → State) :
    (if p then genCheck g given h s f else cfgOp g given l post h s) = s.failed h .genConflict := by
  split
  · exact genCheck_stale hne h f
  · exact cfgOp_stale hne l post h

section
variable {s : State} {h : WbHead} {n g : Word} {r : List Word} (hr : Ready h s)
include hr

theorem rmonRefcfg_stale (hn : n.toNat < 12) (hne : (s.begun 0x1000 h (n :: g :: r)).get (F.RMON_REF_GEN n.toNat) ≠ g.toNat) :
    execRmonRefcfg h (n :: g :: r) s = fin ((s.begun 0x1000 h (n :: g :: r)).failed h .genConflict) :=
  runOp_stale hr rfl ((if_neg (Nat.not_le.mpr hn)).trans (genCheck_or_cfgOp_stale hne h _ _ _ _))

theorem rmonRequal_stale (hn : n.toNat < 12) (hne : (s.begun 0x1080 h (n :: g :: r)).get (F.RMON_REF_GEN n.toNat) ≠ g.toNat) :
    execRmonRequal h (n :: g :: r) s = fin ((s.begun 0x1080 h (n :: g :: r)).failed h .genConflict) :=
  runOp_stale hr rfl ((if_neg (Nat.not_le.mpr hn)).trans (genCheck_stale hne h _))

theorem holdMembercfg_stale (hn : 2 ≤ n.toNat ∧ n.toNat < 8)
    (hne : (s.begun 0x2040 h (n :: g :: r)).get (F.HOLD_MEMBER_GEN n.toNat) ≠ g.toNat) :
    execHoldMembercfg h (n :: g :: r) s = fin ((s.begun 0x2040 h (n :: g :: r)).failed h .genConflict) := by
  have hin : ¬ (n.toNat < 2 ∨ 7 < n.toNat) := by omega
  exact runOp_stale hr rfl ((if_neg hin).trans (genCheck_or_cfgOp_stale hne h _ _ _ _))

theorem apllCfg_stale (hn : n.toNat < 3) (hne : (s.begun 0x2800 h (n :: g :: r)).get (F.APLL_PLL_GEN n.toNat) ≠ g.toNat) :
    execApllCfg h (n :: g :: r) s = fin ((s.begun 0x2800 h (n :: g :: r)).failed h .genConflict) :=
  runOp_stale hr rfl ((if_neg (Nat.not_le.mpr hn)).trans (genCheck_or_cfgOp_stale hne h _ _ _ _))

theorem apllRelock_stale (hn : n.toNat < 3) (hne : (s.begun 0x2840 h (n :: g :: r)).get (F.APLL_PLL_GEN n.toNat) ≠ g.toNat) :
    execApllRelock h (n :: g :: r) s = fin ((s.begun 0x2840 h (n :: g :: r)).failed h .genConflict) :=
  runOp_stale hr rfl ((if_neg (Nat.not_le.mpr hn)).trans (genCheck_stale hne h _))

theorem tbaseSettime_stale (hload : s.tb.load = none) (hne : (s.begun 0x3000 h (g :: r)).get F.TBASE_GEN ≠ g.toNat) :
    execTbaseSettime h (g :: r) s = fin ((s.begun 0x3000 h (g :: r)).failed h .genConflict) := by
  refine runOp_stale hr rfl ((if_neg ?_).trans (genCheck_stale hne h _))
  simp [hload]

end

/-- A waybill whose change is made at once fails with GENCONFLICT: most check the generation first, six after a condition of their own. -/
theorem exec_of_stale {c : Instr} {s : State} {w : Nat} {h : WbHead} {ps : List Word} {g : Field} {v : Word} (hwb : c.waybill = some (w, h, ps))
    (hg : c.unitGen = some (g, v)) (hr : Ready h s) (hne : (s.begun w h ps).get g ≠ v.toNat) (hc : c.atClose = false) (ht : c.atTick = false)
    (hload : w = 0x3000 → s.tb.load = none) : exec c s = fin ((s.begun w h ps).failed h .genConflict) := by
  unfold Instr.unitGen at hg
  repeat' split at hg
  all_goals cases hg
  all_goals cases hwb
  case h_1.isTrue hn => exact rmonRefcfg_stale hr hn hne
  case h_2.isTrue hn => exact rmonRequal_stale hr hn hne
  case h_8.isTrue hn => exact holdMembercfg_stale hr hn hne
  case h_11.isTrue hn => exact apllCfg_stale hr hn hne
  case h_12.isTrue hn => exact apllRelock_stale hr hn hne
  case h_13 => exact tbaseSettime_stale hr (hload rfl) hne
  all_goals simp only [Instr.atClose, Instr.atTick, reduceCtorEq] at hc ht
  all_goals exact runOp_stale hr rfl (genCheck_stale hne _ _)

theorem answers_of_stale {c : Instr} {s : State} {w : Nat} {h : WbHead} {ps : List Word} (hr : Ready h s)
    (he : exec c s = fin ((s.begun w h ps).failed h .genConflict)) : Answers c s fun t => Failed h t .genConflict ∧
    OnlyRegs [] s t ∧ t.mem = s.mem ∧ t.refs = s.refs ∧ t.dpll = s.dpll ∧ t.hold = s.hold ∧ t.apll = s.apll ∧ t.tb = s.tb ∧ t.tic = s.tic ∧ t.gnss = s.gnss ∧
    t.mts = s.mts ∧ t.pkt = s.pkt ∧ t.auth = s.auth ∧ t.ctab = s.ctab ∧ t.rdn = s.rdn := by
  refine ⟨_, he, ((pends_begun hr w ps).failed _).congr (by simp), ?_, by simp⟩
  exact onlyRegs_nil.mpr fun g hg => by rw [State.settle_get, get_failed _ _ _ _ hg, get_begun _ _ _ _ _ hg]

/-! ### At the next convoy close (R292) and at the next tick (R358) -/

/-- A waybill of PKT that names a unit waits for the next convoy close with the generation it carries (R292). -/
theorem exec_pktLater {c : Instr} {s : State} {w : Nat} {h : WbHead} {ps : List Word} {g : Field} {v : Word} (hwb : c.waybill = some (w, h, ps))
    (hg : c.unitGen = some (g, v)) (hr : Ready h s) (hc : c.atClose = true) :
    g = F.PKT_GEN ∧ ∃ l act, exec c s = fin ((s.begun w h ps).pktLater h v.toNat l act) := by
  unfold Instr.unitGen at hg
  repeat' split at hg
  all_goals cases hg
  all_goals cases hwb
  all_goals simp only [Instr.atClose, reduceCtorEq] at hc
  -- PKT_CFG and PKT_LIMITCFG name no member of a group; the other six check theirs
  case h_30 | h_31 => exact ⟨rfl, _, _, runOp_of_ready hr _ _ _ _ rfl⟩
  all_goals exact ⟨rfl, _, _, (runOp_of_ready hr _ _ _ _ rfl).trans (congrArg fin (if_neg (Nat.not_le.mpr ‹_›)))⟩

/-- A waybill of EBND that names a unit waits for the next tick with the generation it carries (R358). -/
theorem exec_ebndLater {c : Instr} {s : State} {w : Nat} {h : WbHead} {ps : List Word} {g : Field} {v : Word} (hwb : c.waybill = some (w, h, ps))
    (hg : c.unitGen = some (g, v)) (hr : Ready h s) (ht : c.atTick = true) :
    g = F.EBND_GEN ∧ ∃ l, exec c s = fin ((s.begun w h ps).ebndLater h v.toNat l) := by
  unfold Instr.unitGen at hg
  repeat' split at hg
  all_goals cases hg
  all_goals cases hwb
  all_goals simp only [Instr.atTick, reduceCtorEq] at ht
  case h_44 => exact ⟨rfl, _, runOp_of_ready hr _ _ _ _ rfl⟩
  case h_45.isTrue hn => exact ⟨rfl, _, (runOp_of_ready hr _ _ _ _ rfl).trans (congrArg fin (if_neg (Nat.not_le.mpr hn)))⟩

theorem applyCfg_stale {s : State} {j : CfgJob} (hne : s.get F.PKT_GEN ≠ j.given) : s.applyCfg j = s.failed j.wb .genConflict := by
  unfold State.applyCfg
  split
  case h_5 => exact genCheck_stale hne _ _
  all_goals exact cfgOp_stale hne _ _ _

/-- A stale operation that waits alone fails as it is applied. -/
theorem applyCfgs_stale {s : State} {j : CfgJob} (hj : s.pkt.cfgs = [j]) (hne : s.get F.PKT_GEN ≠ j.given) :
    s.applyCfgs = (s.setPkt { s.pkt with cfgs := [] }).failed j.wb .genConflict := by
  rw [State.applyCfgs, hj, List.foldl_cons, List.foldl_nil, applyCfg_stale (by simpa using hne)]

theorem ebndCfgs_stale {s : State} {j : CfgJob} (hj : s.ebnd.cfgs = [j]) (hne : s.get F.EBND_GEN ≠ j.given) :
    s.ebndCfgs = (s.setEbnd { s.ebnd with cfgs := [] }).failed j.wb .genConflict := by
  rw [State.ebndCfgs, hj, List.foldl_cons, List.foldl_nil, cfgOp_stale (by simpa using hne)]

/-- A port with nothing ready has its status shown at the close, and no more. -/
theorem closePort_idle {s : State} (hi : s.pkt.ready = []) (plans : List ConvoyPlan) (p : Nat) : s.closePort plans p = s.showPort p := by
  have hs : s.setReady [] = s := by rw [← hi]; rfl
  simp [State.closePort, hi, hs, byPrio, State.fillConvoy]

theorem closePorts_idle (plans : List ConvoyPlan) (l : List Nat) {s : State} (hi : s.pkt.ready = []) :
    (l.foldl (State.closePort plans) s).pkt = s.pkt ∧ (l.foldl (State.closePort plans) s).mem = s.mem ∧
    (l.foldl (State.closePort plans) s).mgmt = s.mgmt ∧
    ∀ g, (∀ p ∈ l, (F.PKT_PORT_STAT p).disj g = true) → (l.foldl (State.closePort plans) s).get g = s.get g := by
  induction l generalizing s with
  | nil => simp
  | cons p l ih =>
    have hp : (s.showPort p).pkt = s.pkt ∧ (s.showPort p).mem = s.mem ∧ (s.showPort p).mgmt = s.mgmt := by simp [State.showPort]
    obtain ⟨hpkt, hmem, hmgmt⟩ := hp
    obtain ⟨ihpkt, ihmem, ihmgmt, ihget⟩ := ih (s := s.showPort p) (hpkt ▸ hi)
    rw [List.foldl_cons, closePort_idle hi]
    refine ⟨ihpkt.trans hpkt, ihmem.trans hmem, ihmgmt.trans hmgmt, fun g hg => ?_⟩
    obtain ⟨hgp, hgl⟩ := List.forall_mem_cons.mp hg
    exact (ihget g hgl).trans (get_set_disj s _ g _ hgp)

theorem nPorts_le (s : State) : s.nPorts ≤ 8 := by unfold State.nPorts; split <;> decide

/-- A stale operation of PKT that waits alone fails at the convoy close, which shows every port's status (R271, R292). -/
theorem convoyClose_stale {t : State} {j : CfgJob} (plans : List ConvoyPlan) (hst : t.seq.st = .running) (hj : t.pkt.cfgs = [j])
    (hidle : t.pkt.ready = []) (hp : Pends j.wb t) (hne : t.get F.PKT_GEN ≠ j.given) :
    Answers (.convoyClose plans) t fun u => Failed j.wb u .genConflict ∧ OnlyRegs ((List.range 8).map F.PKT_PORT_STAT) t u ∧
      u.pkt = { t.pkt with cfgs := [] } ∧ u.mem = t.mem := by
  have hclose : exec (.convoyClose plans) t = fin ((List.range t.applyCfgs.nPorts).foldl (State.closePort plans) t.applyCfgs) := by
    show execConvoyClose plans t = _
    simp [execConvoyClose, pktEvent, State.past, hst]
  have happly := applyCfgs_stale hj hne
  have hpkt : t.applyCfgs.pkt = { t.pkt with cfgs := [] } := by simp only [happly, State.failed_frame, State.setPkt_frame]
  have hmem : t.applyCfgs.mem = t.mem := by simp only [happly, State.failed_frame, State.setPkt_frame]
  obtain ⟨cpkt, cmem, cmgmt, cget⟩ := closePorts_idle plans (List.range t.applyCfgs.nPorts) (s := t.applyCfgs) (by rw [hpkt]; exact hidle)
  refine ⟨_, hclose, ?_, fun g hg hports => ?_, ?_, ?_⟩
  · have hfailed : Failed j.wb t.applyCfgs .genConflict := happly ▸ (hp.congr (by simp) (by simp)).failed _
    exact hfailed.congr (by simp only [State.settle_frame, cmgmt])
  · have hshown : ∀ p ∈ List.range t.applyCfgs.nPorts, (F.PKT_PORT_STAT p).disj g = true := fun p hp =>
      hports _ (List.mem_map_of_mem (List.mem_range.mpr (Nat.lt_of_lt_of_le (List.mem_range.mp hp) (nPorts_le _))))
    rw [State.settle_get, cget g hshown, happly, get_failed _ _ _ _ hg, State.setPkt_get]
  · simp only [State.settle_frame, cpkt, hpkt]
  · simp only [State.settle_frame, cmem, hmem]

/-- A stale operation of EBND that waits alone fails at the tick. -/
theorem failed_ebndCfgs_of_stale {t : State} {j : CfgJob} (hj : t.ebnd.cfgs = [j]) (hp : Pends j.wb t) (hne : t.get F.EBND_GEN ≠ j.given) :
    Failed j.wb t.ebndCfgs .genConflict ∧ OnlyRegs [] t t.ebndCfgs ∧ t.ebndCfgs.ebnd = { t.ebnd with cfgs := [] } := by
  rw [ebndCfgs_stale hj hne]
  refine ⟨(hp.congr (by simp) (by simp)).failed _, onlyRegs_nil.mpr fun g hg => ?_, by simp⟩
  rw [get_failed _ _ _ _ hg, State.setEbnd_get]

theorem atClose_of_stale {c : Instr} {s : State} {w : Nat} {h : WbHead} {ps : List Word} {given : Nat} {l : List (Nat × Nat)} {act : CfgAct} (hr : Ready h s)
    (he : exec c s = fin ((s.begun w h ps).pktLater h given l act)) (hne : s.get F.PKT_GEN ≠ given) (hnil : s.pkt.cfgs = []) (hidle : s.pkt.ready = []) :
    AtClose c s fun t => Failed h t .genConflict ∧ OnlyRegs ((List.range 8).map F.PKT_PORT_STAT) s t ∧ t.pkt = s.pkt ∧ t.mem = s.mem := by
  refine ⟨_, he, ?_⟩
  generalize hwait : ((s.begun w h ps).pktLater h given l act).settle = t
  have hpkt : t.pkt = { s.pkt with cfgs := [⟨h, given, l, act⟩] } := by simp [← hwait, State.pktLater, hnil]
  have hregs : t.regs = (s.begun w h ps).regs := by simp [← hwait, State.pktLater]
  have hget := get_of_regs_begun hregs
  have hp : Pends h t := (pends_begun hr w ps).congr (by simp [← hwait, State.pktLater]) hregs
  have hstale : t.get F.PKT_GEN ≠ given := by rw [hget F.PKT_GEN (by decide)]; exact hne
  have hst : t.seq.st = .running := by simp [← hwait, State.pktLater, hr.up]
  have hmem : t.mem = s.mem := by simp [← hwait, State.pktLater]
  obtain ⟨u, hu, hfailed, honly, hupkt, humem⟩ := convoyClose_stale (j := ⟨h, given, l, act⟩) [] hst (by rw [hpkt]) (by rw [hpkt]; exact hidle) hp
    hstale
  refine ⟨by rw [hpkt], onlyRegs_nil.mpr hget, u, hu, hfailed, fun g hg hports => (honly g hg hports).trans (hget g hg), ?_, humem.trans hmem⟩
  rw [hupkt, hpkt, ← hnil]

theorem answers_of_stale_atTick {c : Instr} {s : State} {w : Nat} {h : WbHead} {ps : List Word} {given : Nat} {l : List (Nat × Nat)} (hr : Ready h s)
    (he : exec c s = fin ((s.begun w h ps).ebndLater h given l)) (hne : s.get F.EBND_GEN ≠ given) (hnil : s.ebnd.cfgs = []) :
    Answers c s fun t => Failed h t.ebndCfgs .genConflict ∧ OnlyRegs [] s t.ebndCfgs ∧ t.ebndCfgs.ebnd = s.ebnd := by
  refine ⟨_, he, ?_⟩
  generalize hwait : ((s.begun w h ps).ebndLater h given l).settle = t
  have hebnd : t.ebnd = { s.ebnd with cfgs := [⟨h, given, l, .plain⟩] } := by simp [← hwait, State.ebndLater, hnil]
  have hregs : t.regs = (s.begun w h ps).regs := by simp [← hwait, State.ebndLater]
  have hget := get_of_regs_begun hregs
  have hp : Pends h t := (pends_begun hr w ps).congr (by simp [← hwait, State.ebndLater]) hregs
  have hstale : t.get F.EBND_GEN ≠ given := by rw [hget F.EBND_GEN (by decide)]; exact hne
  obtain ⟨hfailed, honly, htick⟩ := failed_ebndCfgs_of_stale (j := ⟨h, given, l, .plain⟩) (by rw [hebnd]) hp hstale
  refine ⟨hfailed, onlyRegs_nil.mpr fun g hg => (onlyRegs_nil.mp honly g hg).trans (hget g hg), ?_⟩
  rw [htick, hebnd, ← hnil]

/-- Settles O42: at once `genCheck` ends the waybill, and an operation that waits is checked where it is applied. -/
theorem generationChecks : Obligations.GenerationChecks := by
  intro c s w h ps hwb g v hg hr hne
  have hbegun : (s.begun w h ps).get g ≠ v.toNat := by rw [get_begun s w h ps g (unitGen_offManifest hg)]; exact hne.symm
  refine ⟨fun hc ht hload => answers_of_stale hr (exec_of_stale hwb hg hr hbegun hc ht hload), fun hc hnil hidle => ?_, fun ht hnil => ?_⟩
  · obtain ⟨rfl, l, act, he⟩ := exec_pktLater hwb hg hr hc
    exact atClose_of_stale hr he hne.symm hnil hidle
  · obtain ⟨rfl, l, he⟩ := exec_ebndLater hwb hg hr ht
    exact answers_of_stale_atTick hr he hne.symm hnil

end Sys2Proof.Machine
end

section
/-! The rules of interrupts, messages and registers that an event with a status bit needs: an asserted level source, a message with room, and the clearing of
bits by a write of ones (R402, R416, R12). -/
namespace Sys2Proof.Machine

/-! ### Level sources -/

/-- Sampling takes no source into service and none out of it. -/
theorem sampleLevel_stack_any (b : Bool) (t : Target) (m n : Nat) :
    (sampleLevel b t m).stack.any (fun e => e.src = n) = t.stack.any (fun e => e.src = n) := by
  unfold sampleLevel
  split
  · rw [List.any_map]
    congr 1
    funext e
    simp only [Function.comp_apply]
    split <;> rfl
  · rfl

theorem mem_pend_sampleLevel_of_idle {t : Target} {n : Nat} (hidle : t.stack.any (fun e => e.src = n) = false) :
    n ∈ (sampleLevel true t n).pend := by
  simp [sampleLevel, hidle, mem_insertNat]

/-- A pending source whose input holds stays pending while any level source is sampled. -/
theorem mem_pend_sampleLevel {s : State} {t : Target} {n : Nat} (hin : s.levelIn n = true) (hp : n ∈ t.pend) (m : Nat) :
    n ∈ (sampleLevel (s.levelIn m) t m).pend := by
  by_cases hm : n = m
  · subst hm
    unfold sampleLevel
    split
    · exact hp
    · simp [mem_insertNat]
  · exact (sampleLevel_pend _ _ _ _ hm).mpr hp

theorem mem_pend_foldl_sampleLevel {s : State} {n : Nat} (hin : s.levelIn n = true) (l : List Nat) {t : Target} (hp : n ∈ t.pend) :
    n ∈ (l.foldl (fun t m => sampleLevel (s.levelIn m) t m) t).pend := by
  induction l generalizing t with
  | nil => exact hp
  | cons m r ih => exact ih (mem_pend_sampleLevel hin hp m)

/-- R402: a level source whose input holds is pending once all are sampled, unless it is in service. -/
theorem mem_pend_sampleAll {s : State} {t : Target} {n : Nat} (hl : n ∈ levelSources) (hin : s.levelIn n = true)
    (hidle : t.stack.any (fun e => e.src = n) = false) : n ∈ (s.sampleAll t).pend := by
  unfold State.sampleAll
  generalize levelSources = l at hl
  induction l generalizing t with
  | nil => simp at hl
  | cons m r ih =>
    rw [List.foldl_cons]
    rcases List.mem_cons.mp hl with rfl | hr
    · exact mem_pend_foldl_sampleLevel hin r (hin ▸ mem_pend_sampleLevel_of_idle hidle)
    · exact ih (by rw [sampleLevel_stack_any, hidle]) hr

theorem mem_host_pend_settle {s : State} {n : Nat} (hl : n ∈ levelSources) (hin : s.levelIn n = true) (hrun : s.intc.running = true)
    (hidle : s.intc.host.stack.any (fun e => e.src = n) = false) : n ∈ s.settle.intc.host.pend := by
  simpa [State.settle, hrun] using mem_pend_sampleAll hl hin hidle

/-! ### Messages -/

/-- R416: a message whose sender has fewer than eight unsent joins those on their way. -/
theorem inflight_fault {s : State} {b : Nat} (hrun : s.fcol.running = true) (hroom : s.queued b < 8) (k d : Nat) :
    (s.fault b k d).fcol.inflight = s.fcol.inflight ++ [{ src := b, kind := k, detail := d % 2 ^ 32, sent := s.tb.ticks }] := by
  simp [State.fault, State.sendMsg, hrun, State.hasRoom, hroom, State.pushMsg]

/-! ### Clearing bits -/

/-- A one-bit field in the first word of its register is a bit of that word. -/
theorem get_bit (s : State) (a i : Nat) (hi : i < 16) : s.get ⟨a, i, 1⟩ = ((s.rd a).toNat.testBit i).toNat := by
  have hw : (⟨a, i, 1⟩ : Field).words = 1 := by simp only [Field.words]; omega
  simp only [State.get, hw, State.rdN, Nat.toNat_testBit, Nat.mul_zero, Nat.add_zero, Nat.pow_one]

theorem get_clearBits_bit (s : State) (a m i : Nat) (hi : i < 16) :
    (s.clearBits a m).get ⟨a, i, 1⟩ = if m.testBit i then 0 else s.get ⟨a, i, 1⟩ := by
  have hmask : (0xFFFF : Nat).testBit i = true := by rw [show 0xFFFF = 2 ^ 16 - 1 by rfl, Nat.testBit_two_pow_sub_one]; simpa using hi
  rw [get_bit _ _ _ hi, get_bit _ _ _ hi, State.clearBits, rd_wr, if_pos rfl, BitVec.toNat_ofNat, Nat.testBit_mod_two_pow, Nat.testBit_and,
    Nat.testBit_xor, hmask]
  cases m.testBit i <;> simp [hi]

/-- Clearing bits of a word changes no field outside the word. -/
theorem get_clearBits_disj (s : State) (a m : Nat) (g : Field) (h : Field.disj ⟨a, 0, 16⟩ g = true) : (s.clearBits a m).get g = s.get g := by
  have hset : s.clearBits a m = s.set ⟨a, 0, 16⟩ ((s.rd a).toNat &&& (0xFFFF ^^^ m)) := by
    simp only [State.clearBits, State.set, Field.words, State.wrN]
    congr 1
    apply BitVec.eq_of_toNat_eq
    simp only [putBits, BitVec.toNat_ofNat]
    omega
  rw [hset, get_set_disj _ _ _ _ h]

/-- R13, R385: a word without reserved bits, for a register that has no RW field and whose write is no command, clears its W1C bits alone. -/
theorem regWrite_eq_writeW1c {s : State} {req a : Nat} {w : Word} {r : RegRow} {i : Nat} (hres : w.toNat &&& accMask .res a = 0)
    (hact : s.actWrite req a w = none) (hrw : r.fields.any (fun f => f.acc = .rw) = false) : s.regWrite req a w r i = s.writeW1c a w.toNat := by
  simp [State.regWrite, hres, hact, hrw]

/-- R385: a whole write by a path that may write reaches the bus. -/
theorem exec_registerWrite_whole {s : State} {req : Nat} (hup : s.pathUp req = true) (hmay : s.mayWrite req = true) (a : Nat) (w : Word) :
    exec (.registerWrite req a w .whole) s = fin (s.busWrite req a w) := by
  calc exec (.registerWrite req a w .whole) s = execRegisterWrite req a w .whole s := rfl
    _ = fin (s.busWrite req a w) := by simp [execRegisterWrite, hup, State.pathWrites, hmay, State.busWrites]

end Sys2Proof.Machine
end

section
/-! Excursions of the rails and of the power stages (R53): the event, and the bits of PSU_EVT that cannot be cleared while one lasts. -/
namespace Sys2Proof.Machine

/-! ### The event -/

/-- The state in which an excursion that sets bit `f` of PSU_EVT and sends kind `k` leaves the machine, INTC still to follow. -/
def State.excursion (s : State) (p : Psu) (f : Field) (k : Nat) : State := ((s.setPsu p).setB f true).fault 1 k

theorem get_excursion (s : State) (p : Psu) {f : Field} (k : Nat) (hw : 0 < f.wid) (hd : F.FCOL_LOST.disj f = true) : (s.excursion p f k).get f = 1 := by
  rw [State.excursion, get_fault _ _ _ _ _ hd, get_setB _ _ _ hw, if_pos rfl]

theorem inflight_excursion {s : State} (hrun : s.fcol.running = true) (hroom : s.queued 1 < 8) (p : Psu) (f : Field) (k : Nat) :
    (s.excursion p f k).fcol.inflight = s.fcol.inflight ++ [{ src := 1, kind := k, sent := s.tb.ticks }] := by
  have hqueued : ((s.setPsu p).setB f true).queued 1 = s.queued 1 := by simp [State.queued]
  simp [State.excursion, inflight_fault (s := (s.setPsu p).setB f true) (by simpa using hrun) (hqueued ▸ hroom)]

/-- Source 7 holds while either of its bits reads 1. -/
theorem levelIn_seven_iff (s : State) : s.levelIn 7 = true ↔ s.get F.PSU_EVT_RAILFLT = 1 ∨ s.get F.PSU_EVT_OVERTEMP = 1 := by
  have hr : s.get F.PSU_EVT_RAILFLT < 2 := get_lt s _
  have ho : s.get F.PSU_EVT_OVERTEMP < 2 := get_lt s _
  simp [State.levelIn, State.on, Nat.mod_eq_of_lt hr, Nat.mod_eq_of_lt ho]

/-- R53: the event of either kind sets its bit, raises source 7 and sends its one message. -/
theorem answers_excursion {c : Instr} {s : State} {p : Psu} {f : Field} {k : Nat} (he : exec c s = fin (s.excursion p f k))
    (hf : f = F.PSU_EVT_RAILFLT ∨ f = F.PSU_EVT_OVERTEMP) : Answers c s fun t =>
      t.psu = p ∧ t.get f = 1 ∧ t.levelIn 7 = true ∧
      (s.intc.running = true → s.intc.host.stack.any (fun e => e.src = 7) = false → 7 ∈ t.intc.host.pend) ∧
      (s.fcol.running = true → s.queued 1 < 8 → t.fcol.inflight = s.fcol.inflight ++ [{ src := 1, kind := k, sent := s.tb.ticks }]) := by
  have hbit : (s.excursion p f k).get f = 1 := by rcases hf with rfl | rfl <;> exact get_excursion s p k (by decide) (by decide)
  have hseven : ∀ {t : State}, t.get f = 1 → t.levelIn 7 = true := fun h => (levelIn_seven_iff _).mpr (by rcases hf with rfl | rfl <;> simp [h])
  have hintc : (s.excursion p f k).intc = s.intc := by simp [State.excursion]
  refine ⟨_, he, by simp [State.excursion], by rw [State.settle_get, hbit], hseven (by rw [State.settle_get, hbit]), fun hrun hidle => ?_,
    fun hrun hroom => ?_⟩
  · exact mem_host_pend_settle (by decide) (hseven hbit) (hintc ▸ hrun) (hintc ▸ hidle)
  · rw [← inflight_excursion hrun hroom p f k]; simp only [State.settle_frame]

theorem exec_railFault {s : State} (hp : s.past 1 = true) (hx : s.psu.railExc = false) :
    exec .railFault s = fin (s.excursion { s.psu with railExc := true } F.PSU_EVT_RAILFLT 3) := by
  calc exec .railFault s = execRailFault s := rfl
    _ = _ := if_pos (by simp [hp, hx])

theorem exec_powerStageOvertemp {s : State} (hp : s.past 1 = true) (hx : s.psu.tempExc = false) :
    exec .powerStageOvertemp s = fin (s.excursion { s.psu with tempExc := true } F.PSU_EVT_OVERTEMP 4) := by
  calc exec .powerStageOvertemp s = execPowerStageOvertemp s := rfl
    _ = _ := if_pos (by simp [hp, hx])

/-- While a rail excursion lasts, a rail fault is no event (R53; log entry 28 for another rail). -/
theorem exec_railFault_lasting {s : State} (hx : s.psu.railExc = true) : exec .railFault s = .next s := by
  calc exec .railFault s = execRailFault s := rfl
    _ = .next s := if_neg (by simp [hx])

theorem exec_powerStageOvertemp_lasting {s : State} (hx : s.psu.tempExc = true) : exec .powerStageOvertemp s = .next s := by
  calc exec .powerStageOvertemp s = execPowerStageOvertemp s := rfl
    _ = .next s := if_neg (by simp [hx])

theorem answers_railExcursionEnd (temp : Bool) (s : State) : Answers (.railExcursionEnd temp) s fun t =>
    t.psu = (if temp then { s.psu with tempExc := false } else { s.psu with railExc := false }) ∧ t.regs = s.regs :=
  ⟨_, rfl, by simp, by simp⟩

/-! ### Writes to PSU_EVT -/

/-- The bits of PSU_EVT that a write of ones may clear: those of excursions that last are kept (R53). -/
def psuEvtMask (rail temp : Bool) : Nat := 31 &&& (0xFFFF ^^^ ((if rail then 8 else 0) + (if temp then 16 else 0)))

theorem testBit_psuEvtMask : ∀ rail temp, (psuEvtMask rail temp).testBit 3 = !rail ∧ (psuEvtMask rail temp).testBit 4 = !temp := by decide

theorem accMask_psuEvt : accMask .w1c F.PSU_EVT.addr = 31 ∧ accMask .res F.PSU_EVT.addr = 0xFFE0 := by decide

theorem writeW1c_psuEvt (s : State) (v : Nat) : s.writeW1c F.PSU_EVT.addr v =
    if v &&& psuEvtMask s.psu.railExc s.psu.tempExc = 0 then s
    else s.clearBits F.PSU_EVT.addr (v &&& psuEvtMask s.psu.railExc s.psu.tempExc) := by
  simp only [State.writeW1c, accMask_psuEvt.1, if_true, Nat.and_assoc]
  rfl

/-- A bit of PSU_EVT after a write. -/
theorem get_writeW1c_psuEvt (s : State) (v : Nat) {f : Field} {i : Nat} (hf : f = ⟨F.PSU_EVT.addr, i, 1⟩) (hi : i < 16) :
    (s.writeW1c F.PSU_EVT.addr v).get f =
      if v / 2 ^ i % 2 = 1 ∧ (psuEvtMask s.psu.railExc s.psu.tempExc).testBit i = true then 0 else s.get f := by
  subst hf
  have hbit : (v / 2 ^ i % 2 = 1 ∧ (psuEvtMask s.psu.railExc s.psu.tempExc).testBit i = true) ↔
      (v &&& psuEvtMask s.psu.railExc s.psu.tempExc).testBit i = true := by
    rw [Nat.testBit_and, Bool.and_eq_true, Nat.testBit_eq_decide_div_mod_eq (x := v), decide_eq_true_iff]
  rw [writeW1c_psuEvt]
  simp only [hbit]
  by_cases h0 : v &&& psuEvtMask s.psu.railExc s.psu.tempExc = 0
  · simp [h0]
  · rw [if_neg h0, get_clearBits_bit _ _ _ _ hi]

theorem get_writeW1c_psuEvt_disj (s : State) (v : Nat) (g : Field) (h : F.PSU_EVT.disj g = true) :
    (s.writeW1c F.PSU_EVT.addr v).get g = s.get g := by
  rw [writeW1c_psuEvt]
  split
  · rfl
  · exact get_clearBits_disj s _ _ g h

theorem actWrite_psuEvt (s : State) (req : Nat) (w : Word) : s.actWrite req F.PSU_EVT.addr w = none := by
  simp [State.actWrite, F.PSU_EVT, F.SEQ_SAFECLR, F.DPLL_MODE, F.DPLL_SWCMD, F.DPLL_SELMAN, F.FCOL_DOMCLR, F.FCOL_CRIT, F.INTC_HOST_COMPLETE,
    F.INTC_MGMT_COMPLETE, F.LANE_MODE, F.HIF_ACCESS, F.HIF_DMA_CTRL]

theorem regAt_psuEvt : regAt F.PSU_EVT.addr = some (regsPSU[2], 0) := by decide

theorem busWrite_psuEvt (s : State) (req : Nat) {w : Word} (hw : w.toNat < 32) :
    s.busWrite req F.PSU_EVT.addr w = s.writeW1c F.PSU_EVT.addr w.toNat := by
  have hres : w.toNat &&& accMask .res F.PSU_EVT.addr = 0 := by
    have hlow : ∀ n < 32, n &&& 0xFFE0 = 0 := by decide
    rw [accMask_psuEvt.2, hlow _ hw]
  have haddr : wordAddr F.PSU_EVT.addr = F.PSU_EVT.addr := by decide
  have hblock : s.noBlock F.PSU_EVT.addr = false := by
    have hpowered : unpowered.contains (blockOf F.PSU_EVT.addr) = false := by decide
    rw [State.noBlock, hpowered, Bool.and_false]
    decide
  simp only [State.busWrite, haddr, hblock, regAt_psuEvt]
  exact regWrite_eq_writeW1c hres (actWrite_psuEvt s req w) (by decide)

/-- R53: a written 1 clears RAILFLT or OVERTEMP unless its excursion lasts, and a write changes no other register. -/
theorem answers_registerWrite_psuEvt {s : State} {req : Nat} {w : Word} (hup : s.pathUp req = true) (hmay : s.mayWrite req = true)
    (hw : w.toNat < 32) : Answers (.registerWrite req F.PSU_EVT.addr w .whole) s fun t =>
      t.get F.PSU_EVT_RAILFLT = (if w.toNat / 8 % 2 = 1 ∧ s.psu.railExc = false then 0 else s.get F.PSU_EVT_RAILFLT) ∧
      t.get F.PSU_EVT_OVERTEMP = (if w.toNat / 16 % 2 = 1 ∧ s.psu.tempExc = false then 0 else s.get F.PSU_EVT_OVERTEMP) ∧
      OnlyRegs [F.PSU_EVT] s t := by
  refine ⟨_, exec_registerWrite_whole hup hmay _ w, ?_⟩
  simp only [busWrite_psuEvt s req hw, OnlyRegs, State.settle_get]
  refine ⟨?_, ?_, fun g _ hg => get_writeW1c_psuEvt_disj s _ g (hg _ List.mem_cons_self)⟩
  · simpa [(testBit_psuEvtMask _ _).1] using get_writeW1c_psuEvt s w.toNat (f := F.PSU_EVT_RAILFLT) rfl (by decide)
  · simpa [(testBit_psuEvtMask _ _).2] using get_writeW1c_psuEvt s w.toNat (f := F.PSU_EVT_OVERTEMP) rfl (by decide)

/-- Settles O2: the event of either kind, the end of its excursion, and the write that cannot clear its bit while it lasts; that a further rail or stage is
no event then is the model's choice (log entry 28). -/
theorem railExcursions : Obligations.RailExcursions := by
  intro s req w
  exact ⟨fun hp hx => answers_excursion (exec_railFault hp hx) (.inl rfl),
    fun hp hx => answers_excursion (exec_powerStageOvertemp hp hx) (.inr rfl),
    fun hx => ⟨s, exec_railFault_lasting hx, rfl⟩,
    fun hx => ⟨s, exec_powerStageOvertemp_lasting hx, rfl⟩,
    answers_railExcursionEnd false s,
    answers_railExcursionEnd true s,
    fun hup hmay hw => answers_registerWrite_psuEvt hup hmay hw⟩

end Sys2Proof.Machine
end

section
/-! What a commit writes (R330, R331): CTAB takes the oldest commit, and its write set lies in its entry and that entry's histograms as long as a grant
names one of the entry's three records. -/
namespace Sys2Proof.Machine

section WriteSets
/-! ### Writes of an entry -/

/-- A byte neither of entry `n` nor of its histograms. -/
def OffEntry (n a : Nat) : Prop :=
  (a < entAddr n ∨ entAddr n + 0x400 ≤ a) ∧ (a < histAddr n ∨ histAddr n + 0x200 ≤ a)

variable {n a : Nat}

theorem byte_ePut_apart (s : State) {off len : Nat} (v : Nat) (h : a < entAddr n + off ∨ entAddr n + off + len ≤ a) :
    (s.ePut n off len v).byte a = s.byte a :=
  byte_memPut_apart s _ _ _ _ h

theorem byte_ePut_off (s : State) {off len : Nat} (v : Nat) (hoff : OffEntry n a) (hin : off + len ≤ 0x400) :
    (s.ePut n off len v).byte a = s.byte a :=
  byte_ePut_apart s v (by obtain ⟨hent, -⟩ := hoff; omega)

theorem byte_foldl {α : Type} (f : State → α → State) (l : List α) (h : ∀ s, ∀ x ∈ l, (f s x).byte a = s.byte a) (s : State) :
    (l.foldl f s).byte a = s.byte a := by
  induction l generalizing s with
  | nil => rfl
  | cons x r ih => rw [List.foldl_cons, ih (fun s y hy => h s y (List.mem_cons_of_mem _ hy)), h s x List.mem_cons_self]

/-- Clearing void grants reaches bytes 0x070 to 0x09F alone (R323). -/
theorem byte_clearVoid_apart (s : State) (h : a < entAddr n + 0x70 ∨ entAddr n + 0xA0 ≤ a) : (s.clearVoid n).byte a = s.byte a := by
  refine byte_foldl _ _ (fun s i hi => ?_) s
  have hi3 : i < 3 := List.mem_range.mp hi
  dsimp only
  split
  · exact byte_ePut_apart s 0 (by omega)
  · rfl

/-- Sealing an entry reaches bytes 0x070 to 0x0FF alone (R323). -/
theorem byte_seal_apart (s : State) (h : a < entAddr n + 0x70 ∨ entAddr n + 0x100 ≤ a) : (s.seal n).byte a = s.byte a := by
  rw [State.seal, byte_ePut_apart _ _ (by omega), byte_clearVoid_apart s (by omega)]

theorem byte_seal_off (s : State) (hoff : OffEntry n a) : (s.seal n).byte a = s.byte a :=
  byte_seal_apart s (by obtain ⟨hent, -⟩ := hoff; omega)

@[simp] theorem byte_inc (s : State) (f : Field) : (s.inc f).byte a = s.byte a := by simp [State.byte]

/-! ### The histograms (R333) -/

theorem log2Bin_le (v : Nat) : log2Bin v ≤ 31 := by unfold log2Bin; split <;> omega

theorem h1Bin_le (s : State) (rx xmt : Nat) : s.h1Bin n rx xmt ≤ 63 := by
  unfold State.h1Bin
  dsimp only
  split <;> omega

/-- H1's words lie in the histograms. -/
theorem h1Bin_fits (s : State) (rx xmt : Nat) : 0x80 + 4 * s.h1Bin n rx xmt + 4 ≤ 0x200 := by
  have hbin := h1Bin_le (n := n) s rx xmt
  omega

theorem byte_histInc_off (s : State) {off : Nat} (hoff : OffEntry n a) (hin : off + 4 ≤ 0x200) : (s.histInc n off).byte a = s.byte a :=
  byte_memPut_apart s _ _ _ _ (by obtain ⟨-, hhist⟩ := hoff; omega)

theorem byte_histCommit_off (s : State) (rx cls xmt bound prevNs : Nat) (hoff : OffEntry n a) :
    (s.histCommit n rx cls xmt bound prevNs).byte a = s.byte a := by
  have hgap := log2Bin_le ((stampNs (stamp64 rx) - prevNs) / 1000000)
  have hbound := log2Bin_le (bound / 1000)
  unfold State.histCommit
  dsimp only
  rw [byte_histInc_off _ hoff (by omega)]
  split
  · rw [byte_histInc_off _ hoff (h1Bin_fits _ rx xmt), byte_histInc_off _ hoff (by omega)]
  · exact byte_histInc_off _ hoff (by omega)

/-! ### Commits -/

/-- A grant commit names one of the three records of Table 12-4; other commits name none. -/
def Commit.recordInEntry : Commit → Prop
  | .grant _ _ ty _ _ => ty < 3
  | _ => True

/-- A byte that neither branch of a choice changes. -/
theorem byte_ite {p : Prop} [Decidable p] {s t u : State} (ht : t.byte a = s.byte a) (hu : u.byte a = s.byte a) :
    (if p then t else u).byte a = s.byte a := by
  split
  · exact ht
  · exact hu

/-- The write set of a confirmed response: counter, interleaved pair, histograms and exchange record (R331 to R333). -/
theorem byte_applyResp_off (s : State) (g rx tx kind cls : Nat) (inter again : Bool) (xmt bound prevNs : Nat) (hoff : OffEntry n a) :
    (s.applyCommit (.resp n g rx tx kind cls inter again xmt bound prevNs)).byte a = s.byte a := by
  have hring : ∀ (s : State) (v : Nat), (s.memPut (entAddr n + 0x200 + s.eGet n 0 2 / 64 % 16 * 32) 32 v).byte a = s.byte a := fun s v =>
    byte_memPut_apart s _ _ _ _ (by obtain ⟨hent, -⟩ := hoff; omega)
  have hpair : ∀ (s : State) (x y z : Nat), (((s.ePut n 0x48 16 x).ePut n 0x58 16 y).ePut n 0x68 2 z).byte a = s.byte a := fun s x y z => by
    rw [byte_ePut_off _ _ hoff (by decide), byte_ePut_off _ _ hoff (by decide), byte_ePut_off _ _ hoff (by decide)]
  have hcount : (s.eInc n 0xB4).byte a = s.byte a := byte_ePut_off s _ hoff (by decide)
  rw [State.applyCommit, byte_seal_off _ hoff]
  calc _ = _ := byte_ite ((byte_ePut_off _ _ hoff (by decide)).trans (hring _ _)) rfl
    _ = _ := byte_ite (byte_histCommit_off _ _ _ _ _ _ hoff) rfl
    _ = (s.eInc n 0xB4).byte a := byte_ite (byte_inc _ _) (hpair _ _ _ _)
    _ = s.byte a := hcount

/-- The write set of a commit lies in its entry and that entry's histograms. -/
theorem byte_applyCommit_off (s : State) (c : Commit) (hc : c.recordInEntry) (hoff : OffEntry c.entry a) : (s.applyCommit c).byte a = s.byte a := by
  cases c with simp only [Commit.entry] at hoff
  | lost n g => rw [State.applyCommit, byte_seal_off _ hoff, byte_ePut_off _ _ hoff (by decide), State.eInc, byte_ePut_off _ _ hoff (by decide)]
  | failed n g => rw [State.applyCommit, byte_seal_off _ hoff, State.eInc, byte_ePut_off _ _ hoff (by decide)]
  | party n g p => rw [State.applyCommit, byte_seal_off _ hoff, byte_ePut_off _ _ hoff (by decide)]
  | grant n g ty r p =>
    have hty : ty < 3 := hc
    rw [State.applyCommit, byte_seal_off _ hoff, byte_ePut_off _ _ hoff (by decide), byte_ePut_off _ _ hoff (by omega)]
  | resp n g rx tx kind cls inter again xmt bound prevNs => exact byte_applyResp_off s g rx tx kind cls inter again xmt bound prevNs hoff

/-- A commit of record `ty` past the entry's fields writes its record there: sealing does not reach it. -/
theorem byte_applyCommit_grant_past (s : State) (g r p : Nat) {ty : Nat} (hty : 9 ≤ ty) :
    (s.applyCommit (.grant n g ty r p)).byte (entAddr n + (0x70 + 16 * ty)) = r % 256 := by
  rw [State.applyCommit, byte_seal_apart _ (by omega), byte_ePut_apart _ _ (by omega), State.ePut, byte_memPut, if_pos (by omega), Nat.sub_self,
    Nat.pow_zero, Nat.div_one]

/-! ### CTAB_COMMIT -/

/-- The state in which CTAB has taken commit `c` and has its entry's lease, the commits `r` still to come (R328, R332). -/
def State.tookCommit (s : State) (c : Commit) (r : List Commit) : State :=
  s.setCtab { s.ctab with queue := s.ctab.queue.filter (fun l => l ≠ ⟨c.entry, .commit c⟩), commits := r }

variable {s : State} {c : Commit} {r : List Commit}

@[simp] theorem byte_tookCommit : (s.tookCommit c r).byte a = s.byte a := by simp [State.byte, State.tookCommit]

theorem eGet_tookCommit (m off len : Nat) : (s.tookCommit c r).eGet m off len = s.eGet m off len := memN_congr _ _ fun _ _ _ => byte_tookCommit

theorem exec_ctabCommit (hup : s.ctabUp = true) (hcs : s.ctab.commits = c :: r) (hmay : s.mayLease c.entry (.commit c) = true) :
    exec (.ctabCommit false) s = fin ((s.tookCommit c r).commit c) := by
  calc exec (.ctabCommit false) s = execCtabCommit false s := rfl
    _ = _ := by simp [execCtabCommit, hcs, ctabEvent, hup, State.underLease, hmay, State.tookCommit, State.setCtab]

/-- R330: the oldest commit is applied where its entry stands as it was seen. -/
theorem exec_ctabCommit_applied (hup : s.ctabUp = true) (hcs : s.ctab.commits = c :: r) (hmay : s.mayLease c.entry (.commit c) = true)
    (hvalid : s.eValid c.entry = true) (hgen : s.eGen c.entry = c.gen) :
    exec (.ctabCommit false) s = fin ((s.tookCommit c r).applyCommit c) := by
  have hvalid' : (s.tookCommit c r).eValid c.entry = true := by rw [State.eValid, State.eBit, eGet_tookCommit]; exact hvalid
  have hgen' : (s.tookCommit c r).eGen c.entry = c.gen := (eGet_tookCommit _ _ _).trans hgen
  rw [exec_ctabCommit hup hcs hmay, State.commit, hvalid', hgen']
  simp

@[simp] theorem byte_settle : s.settle.byte a = s.byte a := by simp [State.byte]

/-- R330 for the commits that PKT and the mirror make (`grantIdx` and R454 name records 0 to 2): an applied commit changes its entry and histograms alone. -/
theorem answers_ctabCommit_keeps_off (hup : s.ctabUp = true) (hcs : s.ctab.commits = c :: r) (hmay : s.mayLease c.entry (.commit c) = true)
    (hvalid : s.eValid c.entry = true) (hgen : s.eGen c.entry = c.gen) (hc : c.recordInEntry) :
    Answers (.ctabCommit false) s fun t => ∀ a, OffEntry c.entry a → t.byte a = s.byte a :=
  ⟨_, exec_ctabCommit_applied hup hcs hmay hvalid hgen, fun a hoff => by rw [byte_settle, byte_applyCommit_off _ c hc hoff, byte_tookCommit]⟩

end WriteSets

/-! ### A grant commit past the entry -/

/-- A grant commit of entry 0 whose record number is 64: byte 0x070 + 16 × 64 is 0x470, the first byte of entry 1's grant record 0. -/
def grantPast : Commit := .grant 0 0 64 1 0

/-- The table in service with that commit released to it, entry 0 VALID at the generation that the commit carries, and the rest of memory empty. -/
def grantPastUp : State :=
  (State.setB { intc := { running := true }, ctab := { commits := [grantPast] } } F.CTAB_STAT_READY true).ePut 0 0 2 1

/-- Refutes O36: the clause of the applied commit lets a grant commit carry any record number, and `applyCommit` writes record `ty` at byte 0x070 + 16 × `ty`
of the entry, so that number 64 changes entry 1.  PKT and the mirror make records 0 to 2 alone; for those `answers_ctabCommit_keeps_off` proves the
conjunct that fails here. -/
theorem not_commitsAndLeases : ¬ Obligations.CommitsAndLeases := by
  rintro ⟨hcommits, -⟩
  have hup : grantPastUp.ctabUp = true := by decide +kernel
  have hrun : grantPastUp.intc.running = true := by decide +kernel
  have hmay : grantPastUp.mayLease grantPast.entry (.commit grantPast) = true := by decide +kernel
  have hvalid : grantPastUp.eValid grantPast.entry = true := by decide +kernel
  have hgen : grantPastUp.eGen grantPast.entry = grantPast.gen := by decide +kernel
  obtain ⟨-, happlied, -⟩ := hcommits grantPastUp hup hrun
  obtain ⟨t, he, -, -, -, hkeeps, -⟩ := happlied grantPast [] rfl hmay hvalid hgen (by decide)
  rw [exec_ctabCommit_applied hup rfl hmay hvalid hgen] at he
  obtain rfl := Host.Outcome.next.inj he
  have hafter : ((grantPastUp.tookCommit grantPast []).applyCommit grantPast).byte 0x470 = 1 := byte_applyCommit_grant_past _ 0 1 0 (by decide)
  have hbefore : grantPastUp.byte 0x470 = 0 := by decide +kernel
  have hsame := hkeeps 0x470 (by decide) (by decide)
  rw [byte_settle, hafter, hbefore] at hsame
  exact absurd hsame (by decide)

end Sys2Proof.Machine
end

section
/-! The claim stacks (R403 to R411): every step keeps them nested.  The nesting depends on the priorities that stand on the two stacks alone (`State.prios`).
Few commands reach them: a read of CLAIM, a write to COMPLETE, and what resets the die.  All that the other functions of the model do to a state leaves
`State.prios` as it is: one rule for each function, in the model's order. -/
namespace Sys2Proof.Machine

/-! ### The priorities on the stacks -/

/-- The priorities on a target's stack, top first. -/
def Target.prios (t : Target) : List Nat := t.stack.map StackEnt.prio

/-- The priorities on the host's stack and on MGMT's. -/
def Intc.prios (i : Intc) : List Nat × List Nat := (i.host.prios, i.mgmt.prios)

/-- All that the nesting of the claim stacks depends on. -/
def State.prios (s : State) : List Nat × List Nat := s.intc.prios

/-- Priorities of 0 to 15 that fall strictly from the top (R403, R407). -/
def Falling (l : List Nat) : Prop := l.Pairwise (· > ·) ∧ ∀ p ∈ l, p < 16

theorem nested_iff_falling (t : Target) : t.nested ↔ Falling t.prios := by
  simp [Target.nested, Falling, Target.prios]

theorem falling_nil : Falling [] := ⟨List.Pairwise.nil, fun _ hp => absurd hp List.not_mem_nil⟩

theorem Falling.tail {p : Nat} {l : List Nat} (hl : Falling (p :: l)) : Falling l := by
  obtain ⟨hfall, hlt⟩ := hl
  exact ⟨hfall.of_cons, fun q hq => hlt q (List.mem_cons_of_mem p hq)⟩

/-- A priority above the present level goes on top. -/
theorem Falling.cons {p : Nat} {l : List Nat} (hl : Falling l) (hp : p < 16) (htop : ∀ q ∈ l.head?, q < p) : Falling (p :: l) := by
  obtain ⟨hfall, hlt⟩ := hl
  refine ⟨List.pairwise_cons.mpr ⟨fun q hq => ?_, hfall⟩, List.forall_mem_cons.mpr ⟨hp, hlt⟩⟩
  cases l with
  | nil => exact absurd hq List.not_mem_nil
  | cons r l =>
    have hr : r < p := htop r rfl
    rcases List.mem_cons.mp hq with rfl | hq
    · exact hr
    · exact Nat.lt_trans (List.rel_of_pairwise_cons hfall hq) hr

/-- Each entry is below the one above it, so a bound on the priorities bounds the number of entries. -/
theorem length_le_of_pairwise_gt {l : List Nat} (hfall : l.Pairwise (· > ·)) (n : Nat) (hlt : ∀ p ∈ l, p < n) : l.length ≤ n := by
  induction hfall generalizing n with
  | nil => exact Nat.zero_le n
  | @cons p l hp _ ih =>
    have hbelow : l.length ≤ p := ih p hp
    have htop : p < n := hlt p List.mem_cons_self
    exact Nat.lt_of_le_of_lt hbelow htop

/-- R407: at most one entry per priority, 16 in all. -/
theorem Falling.stack_length_le {t : Target} (ht : Falling t.prios) : t.stack.length ≤ 16 := by
  obtain ⟨hfall, hlt⟩ := ht
  rw [← List.length_map (f := StackEnt.prio)]
  exact length_le_of_pairwise_gt hfall 16 hlt

/-- The priorities on both stacks fall. -/
def BothFall (p : List Nat × List Nat) : Prop := Falling p.1 ∧ Falling p.2

theorem bothFall_nil : BothFall ([], []) := ⟨falling_nil, falling_nil⟩

theorem bothFall_ite {p : Prop} [Decidable p] {a b : List Nat × List Nat} (ha : BothFall a) (hb : BothFall b) : BothFall (if p then a else b) := by
  split <;> assumption

theorem bothFall_iff_nested (s : State) : BothFall s.prios ↔ s.intc.host.nested ∧ s.intc.mgmt.nested := by
  rw [nested_iff_falling, nested_iff_falling]
  rfl

/-- The priorities on the stacks of the next state. -/
def priosOf : Res → Option (List Nat × List Nat)
  | .next s => some s.prios
  | _ => none

/-! ### Priorities through updates, choices and folds

`(rfl)` keeps `simp` from taking the first two as definitional: the kernel would then compare states instead of their stacks. -/

@[simp] theorem prios_mk {regs psu aon store refs dpll hold apll tb tic ebnd gnss mts pkt auth ctab rdn mem seq mgmt hif intc fcol ledger fresh pending} :
    (State.mk regs psu aon store refs dpll hold apll tb tic ebnd gnss mts pkt auth ctab rdn mem seq mgmt hif intc fcol ledger fresh pending).prios =
      intc.prios := (rfl)

@[simp] theorem intc_prios (s : State) : s.intc.prios = s.prios := (rfl)

@[simp] theorem prios_ite {p : Prop} [Decidable p] (s t : State) : (if p then s else t).prios = if p then s.prios else t.prios :=
  apply_ite State.prios p s t

@[simp] theorem prios_elim {α : Type} (o : Option α) (s : State) (f : α → State) (hf : ∀ x, (f x).prios = s.prios) : (o.elim s f).prios = s.prios := by
  cases o with
  | none => rfl
  | some x => exact hf x

@[simp] theorem prios_foldl {α : Type} {f : State → α → State} (hf : ∀ s x, (f s x).prios = s.prios) (l : List α) (s : State) :
    (l.foldl f s).prios = s.prios := by
  induction l generalizing s with
  | nil => rfl
  | cons x l ih => rw [List.foldl_cons, ih, hf]

@[simp] theorem priosOf_next (s : State) : priosOf (.next s) = some s.prios := rfl

@[simp] theorem priosOf_ite {p : Prop} [Decidable p] (a b : Res) : priosOf (if p then a else b) = if p then priosOf a else priosOf b :=
  apply_ite priosOf p a b

section
variable (s : State) (h : WbHead) (ps : List Word)

/-! ### What leaves the priorities as they are -/

/-! #### Regs: reading and writing registers and their fields -/

@[simp] theorem prios_wr (a : Nat) (w : Word) : (s.wr a w).prios = s.prios := by simp [State.wr]

@[simp] theorem prios_wrN (a v n : Nat) : (s.wrN a v n).prios = s.prios := by
  induction n generalizing s a v with
  | zero => rfl
  | succ n ih => simp [State.wrN, State.wr, ih]

@[simp] theorem prios_set (f : Field) (v : Nat) : (s.set f v).prios = s.prios := by simp [State.set]
@[simp] theorem prios_setI (f : Field) (v : Int) : (s.setI f v).prios = s.prios := by simp [State.setI]
@[simp] theorem prios_setSat (f : Field) (v : Nat) : (s.setSat f v).prios = s.prios := by simp [State.setSat]
@[simp] theorem prios_setB (f : Field) (b : Bool) : (s.setB f b).prios = s.prios := by simp [State.setB]
@[simp] theorem prios_inc (f : Field) : (s.inc f).prios = s.prios := by simp [State.inc]
@[simp] theorem prios_bump (f : Field) : (s.bump f).prios = s.prios := by simp [State.bump]
@[simp] theorem prios_setBit (f : Field) (i : Nat) (b : Bool) : (s.setBit f i b).prios = s.prios := by simp [State.setBit]
@[simp] theorem prios_freeNat : s.freeNat.2.prios = s.prios := (rfl)

/-! #### Ops: the shared operations of every block -/

@[simp] theorem prios_raise (n : Nat) : (s.raise n).prios = s.prios := by
  unfold State.raise
  split <;> rfl

@[simp] theorem prios_raiseIf (b : Bool) (n : Nat) : (s.raiseIf b n).prios = s.prios := by simp [State.raiseIf]
@[simp] theorem prios_incRaise (f : Field) (n : Nat) : (s.incRaise f n).prios = s.prios := by simp [State.incRaise]
@[simp] theorem prios_pushMsg (m : FMsg) : (s.pushMsg m).prios = s.prios := by simp [State.pushMsg]
@[simp] theorem prios_dropMsg (b : Nat) : (s.dropMsg b).prios = s.prios := by simp [State.dropMsg]
@[simp] theorem prios_reportLoss (b : Nat) : (s.reportLoss b).prios = s.prios := by simp [State.reportLoss]
@[simp] theorem prios_reportLosses : s.reportLosses.prios = s.prios := by simp [State.reportLosses]
@[simp] theorem prios_sendMsg (m : FMsg) : (s.sendMsg m).prios = s.prios := by simp [State.sendMsg]
@[simp] theorem prios_fault (src kind : Nat) (detail : Nat) : (s.fault src kind detail).prios = s.prios := by simp [State.fault]

@[simp] theorem prios_faultM (src kind detail master acc : Nat) (addr : Option Nat) : (s.faultM src kind detail master acc addr).prios = s.prios := by
  simp [State.faultM]

@[simp] theorem prios_ledgerCount (i : Nat) : (s.ledgerCount i).prios = s.prios := by simp [State.ledgerCount]
@[simp] theorem prios_episode (d : Nat) : (s.episode d).prios = s.prios := by simp [State.episode]
@[simp] theorem prios_domainsUp : s.domainsUp.prios = s.prios := by simp [State.domainsUp]
@[simp] theorem prios_putManifest (m : Manifest) : (s.putManifest m).prios = s.prios := by simp [State.putManifest]
@[simp] theorem prios_modTaken (ring slot : Nat) (f : Taken → Taken) : (s.modTaken ring slot f).prios = s.prios := by simp [State.modTaken]
@[simp] theorem prios_dropTaken (ring slot : Nat) : (s.dropTaken ring slot).prios = s.prios := by simp [State.dropTaken]
@[simp] theorem prios_countLong : s.countLong.prios = s.prios := by simp [State.countLong]
@[simp] theorem prios_dropWaiter : (s.dropWaiter h).prios = s.prios := by simp [State.dropWaiter]

@[simp] theorem prios_finishOne (st : ManSt) (status : Status) (progress : Nat) (results : List Word) (spec : Bool) :
    (s.finishOne h st status progress results spec).prios = s.prios := by
  simp [State.finishOne]

@[simp] theorem prios_finish (st : ManSt) (status : Status) (progress : Nat) (results : List Word) (spec : Bool) :
    (s.finish h st status progress results spec).prios = s.prios := by
  simp [State.finish]

@[simp] theorem prios_done (results : List Word) : (s.done h results).prios = s.prios := by simp [State.done]
@[simp] theorem prios_failed (status : Status) : (s.failed h status).prios = s.prios := by simp [State.failed]
@[simp] theorem prios_acceptLong (w0 : Nat) (st : ManSt) : (s.acceptLong h w0 st).prios = s.prios := by simp [State.acceptLong]

@[simp] theorem prios_advance (st : ManSt) (progress : Nat) (results : List Word) : (s.advance h st progress results).prios = s.prios := by
  simp [State.advance]

/-! #### IntcOps: INTC's evaluation of its two targets -/

@[simp] theorem prios_sampleLevel (b : Bool) (t : Target) (n : Nat) : (sampleLevel b t n).prios = t.prios := by
  unfold sampleLevel
  split
  · rw [Target.prios, List.map_map]
    exact List.map_congr_left fun e _ => by dsimp only [Function.comp]; split <;> rfl
  · rfl

@[simp] theorem prios_line (t : Target) (b : Bool) : ({ t with line := b } : Target).prios = t.prios := (rfl)

@[simp] theorem prios_sampleAll (t : Target) : (s.sampleAll t).prios = t.prios := by
  simp [State.sampleAll, levelSources]

@[simp] theorem prios_settle : s.settle.prios = s.prios := by
  unfold State.settle
  split
  · simp [State.prios, Intc.prios, -intc_prios]
  · rfl

@[simp] theorem priosOf_fin : priosOf (fin s) = some s.prios := by simp [fin]

@[simp] theorem prios_lookAt (t : Target) (b : Nat) : (t.lookAt b).prios = t.prios := by
  rw [Target.lookAt, Target.prios, List.map_map]
  exact List.map_congr_left fun e _ => by dsimp only [Function.comp]; split <;> rfl

@[simp] theorem prios_lookedAt (req b : Nat) : (s.lookedAt req b).prios = s.prios := by
  unfold State.lookedAt
  split
  · exact Prod.ext (prios_lookAt _ b) rfl
  · exact Prod.ext rfl (prios_lookAt _ b)

/-! #### Gate: which commands have an effect when -/

@[simp] theorem prios_openReg (base : Nat) (r : RegRow) : (s.openReg base r).prios = s.prios := by simp [State.openReg]
@[simp] theorem prios_blockErr (blk : Nat) : (s.blockErr blk).prios = s.prios := by simp [State.blockErr]
@[simp] theorem prios_waybillErr (blk : Nat) : (s.waybillErr blk h).prios = s.prios := by simp [State.waybillErr]

@[simp] theorem priosOf_hwAfter (k : Nat) (f : State → State) :
    priosOf (hwAfter k s f) = some (if s.past k then (f s).prios else s.prios) := by
  simp [hwAfter, apply_ite some]

@[simp] theorem priosOf_directWrite (b : Nat) (f : State → State) :
    priosOf (directWrite b s f) = some (if s.busUp b then (f s).prios else s.prios) := by
  simp [directWrite, apply_ite some]

@[simp] theorem prios_checkFail (t : Taken) (e : Status) : (s.checkFail t e).prios = s.prios := by
  unfold State.checkFail
  rw [prios_failed]
  split <;> simp

@[simp] theorem prios_takeOne (t : Taken) : (s.takeOne t).prios = s.prios := by simp [State.takeOne]
@[simp] theorem prios_markStarted : (s.markStarted h).prios = s.prios := by simp [State.markStarted]
@[simp] theorem prios_putBack : (s.putBack h).prios = s.prios := by simp [State.putBack]

@[simp] theorem priosOf_startOp (w : Nat) (long : Bool) (f : State → State) (hf : ∀ t, (f t).prios = t.prios) :
    priosOf (startOp w long h s f) = some s.prios := by
  simp [startOp, hf]

@[simp] theorem priosOf_runOp (w : Nat) (long : Bool) (f : State → State) (hf : ∀ t, (f t).prios = t.prios) :
    priosOf (runOp w long h ps s f) = some s.prios := by
  unfold runOp
  split
  · rfl
  · split <;> simp [hf]

@[simp] theorem prios_genCheck (g : Field) (n : Nat) (f : State → State) :
    (genCheck g n h s f).prios = if s.get g = n then (f s).prios else s.prios := by
  simp [genCheck]

@[simp] theorem prios_putReg (a v : Nat) : (s.putReg a v).prios = s.prios := by
  unfold State.putReg
  split <;> simp

@[simp] theorem prios_putRegs (l : List (Nat × Nat)) : (s.putRegs l).prios = s.prios := by simp [State.putRegs]

@[simp] theorem prios_cfgOp (g : Field) (n : Nat) (l : List (Nat × Nat)) (post : State → State → State) (hp : ∀ t u, (post t u).prios = u.prios) :
    (cfgOp g n l post h s).prios = s.prios := by
  simp [cfgOp, hp]

@[simp] theorem prios_noPost (t u : State) : (noPost t u).prios = u.prios := (rfl)

@[simp] theorem prios_stopPoint (progress : Nat) (results : List Word) (stop : State → State) (hs : ∀ t, (stop t).prios = t.prios) :
    (s.stopPoint h progress results stop).prios = s.prios := by
  unfold State.stopPoint
  split <;> simp [hs]

@[simp] theorem prios_longStep (done total : Nat) (results : List Word) (stop : State → State) (hs : ∀ t, (stop t).prios = t.prios) :
    (s.longStep h done total results stop).prios = s.prios := by
  simp [State.longStep, hs]

@[simp] theorem prios_setHif (h : Hif) : (s.setHif h).prios = s.prios := by simp [State.setHif]
@[simp] theorem prios_loadLatch (v : State) (req a n : Nat) : (s.loadLatch v req a n).prios = s.prios := by simp [State.loadLatch]
@[simp] theorem prios_loadTime (req : Nat) : (s.loadTime req).prios = s.prios := by simp [State.loadTime]

@[simp] theorem prios_mgmtWord (a : Nat) : (s.mgmtWord a).1.prios = s.prios := by
  unfold State.mgmtWord
  extract_lets t
  have ht : t.prios = s.prios := prios_lookedAt ..
  split
  · exact ht
  · simp [ht]
  · exact ht

@[simp] theorem prios_mgmtRead (a n : Nat) : (s.mgmtRead a n).1.prios = s.prios := by
  induction n generalizing s a with
  | zero => rfl
  | succ n ih => simp [State.mgmtRead, ih]

@[simp] theorem prios_mgmtReads (l : List (Nat × Nat)) : (s.mgmtReads l).1.prios = s.prios := by
  induction l generalizing s with
  | nil => rfl
  | cons p l ih => simp [State.mgmtReads, ih]

@[simp] theorem prios_doneRd (l : List (Nat × Nat)) (pre : List Word) : (s.doneRd h l pre).prios = s.prios := by simp [State.doneRd]

@[simp] theorem prios_report (l : List (Field × Bool)) : (s.report l).2.prios = s.prios := by
  induction l generalizing s with
  | nil => rfl
  | cons p l ih => simp [State.report, ih]

@[simp] theorem prios_reportRange (l : Nat → List (Field × Bool)) (a n : Nat) : (s.reportRange l a n).2.prios = s.prios :=
  prios_report _ _

/-! #### TbaseOps: the shared operations of TBASE -/

@[simp] theorem prios_setTb (t : Tbase) : (s.setTb t).prios = s.prios := by simp [State.setTb]
@[simp] theorem prios_leapCheck : s.leapCheck.prios = s.prios := by simp [State.leapCheck]
@[simp] theorem prios_tick : s.tick.prios = s.prios := by simp [State.tick]
@[simp] theorem prios_setIslands (l : List Island) : (s.setIslands l).prios = s.prios := by simp [State.setIslands]
@[simp] theorem prios_announce (d : Int) (ts : Nat) : (s.announce d ts).prios = s.prios := by simp [State.announce]
@[simp] theorem prios_announceMade : s.announceMade.prios = s.prios := by simp [State.announceMade]
@[simp] theorem prios_announceOff : s.announceOff.prios = s.prios := by simp [State.announceOff]
@[simp] theorem prios_setEvt (n : Nat) (e : Evt) : (s.setEvt n e).prios = s.prios := by simp [State.setEvt]
@[simp] theorem prios_addSat (f : Field) (n : Nat) : (s.addSat f n).prios = s.prios := by simp [State.addSat]
@[simp] theorem prios_evtDone (n : Nat) (e : EvtEntry) : (s.evtDone n e).prios = s.prios := by simp [State.evtDone]

@[simp] theorem prios_evtArm (n : Nat) : (s.evtArm n).prios = s.prios := by
  simp only [State.evtArm]
  split
  · simp
  · rfl

@[simp] theorem prios_evtEdge (n : Nat) : (s.evtEdge n).prios = s.prios := by
  simp only [State.evtEdge]
  split
  · simp
  · rfl

@[simp] theorem prios_evtStep (d : Int) (n : Nat) : (s.evtStep d n).prios = s.prios := by
  simp only [State.evtStep]
  split
  · simp
  · split <;> simp

@[simp] theorem prios_ppsEdge : s.ppsEdge.prios = s.prios := by simp [State.ppsEdge]
@[simp] theorem prios_setCap (n : Nat) (c : Cap) : (s.setCap n c).prios = s.prios := by simp [State.setCap]

@[simp] theorem prios_loadEdge (n : Nat) (rise : Bool) (t : Nat) : (s.loadEdge n rise t).prios = s.prios := by
  unfold State.loadEdge
  split <;> simp

@[simp] theorem prios_capEdge (n : Nat) (rise : Bool) (t : Nat) : (s.capEdge n rise t).prios = s.prios := by simp [State.capEdge]

@[simp] theorem prios_capPop (n : Nat) : (s.capPop n).1.prios = s.prios := by
  unfold State.capPop
  dsimp only
  split <;> simp

@[simp] theorem prios_requestLoad (l : Load) : (s.requestLoad l).prios = s.prios := by
  unfold State.requestLoad
  split <;> simp

@[simp] theorem prios_startComplete : s.startComplete.prios = s.prios := by simp [State.startComplete]
@[simp] theorem prios_realign (n : Nat) : (s.realign n).prios = s.prios := by simp [State.realign]
@[simp] theorem prios_realignAll : s.realignAll.prios = s.prios := by simp [State.realignAll]
@[simp] theorem prios_clkCheck (n : Nat) (ps : Int) : (s.clkCheck n ps).prios = s.prios := by simp [State.clkCheck]

/-! #### RmonOps: the shared operations of RMON and of the selector -/

@[simp] theorem prios_setRef (n : Nat) (r : Ref) : (s.setRef n r).prios = s.prios := by simp [State.setRef]
@[simp] theorem prios_modRef (n : Nat) (f : Ref → Ref) : (s.modRef n f).prios = s.prios := by simp [State.modRef]
@[simp] theorem prios_weightZero (n : Nat) : (s.weightZero n).prios = s.prios := by simp [State.weightZero]
@[simp] theorem prios_refTo (n st : Nat) (loss : Bool) : (s.refTo n st loss).prios = s.prios := by simp [State.refTo]
@[simp] theorem prios_refMeas (n : Nat) (ps : Int) : (s.refMeas n ps).prios = s.prios := by simp [State.refMeas]
@[simp] theorem prios_setAct (n : Nat) (b : Bool) : (s.setAct n b).prios = s.prios := by simp [State.setAct]
@[simp] theorem prios_refOffset (n : Nat) (ps : Int) : (s.refOffset n ps).prios = s.prios := by simp [State.refOffset]
@[simp] theorem prios_actLost (n : Nat) : (s.actLost n).prios = s.prios := by simp [State.actLost]
@[simp] theorem prios_refEdge (n t : Nat) : (s.refEdge n t).prios = s.prios := by simp [State.refEdge]
@[simp] theorem prios_qualify (n : Nat) : (s.qualify n).prios = s.prios := by simp [State.qualify]
@[simp] theorem prios_refMean (n : Nat) : (s.refMean n).prios = s.prios := by simp [State.refMean]

@[simp] theorem prios_refOff (n : Nat) : (s.refOff n).prios = s.prios := by
  unfold State.refOff
  split <;> simp

@[simp] theorem prios_refJudge (n : Nat) : (s.refJudge n).prios = s.prios := by simp [State.refJudge]
@[simp] theorem prios_driftKeep (n : Nat) : (s.driftKeep n).prios = s.prios := by simp [State.driftKeep]
@[simp] theorem prios_refUpdate (n : Nat) : (s.refUpdate n).prios = s.prios := by simp [State.refUpdate]
@[simp] theorem prios_rmonUpdate : s.rmonUpdate.prios = s.prios := by simp [State.rmonUpdate]

@[simp] theorem prios_refSecond (n : Nat) : (s.refSecond n).prios = s.prios := by
  simp only [State.refSecond]
  split
  · simp
  · split <;> simp

@[simp] theorem prios_rmonSecond : s.rmonSecond.prios = s.prios := by simp [State.rmonSecond]
@[simp] theorem prios_setPvalid (b : Bool) : (s.setPvalid b).prios = s.prios := by simp [State.setPvalid]
@[simp] theorem prios_pvalidLost : s.pvalidLost.prios = s.prios := by simp [State.pvalidLost]
@[simp] theorem prios_refPost (n : Nat) (old : State) : (refPost n old s).prios = s.prios := by simp [refPost]
@[simp] theorem prios_setActive (n : Nat) : (s.setActive n).prios = s.prios := by simp [State.setActive]
@[simp] theorem prios_take (r reason : Nat) : (s.take r reason).prios = s.prios := by simp [State.take]
@[simp] theorem prios_clearConflict : s.clearConflict.prios = s.prios := by simp [State.clearConflict]
@[simp] theorem prios_selHoldover (reason : Nat) : (s.selHoldover reason).prios = s.prios := by simp [State.selHoldover]
@[simp] theorem prios_conflict (l : List Nat) (k : Nat) : (s.conflict l k).prios = s.prios := by simp [State.conflict]

@[simp] theorem prios_decide96 (a : Nat) : (s.decide96 a).prios = s.prios := by
  simp only [State.decide96]
  split
  · simp
  split
  · simp
  split
  · simp
  split
  · split
    · rfl
    · simp
  · simp

@[simp] theorem prios_select : s.select.prios = s.prios := by simp [State.select]

@[simp] theorem prios_voteEnd : s.voteEnd.prios = s.prios := by
  simp only [State.voteEnd]
  split
  · split
    · split
      · simp
      · rfl
    · simp
  · rfl

@[simp] theorem prios_voteTick : s.voteTick.prios = s.prios := by simp [State.voteTick]
@[simp] theorem prios_newChoice : s.newChoice.prios = s.prios := by simp [State.newChoice]

/-! #### HoldOps: the shared operations of HOLD -/

@[simp] theorem prios_setHold (h : Hold) : (s.setHold h).prios = s.prios := by simp [State.setHold]
@[simp] theorem prios_shiftScales (d : Int) : (s.shiftScales d).prios = s.prios := by simp [State.shiftScales]
@[simp] theorem prios_modelPriors : s.modelPriors.prios = s.prios := by simp [State.modelPriors]
@[simp] theorem prios_bholdNow : s.bholdNow.prios = s.prios := by simp [State.bholdNow]
@[simp] theorem prios_holdEnter (b0 : Nat) : (s.holdEnter b0).prios = s.prios := by simp [State.holdEnter]
@[simp] theorem prios_holdExit (ps : Nat) : (s.holdExit ps).prios = s.prios := by simp [State.holdExit]
@[simp] theorem prios_contract : s.contract.prios = s.prios := by simp [State.contract]
@[simp] theorem prios_slewEnd : s.slewEnd.prios = s.prios := by simp [State.slewEnd]
@[simp] theorem prios_holdTick : s.holdTick.prios = s.prios := by simp [State.holdTick]
@[simp] theorem prios_hoscEval : s.hoscEval.prios = s.prios := by simp [State.hoscEval]

@[simp] theorem prios_showSlot (i : Nat) : (s.showSlot i).prios = s.prios := by
  simp only [State.showSlot]
  split
  · simp
  · split <;> simp

@[simp] theorem prios_noiseSlot (xs : List (Nat × Int)) (i : Nat) : (s.noiseSlot xs i).prios = s.prios := by
  simp only [State.noiseSlot]
  split
  · rfl
  · split <;> simp

@[simp] theorem prios_trainSecond : s.trainSecond.prios = s.prios := by simp [State.trainSecond]
@[simp] theorem prios_hourSecond : s.hourSecond.prios = s.prios := by simp [State.hourSecond]
@[simp] theorem prios_learnSecond (n : Nat) : (s.learnSecond n).prios = s.prios := by simp [State.learnSecond]
@[simp] theorem prios_holdSecond (aosc xtal : Option Int) : (s.holdSecond aosc xtal).prios = s.prios := by simp [State.holdSecond]

@[simp] theorem prios_steerSend : s.steerSend.prios = s.prios := by
  unfold State.steerSend
  split <;> simp

@[simp] theorem prios_steer : s.steer.prios = s.prios := by
  simp only [State.steer]
  split
  · rfl
  split
  · rfl
  · simp

/-! #### TicOps: the shared operations of TIC -/

@[simp] theorem prios_setTic (t : Tic) : (s.setTic t).prios = s.prios := by simp [State.setTic]
@[simp] theorem prios_setTicCh (n : Nat) (c : TicCh) : (s.setTicCh n c).prios = s.prios := by simp [State.setTicCh]
@[simp] theorem prios_setMeas (u : Nat) (m : Meas) : (s.setMeas u m).prios = s.prios := by simp [State.setMeas]
@[simp] theorem prios_orphan (u : Nat) : (s.orphan u).prios = s.prios := by simp [State.orphan]
@[simp] theorem prios_measClear (u : Nat) : (s.measClear u).prios = s.prios := by simp [State.measClear]
@[simp] theorem prios_ticClear : s.ticClear.prios = s.prios := by simp [State.ticClear]

@[simp] theorem prios_statEnd (u : Nat) (st : ManSt) (status : Status) : (s.statEnd u st status).prios = s.prios := by
  unfold State.statEnd
  split <;> simp

@[simp] theorem prios_publish (u : Nat) (x : Int) : (s.publish u x).prios = s.prios := by
  simp only [State.publish]
  split <;> simp

@[simp] theorem prios_measEdge (ch t : Nat) (u : Nat) : (s.measEdge ch t u).prios = s.prios := by
  simp only [State.measEdge]
  split
  · split
    · rfl
    · split <;> simp
  · simp

@[simp] theorem prios_decideStop (u : Nat) : (s.decideStop u).prios = s.prios := by
  simp only [State.decideStop]
  split <;> simp

@[simp] theorem prios_gateEdge (u t : Nat) : (s.gateEdge u t).prios = s.prios := by
  simp only [State.gateEdge]
  split
  · rfl
  · split <;> simp

@[simp] theorem prios_freqEdge (ch t : Nat) (u : Nat) : (s.freqEdge ch t u).prios = s.prios := by simp [State.freqEdge]
@[simp] theorem prios_ticDrop (ch : Nat) : (s.ticDrop ch).prios = s.prios := by simp [State.ticDrop]
@[simp] theorem prios_ticStore (ch : Nat) (rise : Bool) (t : Nat) : (s.ticStore ch rise t).prios = s.prios := by simp [State.ticStore]
@[simp] theorem prios_ticStamp (ch : Nat) (rise : Bool) (t : Nat) : (s.ticStamp ch rise t).prios = s.prios := by simp [State.ticStamp]
@[simp] theorem prios_ticEdge (ch : Nat) (rise : Bool) (tick c : Nat) : (s.ticEdge ch rise tick c).prios = s.prios := by simp [State.ticEdge]
@[simp] theorem prios_stampsMoved (d : Int) : (s.stampsMoved d).prios = s.prios := by simp [State.stampsMoved]

@[simp] theorem prios_ticPop (n : Nat) : (s.ticPop n).1.prios = s.prios := by
  unfold State.ticPop
  dsimp only
  split <;> simp

@[simp] theorem prios_calStart : s.calStart.prios = s.prios := by simp [State.calStart]
@[simp] theorem prios_calShow : s.calShow.prios = s.prios := by simp [State.calShow]
@[simp] theorem prios_calTick : s.calTick.prios = s.prios := by simp [State.calTick]
@[simp] theorem prios_calAnswer (passed : Nat) (first : Nat) : (s.calAnswer passed first).prios = s.prios := by simp [State.calAnswer]

/-! #### DpllOps: the shared operations of the DPLL and of the synthesis PLLs -/

@[simp] theorem prios_setDpll (d : Dpll) : (s.setDpll d).prios = s.prios := by simp [State.setDpll]
@[simp] theorem prios_setMode (m : Nat) : (s.setMode m).prios = s.prios := by simp [State.setMode]
@[simp] theorem prios_setHeld (ps : Int) : (s.setHeld ps).prios = s.prios := by simp [State.setHeld]

@[simp] theorem prios_clampFreq (out : Int) (c : Bool) : (s.clampFreq out c).1.prios = s.prios := by
  simp [State.clampFreq]

@[simp] theorem prios_phaseTake (d : Int) : (s.phaseTake d).prios = s.prios := by simp [State.phaseTake]
@[simp] theorem prios_takeNow : s.takeNow.prios = s.prios := by simp [State.takeNow]
@[simp] theorem prios_openLoop : s.openLoop.prios = s.prios := by simp [State.openLoop]
@[simp] theorem prios_closeLoop (bump : Nat) : (s.closeLoop bump).prios = s.prios := by simp [State.closeLoop]

@[simp] theorem prios_dpllReq (p : State × List WbHead) (r : DpllReq) : (State.dpllReq p r).1.prios = p.1.prios := by
  obtain ⟨s, l⟩ := p
  cases r with
  | openLoop wb g => cases wb <;> simp [State.dpllReq, apply_ite Prod.fst]
  | closeLoop b wb g => cases wb <;> simp [State.dpllReq, apply_ite Prod.fst]
  | applyWord _ => rfl

@[simp] theorem prios_dpllReqs : s.dpllReqs.1.prios = s.prios := by
  have hfold : ∀ (l : List DpllReq) (p : State × List WbHead), (l.foldl State.dpllReq p).1.prios = p.1.prios := fun l => by
    induction l with
    | nil => exact fun _ => rfl
    | cons r l ih => exact fun p => (ih _).trans (prios_dpllReq p r)
  exact (hfold _ _).trans (by simp)

@[simp] theorem prios_dpllModes : s.dpllModes.prios = s.prios := by simp [State.dpllModes]
@[simp] theorem prios_dpllPhase : s.dpllPhase.prios = s.prios := by simp [State.dpllPhase]
@[simp] theorem prios_putFreq (v : Int) : (s.putFreq v).prios = s.prios := by simp [State.putFreq]
@[simp] theorem prios_slewStep : s.slewStep.prios = s.prios := by simp [State.slewStep]
@[simp] theorem prios_dpllLoop : s.dpllLoop.prios = s.prios := by simp [State.dpllLoop]
@[simp] theorem prios_dpllOpenWord : s.dpllOpenWord.prios = s.prios := by simp [State.dpllOpenWord]

@[simp] theorem prios_dpllFreq : s.dpllFreq.prios = s.prios := by
  simp only [State.dpllFreq, State.clampFreq]
  split <;> simp

@[simp] theorem prios_swDrop : s.swDrop.prios = s.prios := by simp [State.swDrop]
@[simp] theorem prios_dpllWrite : s.dpllWrite.prios = s.prios := by simp [State.dpllWrite]
@[simp] theorem prios_dpllTick : s.dpllTick.prios = s.prios := by simp [State.dpllTick]
@[simp] theorem prios_phLock : s.phLock.prios = s.prios := by simp [State.phLock]
@[simp] theorem prios_moveFreq (a : Int) : (s.moveFreq a).prios = s.prios := by simp [State.moveFreq]
@[simp] theorem prios_oscChanged (a lost : Nat) : (s.oscChanged a lost).prios = s.prios := by simp [State.oscChanged]
@[simp] theorem prios_laneRef (byp : Bool) : (s.laneRef byp).prios = s.prios := by simp [State.laneRef]
@[simp] theorem prios_toBypass (p lost : Nat) : (s.toBypass p lost).prios = s.prios := by simp [State.toBypass]
@[simp] theorem prios_fromBypass (p lost : Nat) : (s.fromBypass p lost).prios = s.prios := by simp [State.fromBypass]
@[simp] theorem prios_setRuns (p n : Nat) : (s.setRuns p n).prios = s.prios := by simp [State.setRuns]
@[simp] theorem prios_setLocked (p : Nat) (b : Bool) : (s.setLocked p b).prios = s.prios := by simp [State.setLocked]
@[simp] theorem prios_squelch : s.squelch.prios = s.prios := by simp [State.squelch]
@[simp] theorem prios_pllOff (p lost : Nat) : (s.pllOff p lost).prios = s.prios := by simp [State.pllOff]
@[simp] theorem prios_pllLoss (p lost : Nat) : (s.pllLoss p lost).prios = s.prios := by simp [State.pllLoss]
@[simp] theorem prios_pllLock (p : Nat) : (s.pllLock p).prios = s.prios := by simp [State.pllLock]
@[simp] theorem prios_lockWindow (p count lost : Nat) : (s.lockWindow p count lost).prios = s.prios := by simp [State.lockWindow]
@[simp] theorem prios_setPllRef (p r : Nat) : (s.setPllRef p r).prios = s.prios := by simp [State.setPllRef]
@[simp] theorem prios_changeRef (p r : Nat) : (s.changeRef p r).prios = s.prios := by simp [State.changeRef]
@[simp] theorem prios_setAosc (b : Bool) : (s.setAosc b).prios = s.prios := by simp [State.setAosc]
@[simp] theorem prios_pllRefLoss (p lost : Nat) : (s.pllRefLoss p lost).prios = s.prios := by simp [State.pllRefLoss]
@[simp] theorem prios_relock (p : Nat) : (s.relock p).prios = s.prios := by simp [State.relock]
@[simp] theorem prios_aoscReturn : s.aoscReturn.prios = s.prios := by simp [State.aoscReturn]
@[simp] theorem prios_pfdChoose : s.pfdChoose.prios = s.prios := by simp [State.pfdChoose]
@[simp] theorem prios_pllRestart (p : Nat) : (s.pllRestart p).prios = s.prios := by simp [State.pllRestart]

/-! #### Apll: the commands of APLL -/

@[simp] theorem priosOf_execApllLockWindow (p count lost : Nat) : priosOf (execApllLockWindow p count lost s) = some s.prios := by
  simp [execApllLockWindow]

@[simp] theorem priosOf_execApllRefLoss (p lost : Nat) : priosOf (execApllRefLoss p lost s) = some s.prios := by simp [execApllRefLoss]
@[simp] theorem priosOf_execApllReturnExpiry (p lost : Nat) : priosOf (execApllReturnExpiry p lost s) = some s.prios := by simp [execApllReturnExpiry]
@[simp] theorem priosOf_execApllOutSquelchClear : priosOf (execApllOutSquelchClear s) = some s.prios := by simp [execApllOutSquelchClear]
@[simp] theorem priosOf_execAoscReturn : priosOf (execAoscReturn s) = some s.prios := by simp [execAoscReturn]
@[simp] theorem priosOf_execCrystalStop : priosOf (execCrystalStop s) = some s.prios := by simp [execCrystalStop]
@[simp] theorem priosOf_execApllCfg : priosOf (execApllCfg h ps s) = some s.prios := by simp [execApllCfg]
@[simp] theorem priosOf_execApllRelock : priosOf (execApllRelock h ps s) = some s.prios := by simp [execApllRelock]
@[simp] theorem priosOf_execApllSpurscan : priosOf (execApllSpurscan h ps s) = some s.prios := by simp [execApllSpurscan]
@[simp] theorem priosOf_execApllReport : priosOf (execApllReport h ps s) = some s.prios := by simp [execApllReport]

/-! #### MtsOps: the shared operations of MTS -/

@[simp] theorem prios_setMts (m : Mts) : (s.setMts m).prios = s.prios := by simp [State.setMts]

@[simp] theorem prios_txMeasure (n pos : Nat) : (s.txMeasure n pos).1.prios = s.prios := by
  unfold State.txMeasure
  split <;> simp

@[simp] theorem prios_rxMeasure (n : Nat) (m : MeterPoint) : (s.rxMeasure n m).1.prios = s.prios := by
  unfold State.rxMeasure
  split <;> simp

@[simp] theorem prios_predCheck (n pred meas : Nat) : (s.predCheck n pred meas).prios = s.prios := by simp [State.predCheck]
@[simp] theorem prios_showTerms : s.showTerms.prios = s.prios := by simp [State.showTerms]
@[simp] theorem prios_setMeter (n : Nat) (rx : Bool) (m : Meter) (resid : Nat) : (s.setMeter n rx m resid).prios = s.prios := by simp [State.setMeter]
@[simp] theorem prios_meterTick (rx : Bool) (n : Nat) : (s.meterTick rx n).prios = s.prios := by simp [State.meterTick]
@[simp] theorem prios_rebase (d : Int) : (s.rebase d).prios = s.prios := by simp [State.rebase]
@[simp] theorem prios_badHeaders (n k : Nat) : (s.badHeaders n k).prios = s.prios := by simp [State.badHeaders]
@[simp] theorem prios_headerTick (n : Nat) : (s.headerTick n).prios = s.prios := by simp [State.headerTick]
@[simp] theorem prios_mtsTick : s.mtsTick.prios = s.prios := by simp [State.mtsTick]
@[simp] theorem prios_setPlan (n pos : Nat) (p : RatePlan) : (s.setPlan n pos p).prios = s.prios := by simp [State.setPlan]
@[simp] theorem prios_rebuild (n pos fill : Nat) (marker : Option Nat) : (s.rebuild n pos fill marker).prios = s.prios := by simp [State.rebuild]
@[simp] theorem prios_setMarker (n pos : Nat) (marker : Option Nat) : (s.setMarker n pos marker).prios = s.prios := by simp [State.setMarker]

/-! #### MemOps: the in-package memory -/

@[simp] theorem prios_memPut (a n v : Nat) : (s.memPut a n v).prios = s.prios := by simp [State.memPut]
@[simp] theorem prios_ePut (n off len v : Nat) : (s.ePut n off len v).prios = s.prios := by simp [State.ePut]
@[simp] theorem prios_eSetBit (n i : Nat) (b : Bool) : (s.eSetBit n i b).prios = s.prios := by simp [State.eSetBit]
@[simp] theorem prios_eInc (n off : Nat) : (s.eInc n off).prios = s.prios := by simp [State.eInc]
@[simp] theorem prios_clearVoid (n : Nat) : (s.clearVoid n).prios = s.prios := by simp [State.clearVoid]
@[simp] theorem prios_seal (n : Nat) : (s.seal n).prios = s.prios := by simp [State.seal]

/-! #### CtabOps: the shared operations of CTAB -/

@[simp] theorem prios_setCtab (c : Ctab) : (s.setCtab c).prios = s.prios := by simp [State.setCtab]
@[simp] theorem prios_setPkt (p : Pkt) : (s.setPkt p).prios = s.prios := by simp [State.setPkt]
@[simp] theorem prios_setGrants (l : List UGrant) : (s.setGrants l).prios = s.prios := by simp [State.setGrants]
@[simp] theorem prios_dropGrants (n : Nat) : (s.dropGrants n).prios = s.prios := by simp [State.dropGrants]
@[simp] theorem prios_setWay (b i v : Nat) : (s.setWay b i v).prios = s.prios := by simp [State.setWay]

theorem prios_cuckoo {s t : State} {b v fuel : Nat} (h : s.cuckoo b v fuel = some t) : t.prios = s.prios := by
  induction fuel generalizing s b v with
  | zero => cases h
  | succ fuel ih =>
    simp only [State.cuckoo, State.freeNat] at h
    split at h
    · cases h; simp
    · exact (ih h).trans (by simp)

theorem prios_idxInsert {s t : State} {k : Key} {n : Nat} (h : s.idxInsert k n = some t) : t.prios = s.prios := by
  unfold State.idxInsert at h
  dsimp only at h
  split at h
  · cases h; simp
  · split at h
    · cases h; simp
    · exact prios_cuckoo h

@[simp] theorem prios_idxFull : s.idxFull.prios = s.prios := by simp [State.idxFull]
@[simp] theorem prios_removeIn (b n : Nat) : (s.removeIn b n).prios = s.prios := by simp [State.removeIn]
@[simp] theorem prios_removeKey (k : Key) (n : Nat) : (s.removeKey k n).prios = s.prios := by simp [State.removeKey]
@[simp] theorem prios_holdLease (n : Nat) (op : LeaseOp) : (s.holdLease n op).prios = s.prios := by simp [State.holdLease]
@[simp] theorem prios_dropLease (n : Nat) : (s.dropLease n).prios = s.prios := by simp [State.dropLease]
@[simp] theorem prios_askLease (n : Nat) (op : LeaseOp) : (s.askLease n op).prios = s.prios := by simp [State.askLease]

@[simp] theorem prios_underLease (n : Nat) (op : LeaseOp) (f : State → State) (hf : ∀ t, (f t).prios = t.prios) :
    (s.underLease n op f).prios = s.prios := by
  simp [State.underLease, hf]

@[simp] theorem prios_modReq (id : Nat) (f : Req → Req) : (s.modReq id f).prios = s.prios := by simp [State.modReq]
@[simp] theorem prios_decide' (id : Nat) (d : Decision) : (s.decide' id d).prios = s.prios := by simp [State.decide']
@[simp] theorem prios_decideEntry (r : Req) (n : Nat) : (s.decideEntry r n).prios = s.prios := by simp [State.decideEntry]

@[simp] theorem prios_lookup (r : Req) (held : Bool) : (s.lookup r held).prios = s.prios := by
  unfold State.lookup
  split <;> simp

@[simp] theorem prios_histInc (n off : Nat) : (s.histInc n off).prios = s.prios := by simp [State.histInc]

@[simp] theorem prios_histCommit (n rx cls xmt bound prevNs : Nat) : (s.histCommit n rx cls xmt bound prevNs).prios = s.prios := by
  simp [State.histCommit]

@[simp] theorem prios_applyCommit (c : Commit) : (s.applyCommit c).prios = s.prios := by
  unfold State.applyCommit
  split <;> simp

@[simp] theorem prios_commit (c : Commit) : (s.commit c).prios = s.prios := by simp [State.commit]
@[simp] theorem prios_pushCommit (c : Commit) : (s.pushCommit c).prios = s.prios := by simp [State.pushCommit]
@[simp] theorem prios_countEntry (wasV wasB isV isB : Bool) : (s.countEntry wasV wasB isV isB).prios = s.prios := by simp [State.countEntry]
@[simp] theorem prios_loadApp (a n : Nat) (app : Bool) : (s.loadApp a n app).prios = s.prios := by simp [State.loadApp]
@[simp] theorem prios_loadFields (a n : Nat) : (s.loadFields a n).prios = s.prios := by simp [State.loadFields]
@[simp] theorem prios_deleteEntry (n : Nat) : (s.deleteEntry n).prios = s.prios := by simp [State.deleteEntry]

theorem prios_writeEntry {s t : State} {a n : Nat} {app : Bool} {k : Key} (h : s.writeEntry a n app k = some t) : t.prios = s.prios := by
  unfold State.writeEntry at h
  dsimp only at h
  split at h
  · cases h
  next u hu =>
    obtain rfl := Option.some.inj h
    rw [prios_dropGrants, prios_seal, prios_countEntry, prios_idxInsert hu]
    simp

@[simp] theorem prios_loadRecord (a : Nat) : (s.loadRecord a).1.prios = s.prios := by
  unfold State.loadRecord
  dsimp only
  split
  · simp
  split
  · rfl
  split
  · split
    · rfl
    split
    · exact prios_writeEntry ‹_›
    · simp
  split
  · rfl
  split
  · rfl
  split
  · simp
  · simp

@[simp] theorem prios_bulkEnd : (s.bulkEnd h).prios = s.prios := by simp [State.bulkEnd]
@[simp] theorem prios_putBulk (b : Bulk) : (s.putBulk b).prios = s.prios := by simp [State.putBulk]

@[simp] theorem prios_loadNext : s.loadNext.prios = s.prios := by
  unfold State.loadNext
  split
  · simp
  · rfl

@[simp] theorem prios_clearEntry (n : Nat) : (s.clearEntry n).prios = s.prios := by simp [State.clearEntry]

@[simp] theorem prios_sweepNext : s.sweepNext.prios = s.prios := by
  unfold State.sweepNext
  split <;> simp

@[simp] theorem prios_dumpNext : s.dumpNext.prios = s.prios := by
  unfold State.dumpNext
  split <;> simp

@[simp] theorem prios_bulkFail (b : Bulk) (st : ManSt) (status : Status) : (s.bulkFail b st status).prios = s.prios := by
  unfold State.bulkFail
  split <;> simp

@[simp] theorem prios_bulkFenced : s.bulkFenced.prios = s.prios := by simp [State.bulkFenced]
@[simp] theorem prios_eccCorr (n : Nat) : (s.eccCorr n).prios = s.prios := by simp [State.eccCorr]
@[simp] theorem prios_setBad (n : Nat) : (s.setBad n).prios = s.prios := by simp [State.setBad]
@[simp] theorem prios_bucketLost (b : Nat) : (s.bucketLost b).prios = s.prios := by simp [State.bucketLost]
@[simp] theorem prios_stagingLost (a : Nat) : (s.stagingLost a).prios = s.prios := by simp [State.stagingLost]
@[simp] theorem prios_dmaEnd (c err : Nat) : (s.dmaEnd c err).prios = s.prios := by simp [State.dmaEnd]

@[simp] theorem prios_rebuildBucket (b : Nat) : (s.rebuildBucket b).prios = s.prios := by
  refine prios_foldl (fun s n => ?_) _ s
  dsimp only
  split
  · split
    · exact prios_idxInsert ‹_›
    · simp
  · rfl

/-! #### AuthOps: the shared operations of AUTH -/

@[simp] theorem prios_setAuth (a : Auth) : (s.setAuth a).prios = s.prios := by simp [State.setAuth]
@[simp] theorem prios_evtSet (f : Field) (src : Nat) : (s.evtSet f src).prios = s.prios := by simp [State.evtSet]

@[simp] theorem prios_curNts : s.curNts.prios = s.prios := by
  unfold State.curNts
  split <;> simp

@[simp] theorem prios_keySave (n : Nat) : (s.keySave n).prios = s.prios := by simp [State.keySave]
@[simp] theorem prios_keySet (n st : Nat) : (s.keySet n st).prios = s.prios := by simp [State.keySet]
@[simp] theorem prios_keyTo (n st : Nat) : (s.keyTo n st).prios = s.prios := by simp [State.keyTo]
@[simp] theorem prios_countUsed : s.countUsed.prios = s.prios := by simp [State.countUsed]
@[simp] theorem prios_keyErase (n : Nat) : (s.keyErase n).prios = s.prios := by simp [State.keyErase]
@[simp] theorem prios_keyPut (r : KeyRec) (persist : Bool) : (s.keyPut r persist).prios = s.prios := by simp [State.keyPut]
@[simp] theorem prios_keyRestore (r : KeyRec) : (s.keyRestore r).prios = s.prios := by simp [State.keyRestore]
@[simp] theorem prios_authRestore (bad : List Nat) : (s.authRestore bad).prios = s.prios := by simp [State.authRestore]
@[simp] theorem prios_serialNext : s.serialNext.prios = s.prios := by simp [State.serialNext]
@[simp] theorem prios_authFail (i : Nat) : (s.authFail i).prios = s.prios := by simp [State.authFail]
@[simp] theorem prios_authUses (l : List Nat) : (s.authUses l).prios = s.prios := by simp [State.authUses]

@[simp] theorem prios_cookies (master : List Nat) (id : Nat) (plain : List Nat) (k : Nat) : (s.cookies master id plain k).1.prios = s.prios := by
  induction k generalizing s with
  | zero => rfl
  | succ k ih => simp [State.cookies, State.freeNat, ih]

@[simp] theorem prios_ntpSeal (o : NtpOut) (v : Option Verdict) : (s.ntpSeal o v).1.prios = s.prios := by
  unfold State.ntpSeal
  split
  · split <;> simp [State.freeNat]
  · rfl

@[simp] theorem prios_rotShow : s.rotShow.prios = s.prios := by simp [State.rotShow]
@[simp] theorem prios_rotDrop (r : Rotation) : (s.rotDrop r).prios = s.prios := by simp [State.rotDrop]
@[simp] theorem prios_rotAbort (r : Rotation) : (s.rotAbort r).prios = s.prios := by simp [State.rotAbort]
@[simp] theorem prios_rotTick : s.rotTick.prios = s.prios := by simp [State.rotTick]
@[simp] theorem prios_rotEnd (r : Rotation) (o : Nat) : (s.rotEnd r o).prios = s.prios := by simp [State.rotEnd]
@[simp] theorem prios_setRot (r : Rotation) : (s.setRot r).prios = s.prios := by simp [State.setRot]

@[simp] theorem prios_rotRetire (r : Rotation) : (s.rotRetire r).prios = s.prios := by
  unfold State.rotRetire
  split <;> simp

@[simp] theorem prios_rotActivate (r : Rotation) : (s.rotActivate r).prios = s.prios := by simp [State.rotActivate]
@[simp] theorem prios_zeroDone (n : Nat) : (s.zeroDone n).prios = s.prios := by simp [State.zeroDone]

/-! #### Auth: the commands of AUTH -/

@[simp] theorem priosOf_authEvent (c : Bool) (f : State → State) :
    priosOf (authEvent c s f) = some (if s.past 3 && s.seq.st ≠ .safe && c then (f s).prios else s.prios) := by
  simp [authEvent, apply_ite some]

@[simp] theorem prios_mint (master : List Nat) (id : Nat) (plain : List Nat) (k : Nat) : (s.mint master id plain k).1.prios = s.prios :=
  prios_cookies _ _ _ _ _

@[simp] theorem prios_mintJob : (mintJob h ps s).prios = s.prios := by
  simp only [mintJob]
  split <;> simp

@[simp] theorem prios_mintsDue : s.mintsDue.prios = s.prios := by simp [State.mintsDue]

@[simp] theorem priosOf_execAuthVerifyJob : priosOf (execAuthVerifyJob s) = some s.prios := by
  unfold execAuthVerifyJob
  split
  · rw [priosOf_authEvent]
    dsimp only
    split
    · split <;> simp
    · rfl
  · rfl

@[simp] theorem priosOf_execAuthCancel (id : Nat) : priosOf (execAuthCancel id s) = some s.prios := by simp [execAuthCancel]
@[simp] theorem priosOf_execAuthFailSecond : priosOf (execAuthFailSecond s) = some s.prios := by simp [execAuthFailSecond]
@[simp] theorem priosOf_execDrbgReseed (ok : Bool) : priosOf (execDrbgReseed ok s) = some s.prios := by simp [execDrbgReseed]
@[simp] theorem priosOf_execKeyStateEffect : priosOf (execKeyStateEffect s) = some s.prios := by simp [execKeyStateEffect]
@[simp] theorem priosOf_execZeroiseComplete (n : Nat) : priosOf (execZeroiseComplete n s) = some s.prios := by simp [execZeroiseComplete]

@[simp] theorem priosOf_execKeystoreEccError (n : Nat) (double : Bool) : priosOf (execKeystoreEccError n double s) = some s.prios := by
  simp [execKeystoreEccError]

@[simp] theorem priosOf_execRotationActivate (n : Nat) : priosOf (execRotationActivate n s) = some s.prios := by
  unfold execRotationActivate
  split <;> simp

@[simp] theorem priosOf_execRotationRetire (n : Nat) : priosOf (execRotationRetire n s) = some s.prios := by
  unfold execRotationRetire
  split <;> simp

@[simp] theorem priosOf_execMintStageExpiry (n : Nat) : priosOf (execMintStageExpiry n s) = some s.prios := by simp [execMintStageExpiry]
@[simp] theorem priosOf_execAuthCfg : priosOf (execAuthCfg h ps s) = some s.prios := by simp [execAuthCfg]

@[simp] theorem priosOf_execAuthKeyload : priosOf (execAuthKeyload h ps s) = some s.prios := by
  refine priosOf_runOp _ _ _ _ _ _ fun s => ?_
  extract_lets n w t wrapped len
  rw [prios_genCheck]
  cases s.loadKey wrapped (param s ps 3) ((wordBytes (ps.drop 7)).take len) <;> simp

@[simp] theorem priosOf_execAuthKeystate : priosOf (execAuthKeystate h ps s) = some s.prios := by simp [execAuthKeystate]
@[simp] theorem priosOf_execAuthZeroise : priosOf (execAuthZeroise h ps s) = some s.prios := by simp [execAuthZeroise]
@[simp] theorem priosOf_execAuthRotate : priosOf (execAuthRotate h ps s) = some s.prios := by simp [execAuthRotate]

@[simp] theorem priosOf_execAuthRotstop : priosOf (execAuthRotstop h ps s) = some s.prios := by
  refine priosOf_runOp _ _ _ _ _ _ fun s => ?_
  split
  · simp
  · rw [prios_done]
    split <;> simp

@[simp] theorem priosOf_execAuthCookiemint : priosOf (execAuthCookiemint h ps s) = some s.prios := by simp [execAuthCookiemint]
@[simp] theorem priosOf_execAuthKeyreport : priosOf (execAuthKeyreport h ps s) = some s.prios := by simp [execAuthKeyreport]
@[simp] theorem priosOf_execAuthCountreport : priosOf (execAuthCountreport h ps s) = some s.prios := by simp [execAuthCountreport]
@[simp] theorem priosOf_execAuthSelftest : priosOf (execAuthSelftest h ps s) = some s.prios := by simp [execAuthSelftest]
@[simp] theorem priosOf_execAuthMintstage : priosOf (execAuthMintstage h ps s) = some s.prios := by simp [execAuthMintstage]

/-! #### Dpll: the commands of the DPLL loop -/

@[simp] theorem priosOf_execSlewComplete : priosOf (execSlewComplete s) = some s.prios := by simp [execSlewComplete]
@[simp] theorem priosOf_execPhlockTimer : priosOf (execPhlockTimer s) = some s.prios := by simp [execPhlockTimer]
@[simp] theorem priosOf_execDpllLoopcfg : priosOf (execDpllLoopcfg h ps s) = some s.prios := by simp [execDpllLoopcfg]
@[simp] theorem priosOf_execDpllOpen : priosOf (execDpllOpen h ps s) = some s.prios := by simp [execDpllOpen]
@[simp] theorem priosOf_execDpllClose : priosOf (execDpllClose h ps s) = some s.prios := by simp [execDpllClose]
@[simp] theorem priosOf_execDpllSetfreq : priosOf (execDpllSetfreq h ps s) = some s.prios := by simp [execDpllSetfreq]
@[simp] theorem priosOf_execDpllLoopreport : priosOf (execDpllLoopreport h ps s) = some s.prios := by simp [execDpllLoopreport]
@[simp] theorem priosOf_execDpllPhlog : priosOf (execDpllPhlog h ps s) = some s.prios := by simp [execDpllPhlog]
@[simp] theorem prios_swcmdWrite : s.swcmdWrite.prios = s.prios := by simp [State.swcmdWrite]
@[simp] theorem priosOf_execDpllSwcmdApply : priosOf (execDpllSwcmdApply s) = some s.prios := by simp [execDpllSwcmdApply]
@[simp] theorem prios_modeWrite (v : Nat) : (s.modeWrite v).prios = s.prios := by simp [State.modeWrite]
@[simp] theorem prios_modeReq (r : DpllReq) (o v : Nat) : (s.modeReq r o v).prios = s.prios := by simp [State.modeReq]
@[simp] theorem priosOf_execDpllModeOpenWrite (v : Nat) : priosOf (execDpllModeOpenWrite v s) = some s.prios := by simp [execDpllModeOpenWrite]
@[simp] theorem priosOf_execDpllModeCloseWrite (v : Nat) : priosOf (execDpllModeCloseWrite v s) = some s.prios := by simp [execDpllModeCloseWrite]

/-! #### GnssOps: the shared operations of GNSS -/

@[simp] theorem prios_setGnss (g : Gnss) : (s.setGnss g).prios = s.prios := by simp [State.setGnss]
@[simp] theorem prios_setGch (c : Nat) (x : GnssCh) : (s.setGch c x).prios = s.prios := by simp [State.setGch]
@[simp] theorem prios_countTrk : s.countTrk.prios = s.prios := by simp [State.countTrk]
@[simp] theorem prios_chTo (c st : Nat) : (s.chTo c st).prios = s.prios := by simp [State.chTo]
@[simp] theorem prios_chIdle (c : Nat) : (s.chIdle c).prios = s.prios := by simp [State.chIdle]
@[simp] theorem prios_chIdleAll : s.chIdleAll.prios = s.prios := by simp [State.chIdleAll]
@[simp] theorem prios_dropB : s.dropB.prios = s.prios := by simp [State.dropB]
@[simp] theorem prios_chAssign (c : Nat) (gal : Bool) (prn : Nat) : (s.chAssign c gal prn).prios = s.prios := by simp [State.chAssign]

@[simp] theorem prios_acqNext : s.acqNext.prios = s.prios := by
  simp only [State.acqNext]
  split
  · rfl
  split
  · split <;> simp
  split
  · simp
  · rfl

@[simp] theorem prios_acqEnd (st : ManSt) (status : Status) : (s.acqEnd st status).prios = s.prios := by
  simp only [State.acqEnd]
  split
  · rfl
  · split <;> simp

@[simp] theorem prios_acqStep (x : AcqCell) : (s.acqStep x).prios = s.prios := by
  unfold State.acqStep
  split
  · rfl
  split
  · rfl
  next j p r _ =>
  extract_lets found idle take t j' g u
  have ht : t.prios = s.prios := by cases htake : take <;> simp [t, htake]
  split
  · simp [u, ht]
  split <;> simp [u, ht]

@[simp] theorem prios_firmJobs (kind : Nat) : (s.firmJobs kind).prios = s.prios := by simp [State.firmJobs]
@[simp] theorem prios_notchActive (k : Nat) (b : Bool) : (s.notchActive k b).prios = s.prios := by simp [State.notchActive]
@[simp] theorem prios_gnssReset : s.gnssReset.prios = s.prios := by simp [State.gnssReset]
@[simp] theorem prios_gnssAges (eph alm : Nat) : (s.gnssAges eph alm).prios = s.prios := by simp [State.gnssAges]
@[simp] theorem prios_gnssStart : s.gnssStart.prios = s.prios := by simp [State.gnssStart]
@[simp] theorem prios_gnssStop : s.gnssStop.prios = s.prios := by simp [State.gnssStop]
@[simp] theorem prios_gnssPost (old : State) : (gnssPost old s).prios = s.prios := by simp [gnssPost]
@[simp] theorem prios_posPost (old : State) : (posPost old s).prios = s.prios := by simp [posPost]
@[simp] theorem prios_notchFree (k : Nat) : (s.notchFree k).prios = s.prios := by simp [State.notchFree]
@[simp] theorem prios_notchHold (k : Nat) (l : SpecLine) (below : Nat) : (s.notchHold k l below).prios = s.prios := by simp [State.notchHold]

@[simp] theorem prios_notchTrack (lines : List SpecLine) (k : Nat) : (s.notchTrack lines k).prios = s.prios := by
  unfold State.notchTrack
  split <;> simp

@[simp] theorem prios_notchLine (band : Nat) (l : SpecLine) : (s.notchLine band l).prios = s.prios := by
  simp only [State.notchLine]
  split
  · split
    · simp
    · split <;> simp
  · simp

@[simp] theorem prios_jamUpdate (band pre post : Nat) : (s.jamUpdate band pre post).prios = s.prios := by simp [State.jamUpdate]
@[simp] theorem prios_notchPost (k : Nat) (old : State) : (notchPost k old s).prios = s.prios := by simp [notchPost]

@[simp] theorem prios_gnssLoad (tai : Nat) : (s.gnssLoad tai).prios = s.prios := by
  simp only [State.gnssLoad]
  split
  · split
    · split <;> simp
    · rfl
  split
  · split <;> simp
  · rfl

@[simp] theorem prios_gnssPass (tai : Nat) : (s.gnssPass tai).prios = s.prios := by simp [State.gnssPass]

@[simp] theorem prios_gnssSolve (x : GnssFix) : (s.gnssSolve x).prios = s.prios := by
  simp only [State.gnssSolve]
  split <;> simp

@[simp] theorem prios_chObserve (obs : List GnssObs) (rate : Nat) (c : Nat) : (s.chObserve obs rate c).prios = s.prios := by
  unfold State.chObserve
  split <;> simp

@[simp] theorem prios_leapHeard (sat : Nat) (a : LeapAnn) : (s.leapHeard sat a).prios = s.prios := by simp [State.leapHeard]

/-! #### EbndOps: the shared operations of EBND -/

@[simp] theorem prios_setEbnd (e : Ebnd) : (s.setEbnd e).prios = s.prios := by simp [State.setEbnd]
@[simp] theorem prios_svcTo (st : Nat) : (s.svcTo st).prios = s.prios := by simp [State.svcTo]
@[simp] theorem prios_svcEval (tick : Bool) : (s.svcEval tick).prios = s.prios := by simp [State.svcEval]
@[simp] theorem prios_classEval : s.classEval.prios = s.prios := by simp [State.classEval]
@[simp] theorem prios_ebndPublish : s.ebndPublish.prios = s.prios := by simp [State.ebndPublish]
@[simp] theorem prios_boundEdges : s.boundEdges.prios = s.prios := by simp [State.boundEdges]
@[simp] theorem prios_unkEdge : s.unkEdge.prios = s.prios := by simp [State.unkEdge]
@[simp] theorem prios_termsMissing (l : List Nat) : (s.termsMissing l).prios = s.prios := by simp [State.termsMissing]
@[simp] theorem prios_ebndCfgs : s.ebndCfgs.prios = s.prios := by simp [State.ebndCfgs]
@[simp] theorem prios_ebndTick (missing : List Nat) : (s.ebndTick missing).prios = s.prios := by simp [State.ebndTick]

/-! #### RoleOps: RDN's gates -/

@[simp] theorem prios_setRdn (r : Rdn) : (s.setRdn r).prios = s.prios := by simp [State.setRdn]
@[simp] theorem prios_showRdn : s.showRdn.prios = s.prios := by simp [State.showRdn]
@[simp] theorem prios_roleTo (r : Nat) : (s.roleTo r).prios = s.prios := by simp [State.roleTo]

/-! #### PktOps: the shared operations of PKT -/

@[simp] theorem prios_pc (i : Nat) : (s.pc i).prios = s.prios := by simp [State.pc]
@[simp] theorem prios_showPort (p : Nat) : (s.showPort p).prios = s.prios := by simp [State.showPort]
@[simp] theorem prios_hostFrame : s.hostFrame.prios = s.prios := by simp [State.hostFrame]
@[simp] theorem prios_txDone : s.txDone.prios = s.prios := by simp [State.txDone]
@[simp] theorem prios_setReqs (l : List Req) : (s.setReqs l).prios = s.prios := by simp [State.setReqs]
@[simp] theorem prios_dropReq (id : Nat) : (s.dropReq id).prios = s.prios := by simp [State.dropReq]
@[simp] theorem prios_setReady (l : List Item) : (s.setReady l).prios = s.prios := by simp [State.setReady]
@[simp] theorem prios_addReady (i : Item) : (s.addReady i).prios = s.prios := by simp [State.addReady]
@[simp] theorem prios_addJob (j : AuthJob) : (s.addJob j).prios = s.prios := by simp [State.addJob]
@[simp] theorem prios_addReq (r : Req) : (s.addReq r).prios = s.prios := by simp [State.addReq]

@[simp] theorem prios_anonDecide (k : Key) (t : Nat) : (s.anonDecide k t).1.prios = s.prios := by
  simp [State.anonDecide, apply_ite Prod.fst]

@[simp] theorem prios_kissOfDeath (r : Req) (prio : Nat) : (s.kissOfDeath r prio).prios = s.prios := by simp [State.kissOfDeath]

@[simp] theorem prios_countGrants (l : List SigTlv) : (s.countGrants l).prios = s.prios :=
  prios_foldl (fun s t => by cases t <;> simp) l s

@[simp] theorem prios_grantCommit (key : Key) (n gen type record port : Nat) : (s.grantCommit key n gen type record port).prios = s.prios := by
  simp [State.grantCommit]

@[simp] theorem prios_applyGrants (r : Req) (d : Grantd) (port : Nat) (l : List SigTlv) : (s.applyGrants r d port l).prios = s.prios :=
  prios_foldl (fun s t => by cases t <;> simp) l s

@[simp] theorem prios_voidGrants (g : Nat) : (s.voidGrants g).1.prios = s.prios := by
  simp [State.voidGrants]

@[simp] theorem prios_ptpPost (g : Nat) (old : State) : (ptpPost g old s).prios = s.prios := by simp [ptpPost]

@[simp] theorem prios_makeReady (r : Req) : (s.makeReady r).prios = s.prios := by
  simp only [State.makeReady]
  split
  · simp
  · split <;> simp

@[simp] theorem prios_failReq (r : Req) (counter : Nat) : (s.failReq r counter).prios = s.prios := by simp [State.failReq]

@[simp] theorem prios_resolve (id : Nat) (f : Req → State → State) (hf : ∀ r t, (f r t).prios = t.prios) : (s.resolve id f).prios = s.prios := by
  unfold State.resolve
  split
  · rfl
  dsimp only
  split
  · rfl
  split
  · simp [hf]
  split <;> simp [hf]

@[simp] theorem prios_jobGranted (id : Nat) : (s.jobGranted id).prios = s.prios := by simp [State.jobGranted]

@[simp] theorem prios_decisionIn (r : Req) (d : Decision) (f : Req → State → State) (hf : ∀ r t, (f r t).prios = t.prios) :
    (s.decisionIn r d f).prios = s.prios := by
  cases d <;> simp [State.decisionIn, hf]

@[simp] theorem prios_showTx (p t kind : Nat) (spec : Bool) : (s.showTx p t kind spec).prios = s.prios := by simp [State.showTx]
@[simp] theorem prios_showConfirmed (p t kind : Nat) : (s.showConfirmed p t kind).prios = s.prios := by simp [State.showConfirmed]

@[simp] theorem prios_unshow (x : Slot) : (s.unshow x).prios = s.prios := by
  simp only [State.unshow]
  split
  · split <;> simp
  · rfl

@[simp] theorem prios_setSlots (l : List Slot) : (s.setSlots l).prios = s.prios := by simp [State.setSlots]
@[simp] theorem prios_modSlot (id : Nat) (f : Slot → Slot) : (s.modSlot id f).prios = s.prios := by simp [State.modSlot]
@[simp] theorem prios_dropSlot (id : Nat) : (s.dropSlot id).prios = s.prios := by simp [State.dropSlot]
@[simp] theorem prios_hostDrop : s.hostDrop.prios = s.prios := by simp [State.hostDrop]

@[simp] theorem prios_seqNext (src : Source) : (s.seqNext src).prios = s.prios := by
  unfold State.seqNext
  split <;> simp

@[simp] theorem prios_takeRoom (p pos octets : Nat) : (s.takeRoom p pos octets).prios = s.prios := by simp [State.takeRoom]

@[simp] theorem prios_place (it : Item) (c : Content) (spec inter tag : Bool) (bound pos stamp : Nat) (locked fall : Bool) :
    (s.place it c spec inter tag bound pos stamp locked fall).prios = s.prios := by
  simp [State.place]

theorem prios_offer_gone {s t : State} {it : Item} {pl : Option ConvoyPlan} (h : s.offer it pl = .gone t) : t.prios = s.prios := by
  unfold State.offer at h
  split at h
  · split at h <;> (cases h; simp)
  · split at h
    · cases h
    · dsimp only at h
      split at h
      · cases h; simp
      · split at h
        · cases h; simp
        · split at h
          · cases h
          · split at h <;> cases h

theorem prios_offer_took {s t : State} {it : Item} {pl : Option ConvoyPlan} (h : s.offer it pl = .took t) : t.prios = s.prios := by
  unfold State.offer at h
  split at h
  · cases h
  · split at h
    · cases h
    · dsimp only at h
      split at h
      · cases h
      · split at h
        · cases h
        · split at h
          · cases h
          · split at h
            · cases h
            · cases h; simp

@[simp] theorem prios_fillConvoy (pl : Option ConvoyPlan) (l : List Item) : (s.fillConvoy pl l).1.prios = s.prios := by
  induction l generalizing s with
  | nil => rfl
  | cons it l ih =>
    rw [State.fillConvoy]
    split
    · rw [ih, prios_offer_gone ‹_›]
    · rw [ih, prios_offer_took ‹_›]
    · exact ih s

@[simp] theorem prios_closePort (plans : List ConvoyPlan) (p : Nat) : (s.closePort plans p).prios = s.prios := by
  simp [State.closePort]

@[simp] theorem prios_commitSlot (x : Slot) (tx kind : Nat) : (s.commitSlot x tx kind).prios = s.prios := by
  simp only [State.commitSlot]
  split
  · split
    · rfl
    · split <;> simp
  · rfl

@[simp] theorem prios_countFall (x : Slot) : (s.countFall x).prios = s.prios := by simp [State.countFall]

@[simp] theorem prios_plainSent (x : Slot) (t : Option Nat) : (s.plainSent x t).prios = s.prios := by
  simp only [State.plainSent]
  split
  · split
    · split <;> simp
    split
    · split
      · split <;> simp
      · split <;> simp
    · split <;> simp
  · split <;> simp
  · split <;> simp
  · split <;> simp
  · split <;> simp
  · split <;> simp
  · split
    · simp
    · rfl

@[simp] theorem prios_loseSlot (x : Slot) : (s.loseSlot x).prios = s.prios := by
  unfold State.loseSlot
  split <;> simp

@[simp] theorem prios_portLost (p : Nat) : (s.portLost p).prios = s.prios := by simp [State.portLost]
@[simp] theorem prios_missSlot (x : Slot) : (s.missSlot x).prios = s.prios := by simp [State.missSlot]
@[simp] theorem prios_withdraw (x : Slot) : (s.withdraw x).prios = s.prios := by simp [State.withdraw]
@[simp] theorem prios_withdrawAll (l : List Slot) : (s.withdrawAll l).prios = s.prios := by simp [State.withdrawAll]
@[simp] theorem prios_withdrawOld : s.withdrawOld.prios = s.prios := by simp [State.withdrawOld]
@[simp] theorem prios_stepDrop : s.stepDrop.prios = s.prios := by simp [State.stepDrop]
@[simp] theorem prios_stopService : s.stopService.prios = s.prios := by simp [State.stopService]
@[simp] theorem prios_arpRound (g : Nat) : (s.arpRound g).prios = s.prios := by simp [State.arpRound]
@[simp] theorem prios_firstAnnounce (g type : Nat) : (s.firstAnnounce g type).prios = s.prios := by simp [State.firstAnnounce]
@[simp] theorem prios_setSlave (g : Nat) (v : Slave) : (s.setSlave g v).prios = s.prios := by simp [State.setSlave]
@[simp] theorem prios_slvTo (g st : Nat) : (s.slvTo g st).prios = s.prios := by simp [State.slvTo]
@[simp] theorem prios_slvListen (g : Nat) : (s.slvListen g).prios = s.prios := by simp [State.slvListen]
@[simp] theorem prios_slavePost (g : Nat) (old : State) : (slavePost g old s).prios = s.prios := by simp [slavePost]
@[simp] theorem prios_slavesOn : s.slavesOn.prios = s.prios := by simp [State.slavesOn]
@[simp] theorem prios_pktPost (old : State) : (pktPost old s).prios = s.prios := by simp [pktPost]

@[simp] theorem prios_clearGrants (k : Nat) : (s.clearGrants k).1.prios = s.prios := by
  simp [State.clearGrants, apply_ite Prod.fst]

@[simp] theorem prios_applyCfg (j : CfgJob) : (s.applyCfg j).prios = s.prios := by
  unfold State.applyCfg
  split <;> simp

@[simp] theorem prios_applyCfgs : s.applyCfgs.prios = s.prios := by simp [State.applyCfgs]

@[simp] theorem prios_slvTake (g id : Nat) : (s.slvTake g id).prios = s.prios := by
  simp only [State.slvTake]
  split
  · rfl
  · split <;> simp

@[simp] theorem prios_slvAnnounce (g id : Nat) (a : Announce) : (s.slvAnnounce g id a).prios = s.prios := by simp [State.slvAnnounce]

@[simp] theorem prios_slvDelay (g seq rx : Nat) : (s.slvDelay g seq rx).prios = s.prios := by
  simp only [State.slvDelay]
  split
  · simp
  · rfl

@[simp] theorem prios_slvGranted (g : Nat) : (s.slvGranted g).prios = s.prios := by simp [State.slvGranted]
@[simp] theorem prios_slavesTick : s.slavesTick.prios = s.prios := by simp [State.slavesTick]
@[simp] theorem prios_slvGrants (g : Nat) (l : List SigTlv) : (s.slvGrants g l).prios = s.prios := by simp [State.slvGrants]

@[simp] theorem prios_masterTlv (g : Nat) (m : PtpMsg) : (s.masterTlv g m).prios = s.prios := by
  unfold State.masterTlv
  split <;> simp

@[simp] theorem prios_slaveIn (g addr : Nat) (m : PtpMsg) (rx : Option Nat) : (s.slaveIn g addr m rx).prios = s.prios := by
  simp only [State.slaveIn]
  split
  · simp
  · simp
  · split <;> simp
  · split <;> simp
  · simp
  · simp

@[simp] theorem prios_slaveInput (r : Req) : (slaveInput r s).prios = s.prios := by
  unfold slaveInput
  split <;> simp

/-! #### LaneOps: the lanes' states and detectors -/

@[simp] theorem prios_meterSet (n : Nat) (rx b : Bool) : (s.meterSet n rx b).prios = s.prios := by simp [State.meterSet]
@[simp] theorem prios_meterOff (n : Nat) (rx : Bool) : (s.meterOff n rx).prios = s.prios := by simp [State.meterOff]
@[simp] theorem prios_laneTo (n st : Nat) : (s.laneTo n st).prios = s.prios := by simp [State.laneTo]
@[simp] theorem prios_laneDown (n st : Nat) : (s.laneDown n st).prios = s.prios := by simp [State.laneDown]
@[simp] theorem prios_unalign (n : Nat) : (s.unalign n).prios = s.prios := by simp [State.unalign]
@[simp] theorem prios_cdrOff (n : Nat) : (s.cdrOff n).prios = s.prios := by simp [State.cdrOff]
@[simp] theorem prios_rxOff (n : Nat) : (s.rxOff n).prios = s.prios := by simp [State.rxOff]
@[simp] theorem prios_txOff (n : Nat) : (s.txOff n).prios = s.prios := by simp [State.txOff]
@[simp] theorem prios_laneStart (n : Nat) : (s.laneStart n).prios = s.prios := by simp [State.laneStart]
@[simp] theorem prios_laneOff (n : Nat) : (s.laneOff n).prios = s.prios := by simp [State.laneOff]
@[simp] theorem prios_laneStep (n : Nat) : (s.laneStep n).prios = s.prios := by simp [State.laneStep]
@[simp] theorem prios_laneAdvance (n : Nat) : (s.laneAdvance n).prios = s.prios := by simp [State.laneAdvance]
@[simp] theorem prios_showTxLat : s.showTxLat.prios = s.prios := by simp [State.showTxLat]
@[simp] theorem prios_lanesOn : s.lanesOn.prios = s.prios := by simp [State.lanesOn]
@[simp] theorem prios_lanePost (n : Nat) (old : State) : (lanePost n old s).prios = s.prios := by simp [lanePost]
@[simp] theorem prios_portClear (p : Nat) : (s.portClear p).prios = s.prios := by simp [State.portClear]
@[simp] theorem prios_modeSet (v : Nat) : (s.modeSet v).prios = s.prios := by simp [State.modeSet]

@[simp] theorem prios_detLost (n d : Nat) : (s.detLost n d).prios = s.prios := by
  unfold State.detLost
  split <;> simp

@[simp] theorem prios_detBack (n d : Nat) (arrivals : List Nat) : (s.detBack n d arrivals).prios = s.prios := by simp [State.detBack]
@[simp] theorem prios_setFill (n v : Nat) : (s.setFill n v).prios = s.prios := by simp [State.setFill]
@[simp] theorem prios_frameCut (p : Nat) : (s.frameCut p).prios = s.prios := by simp [State.frameCut]
@[simp] theorem prios_displace (n pos : Nat) (d : Int) : (s.displace n pos d).prios = s.prios := by simp [State.displace]

/-! #### RdnOps: RDN's claims -/

@[simp] theorem prios_rdnStart : s.rdnStart.prios = s.prios := by simp [State.rdnStart]
@[simp] theorem prios_dual (seen : Bool) (claim flags : Nat) : (s.dual seen claim flags).prios = s.prios := by simp [State.dual]
@[simp] theorem prios_claimIn (f : Nat) : (s.claimIn f).prios = s.prios := by simp [State.claimIn]
@[simp] theorem prios_storeClaim : s.storeClaim.prios = s.prios := by simp [State.storeClaim]
@[simp] theorem prios_setHo (h : Option Handover) : (s.setHo h).prios = s.prios := by simp [State.setHo]
@[simp] theorem prios_showH (h : Nat) : (s.showH h).prios = s.prios := by simp [State.showH]
@[simp] theorem prios_release : s.release.prios = s.prios := by simp [State.release]
@[simp] theorem prios_autoRelease : s.autoRelease.prios = s.prios := by simp [State.autoRelease]
@[simp] theorem prios_hoFail (why : Nat) : (s.hoFail why).prios = s.prios := by simp [State.hoFail]
@[simp] theorem prios_abandon (why : Nat) : (s.abandon why).prios = s.prios := by simp [State.abandon]
@[simp] theorem prios_leaveAtH (x : Handover) : (s.leaveAtH x).prios = s.prios := by simp [State.leaveAtH]
@[simp] theorem prios_enterAtH (h : Nat) (planned : Bool) : (s.enterAtH h planned).prios = s.prios := by simp [State.enterAtH]
@[simp] theorem prios_atH (x : Handover) : (s.atH x).prios = s.prios := by simp [State.atH]
@[simp] theorem prios_takeRole : s.takeRole.prios = s.prios := by simp [State.takeRole]
@[simp] theorem prios_denied : s.denied.prios = s.prios := by simp [State.denied]
@[simp] theorem prios_grantIn (g : Nat) : (s.grantIn g).prios = s.prios := by simp [State.grantIn]
@[simp] theorem prios_setDrover (i : Nat) (d : Drover) : (s.setDrover i d).prios = s.prios := by simp [State.setDrover]

@[simp] theorem prios_stampWords (t : Option Nat) : (s.stampWords t).2.prios = s.prios := by
  cases t <;> simp [State.stampWords]

@[simp] theorem prios_beat (i pos : Nat) : (s.beat i pos).prios = s.prios := by simp [State.beat]
@[simp] theorem prios_hoCheck (hb : Heartbeat) : (s.hoCheck hb).prios = s.prios := by simp [State.hoCheck]

@[simp] theorem prios_hoHear (hb : Heartbeat) : (s.hoHear hb).prios = s.prios := by
  simp only [State.hoHear]
  split <;> simp

@[simp] theorem prios_beatIn (i : Nat) (hb : Heartbeat) (m : MeterPoint) : (s.beatIn i hb m).prios = s.prios := by simp [State.beatIn]

@[simp] theorem prios_mirrorIn (k : Key) (type record : Nat) : (s.mirrorIn k type record).prios = s.prios := by
  unfold State.mirrorIn
  split <;> simp

@[simp] theorem prios_arbTo (st : Nat) : (s.arbTo st).prios = s.prios := by simp [State.arbTo]
@[simp] theorem prios_arbWithdraw (u : Nat) : (s.arbWithdraw u).prios = s.prios := by simp [State.arbWithdraw]
@[simp] theorem prios_arbPulse (u : Nat) : (s.arbPulse u).prios = s.prios := by simp [State.arbPulse]

/-! #### FcolOps: FCOL -/

@[simp] theorem prios_setFcol (f : Fcol) : (s.setFcol f).prios = s.prios := by simp [State.setFcol]
@[simp] theorem prios_setLedger (l : Ledger) : (s.setLedger l).prios = s.prios := by simp [State.setLedger]
@[simp] theorem prios_setDom (d : Nat) (x : Dom) : (s.setDom d x).prios = s.prios := by simp [State.setDom]

@[simp] theorem prios_domainHit (d c : Nat) : (s.domainHit d c).prios = s.prios := by
  simp only [State.domainHit]
  split <;> simp

@[simp] theorem prios_recCount (c : Nat) : (s.recCount c).prios = s.prios := by simp [State.recCount]
@[simp] theorem prios_recover (d : Nat) : (s.recover d).prios = s.prios := by simp [State.recover]

@[simp] theorem prios_quietEnd (d : Nat) : (s.quietEnd d).prios = s.prios := by
  simp only [State.quietEnd]
  split <;> simp

@[simp] theorem prios_clearDomains (m : Nat) : (s.clearDomains m).prios = s.prios := by simp [State.clearDomains]
@[simp] theorem prios_showFcol : s.showFcol.prios = s.prios := by simp [State.showFcol]
@[simp] theorem prios_fcolPost (old : State) : (fcolPost old s).prios = s.prios := by simp [fcolPost]
@[simp] theorem prios_critPin : s.critPin.prios = s.prios := by simp [State.critPin]
@[simp] theorem prios_crit : s.crit.prios = s.prios := by simp [State.crit]

@[simp] theorem prios_latchClear : s.latchClear.1.prios = s.prios := by
  simp [State.latchClear, apply_ite Prod.fst]

@[simp] theorem prios_ledgerTake (num : Nat) (ws : List Word) (priv : Bool) : (s.ledgerTake num ws priv).prios = s.prios := by simp [State.ledgerTake]
@[simp] theorem prios_showLedger : s.showLedger.prios = s.prios := by simp [State.showLedger]

@[simp] theorem prios_ledgerWrite (good : Bool) : (s.ledgerWrite good).prios = s.prios := by
  unfold State.ledgerWrite
  split <;> simp

@[simp] theorem prios_ledgerSummary : s.ledgerSummary.prios = s.prios := by simp [State.ledgerSummary]
@[simp] theorem prios_ledgerScan (k : Nat) : (s.ledgerScan k).prios = s.prios := by simp [State.ledgerScan]
@[simp] theorem prios_countClass (c : Nat) : (s.countClass c).prios = s.prios := by simp [State.countClass]
@[simp] theorem prios_firstError (num : Nat) (ws : List Word) : (s.firstError num ws).prios = s.prios := by simp [State.firstError]
@[simp] theorem prios_logMsg (num : Nat) (ws : List Word) : (s.logMsg num ws).prios = s.prios := by simp [State.logMsg]
@[simp] theorem prios_handle (m : FMsg) : (s.handle m).prios = s.prios := by simp [State.handle]
@[simp] theorem prios_fcolStart : s.fcolStart.prios = s.prios := by simp [State.fcolStart]
@[simp] theorem prios_fcolTick : s.fcolTick.prios = s.prios := by simp [State.fcolTick]
@[simp] theorem prios_dumpEnd : s.dumpEnd.prios = s.prios := by simp [State.dumpEnd]

@[simp] theorem prios_dumpStep (d : LdgDump) : (s.dumpStep d).prios = s.prios := by
  simp only [State.dumpStep]
  split
  · simp
  · split <;> simp

/-! #### Gnss: the commands of GNSS -/

@[simp] theorem priosOf_gnssEvent (c : Bool) (f : State → State) :
    priosOf (gnssEvent c s f) = some (if s.gnssRuns && c then (f s).prios else s.prios) := by
  simp [gnssEvent, apply_ite some]

@[simp] theorem priosOf_execGnssEpoch (t : Nat) (obs : List GnssObs) (fix : Option GnssFix) : priosOf (execGnssEpoch t obs fix s) = some s.prios := by
  unfold execGnssEpoch
  split <;> simp

@[simp] theorem priosOf_execGnssElasticSlip (fill : Nat) : priosOf (execGnssElasticSlip fill s) = some s.prios := by simp [execGnssElasticSlip]

@[simp] theorem priosOf_execGnssPortClockLoss (portB : Bool) : priosOf (execGnssPortClockLoss portB s) = some s.prios := by
  simp [execGnssPortClockLoss]

@[simp] theorem priosOf_execGnssPortClockReturn (portB : Bool) (ephAge almAge : Nat) :
    priosOf (execGnssPortClockReturn portB ephAge almAge s) = some s.prios := by
  simp [execGnssPortClockReturn]

@[simp] theorem priosOf_execPrnSearchDone (x : AcqCell) : priosOf (execPrnSearchDone x s) = some s.prios := by simp [execPrnSearchDone]
@[simp] theorem priosOf_execGnssChannelLock (c : Nat) : priosOf (execGnssChannelLock c s) = some s.prios := by simp [execGnssChannelLock]
@[simp] theorem priosOf_execGnssNavSync (c : Nat) : priosOf (execGnssNavSync c s) = some s.prios := by simp [execGnssNavSync]
@[simp] theorem priosOf_execGnssPullinTimeout (c : Nat) : priosOf (execGnssPullinTimeout c s) = some s.prios := by simp [execGnssPullinTimeout]
@[simp] theorem priosOf_execGnssLossOfLock (c : Nat) : priosOf (execGnssLossOfLock c s) = some s.prios := by simp [execGnssLossOfLock]
@[simp] theorem priosOf_execGnssReacqTimeout (c : Nat) : priosOf (execGnssReacqTimeout c s) = some s.prios := by simp [execGnssReacqTimeout]

@[simp] theorem priosOf_execSignalBHandover (c : Nat) (locked : Bool) : priosOf (execSignalBHandover c locked s) = some s.prios := by
  simp [execSignalBHandover]

@[simp] theorem priosOf_execSignalBLoss (c : Nat) : priosOf (execSignalBLoss c s) = some s.prios := by simp [execSignalBLoss]

@[simp] theorem priosOf_execGnssSpectrum (band : Nat) (pre : List Nat) (post : Nat) (lines : List SpecLine) :
    priosOf (execGnssSpectrum band pre post lines s) = some s.prios := by
  simp [execGnssSpectrum]

@[simp] theorem priosOf_execNavUnitDecoded (c : Nat) (sigB : Bool) (words : List Word) (leap : Option LeapAnn) :
    priosOf (execNavUnitDecoded c sigB words leap s) = some s.prios := by
  unfold execNavUnitDecoded
  split <;> simp

@[simp] theorem priosOf_execSurveyComplete (x y z : Int) : priosOf (execSurveyComplete x y z s) = some s.prios := by simp [execSurveyComplete]

@[simp] theorem priosOf_execNfcalComplete (a b : Word) : priosOf (execNfcalComplete a b s) = some s.prios := by
  unfold execNfcalComplete
  split <;> simp

@[simp] theorem priosOf_execGnssCfg : priosOf (execGnssCfg h ps s) = some s.prios := by simp [execGnssCfg]
@[simp] theorem priosOf_execGnssAcquire : priosOf (execGnssAcquire h ps s) = some s.prios := by simp [execGnssAcquire]

@[simp] theorem prios_acqDrop (status : Status) : (s.acqDrop status).prios = s.prios := by
  simp only [State.acqDrop]
  split
  · rfl
  · split <;> simp

@[simp] theorem prios_acqStop : s.acqStop.prios = s.prios := by simp [State.acqStop]
@[simp] theorem priosOf_execGnssAcqstop : priosOf (execGnssAcqstop h ps s) = some s.prios := by simp [execGnssAcqstop]
@[simp] theorem priosOf_execGnssPoscfg : priosOf (execGnssPoscfg h ps s) = some s.prios := by simp [execGnssPoscfg]
@[simp] theorem priosOf_execGnssObsread : priosOf (execGnssObsread h ps s) = some s.prios := by simp [execGnssObsread]
@[simp] theorem priosOf_execGnssNavread : priosOf (execGnssNavread h ps s) = some s.prios := by simp [execGnssNavread]
@[simp] theorem priosOf_execGnssNfcal : priosOf (execGnssNfcal h ps s) = some s.prios := by simp [execGnssNfcal]
@[simp] theorem priosOf_execGnssNotchcfg : priosOf (execGnssNotchcfg h ps s) = some s.prios := by simp [execGnssNotchcfg]
@[simp] theorem priosOf_execGnssReport : priosOf (execGnssReport h ps s) = some s.prios := by simp [execGnssReport]

/-! #### Tic: the commands of TIC -/

@[simp] theorem priosOf_execTicEdge (ch : Nat) (rise : Bool) (tick c : Nat) : priosOf (execTicEdge ch rise tick c s) = some s.prios := by
  simp [execTicEdge]

@[simp] theorem priosOf_execTicStopDecide (u : Nat) : priosOf (execTicStopDecide u s) = some s.prios := by simp [execTicStopDecide]
@[simp] theorem priosOf_execTicGateClose (u : Nat) : priosOf (execTicGateClose u s) = some s.prios := by simp [execTicGateClose]
@[simp] theorem priosOf_execStatrunTimeout (u : Nat) : priosOf (execStatrunTimeout u s) = some s.prios := by simp [execStatrunTimeout]
@[simp] theorem priosOf_execTicCalTempTrigger (tj : Int) : priosOf (execTicCalTempTrigger tj s) = some s.prios := by simp [execTicCalTempTrigger]

@[simp] theorem priosOf_execTicCalComplete (hits again : List (List Nat)) : priosOf (execTicCalComplete hits again s) = some s.prios := by
  simp only [execTicCalComplete]
  split
  · split <;> simp
  · simp

@[simp] theorem priosOf_execTicCalSwap : priosOf (execTicCalSwap s) = some s.prios := by simp [execTicCalSwap]
@[simp] theorem prios_xtalSecond : s.xtalSecond.prios = s.prios := by simp [State.xtalSecond]
@[simp] theorem priosOf_execXtalWitness (y : Int) : priosOf (execXtalWitness y s) = some s.prios := by simp [execXtalWitness]
@[simp] theorem prios_shiftXtal (d : Int) : (s.shiftXtal d).prios = s.prios := by simp [State.shiftXtal]
@[simp] theorem priosOf_execXtalTrim : priosOf (execXtalTrim s) = some s.prios := by simp [execXtalTrim]
@[simp] theorem priosOf_execTicCfg : priosOf (execTicCfg h ps s) = some s.prios := by simp [execTicCfg]
@[simp] theorem priosOf_execTicChcfg : priosOf (execTicChcfg h ps s) = some s.prios := by simp [execTicChcfg]
@[simp] theorem prios_measPost (u : Nat) (old : State) : (measPost u old s).prios = s.prios := by simp [measPost]
@[simp] theorem priosOf_execTicMeascfg : priosOf (execTicMeascfg h ps s) = some s.prios := by simp [execTicMeascfg]
@[simp] theorem priosOf_execTicStatrun : priosOf (execTicStatrun h ps s) = some s.prios := by simp [execTicStatrun]
@[simp] theorem priosOf_execTicStatstop : priosOf (execTicStatstop h ps s) = some s.prios := by simp [execTicStatstop]

/-- `change` unfolds one round of the loop: the equation that Lean derives for it is slow to check. -/
@[simp] theorem prios_ticRead (n k : Nat) : (State.ticRead n k s).1.prios = s.prios := by
  induction k generalizing s with
  | zero => rfl
  | succ k ih =>
    change (if (s.ticCh n).fifo.isEmpty then (s, []) else _ : State × List Word).1.prios = s.prios
    split
    · rfl
    split
    next t p hpop =>
    split
    next u w hread =>
    split
    next v r hrec =>
    calc v.prios = u.prios := by rw [← ih u, hrec]
      _ = t.prios := by rw [← prios_mgmtRead t, hread]
      _ = s.prios := by rw [← prios_ticPop s n, hpop]

@[simp] theorem priosOf_execTicStampread : priosOf (execTicStampread h ps s) = some s.prios := by simp [execTicStampread]
@[simp] theorem priosOf_execTicCalrun : priosOf (execTicCalrun h ps s) = some s.prios := by simp [execTicCalrun]
@[simp] theorem priosOf_execTicCalreport : priosOf (execTicCalreport h ps s) = some s.prios := by simp [execTicCalreport]
@[simp] theorem priosOf_execTicXtalreport : priosOf (execTicXtalreport h ps s) = some s.prios := by simp [execTicXtalreport]

/-! #### MgmtOps: MGMT -/

@[simp] theorem prios_endLong (t : Taken) (status : Status) : (s.endLong t status).prios = s.prios := by
  simp only [State.endLong]
  split
  · split <;> simp
  split
  · simp
  split
  · split <;> simp
  split
  · split <;> simp
  split
  · simp
  split
  · split <;> simp
  · simp

@[simp] theorem prios_giveUp : (s.giveUp h).prios = s.prios := by simp [State.giveUp]
@[simp] theorem prios_interrupt (t : Taken) : (s.interrupt t).prios = s.prios := by simp [State.interrupt]

theorem prios_cancel {s u : State} {t : Taken} (h : s.cancel t = some u) : u.prios = s.prios := by
  unfold State.cancel at h
  split at h
  · split at h
    · cases h; simp
    · split at h
      · cases h
      · split at h
        · cases h; simp
        · cases h; simp
  · split at h
    · cases h
    · cases h; simp

@[simp] theorem prios_failUnavail : s.failUnavail.prios = s.prios := by simp [State.failUnavail]

@[simp] theorem prios_audit : s.audit.prios = s.prios := by
  simp only [State.audit]
  split <;> simp

/-! #### Fcol: the commands of FCOL -/

@[simp] theorem priosOf_whenFcol (ok : Bool) (f : State → State) :
    priosOf (whenFcol ok s f) = some (if s.fcol.running && ok then (f s).prios else s.prios) := by
  simp [whenFcol, apply_ite some]

@[simp] theorem priosOf_execFaultMessage (i : Nat) : priosOf (execFaultMessage i s) = some s.prios := by
  unfold execFaultMessage
  split <;> simp

@[simp] theorem priosOf_execQuietExpiry (d : Nat) : priosOf (execQuietExpiry d s) = some s.prios := by simp [execQuietExpiry]
@[simp] theorem priosOf_execCritPulseExpiry : priosOf (execCritPulseExpiry s) = some s.prios := by simp [execCritPulseExpiry]

@[simp] theorem prios_fenceWork (m : Nat) (wbs : List (Nat × Nat)) : (s.fenceWork m wbs).prios = s.prios := by
  unfold State.fenceWork
  split
  · exact prios_foldl (fun s p => by split <;> simp) wbs s
  · simp

@[simp] theorem priosOf_execMasterStall (m case : Nat) (wbs : List (Nat × Nat)) : priosOf (execMasterStall m case wbs s) = some s.prios := by
  unfold execMasterStall
  split <;> simp

@[simp] theorem priosOf_execFenceForcedRelease (isl : Nat) : priosOf (execFenceForcedRelease isl s) = some s.prios := by simp [execFenceForcedRelease]
@[simp] theorem priosOf_execLedgerWrite (good : Bool) : priosOf (execLedgerWrite good s) = some s.prios := by simp [execLedgerWrite]
@[simp] theorem priosOf_execLedgerSummary : priosOf (execLedgerSummary s) = some s.prios := by simp [execLedgerSummary]
@[simp] theorem prios_domclrWrite (v : Nat) : (s.domclrWrite v).prios = s.prios := by simp [State.domclrWrite]
@[simp] theorem priosOf_execFcolDomclrWrite (v : Nat) : priosOf (execFcolDomclrWrite v s) = some s.prios := by simp [execFcolDomclrWrite]
@[simp] theorem prios_critWrite (v : Nat) : (s.critWrite v).prios = s.prios := by simp [State.critWrite]
@[simp] theorem priosOf_execFcolCritLatchClear (v : Nat) : priosOf (execFcolCritLatchClear v s) = some s.prios := by simp [execFcolCritLatchClear]

@[simp] theorem priosOf_execLedgerDumpRecord : priosOf (execLedgerDumpRecord s) = some s.prios := by
  unfold execLedgerDumpRecord
  split <;> simp

@[simp] theorem priosOf_execFcolCfg : priosOf (execFcolCfg h ps s) = some s.prios := by simp [execFcolCfg]
@[simp] theorem priosOf_execFcolFirstread : priosOf (execFcolFirstread h ps s) = some s.prios := by simp [execFcolFirstread]
@[simp] theorem priosOf_execFcolAck : priosOf (execFcolAck h ps s) = some s.prios := by simp [execFcolAck]
@[simp] theorem priosOf_execFcolLogread : priosOf (execFcolLogread h ps s) = some s.prios := by simp [execFcolLogread]
@[simp] theorem priosOf_execFcolClear : priosOf (execFcolClear h ps s) = some s.prios := by simp [execFcolClear]
@[simp] theorem priosOf_execFcolCountreport : priosOf (execFcolCountreport h ps s) = some s.prios := by simp [execFcolCountreport]
@[simp] theorem priosOf_execFcolLedgerdump : priosOf (execFcolLedgerdump h ps s) = some s.prios := by simp [execFcolLedgerdump]
@[simp] theorem priosOf_execFcolLedgerreport : priosOf (execFcolLedgerreport h ps s) = some s.prios := by simp [execFcolLedgerreport]

/-! #### ClaimOps: claims and completions of INTC's two targets -/

@[simp] theorem prios_countSpur (mgmt : Bool) : (s.countSpur mgmt).prios = s.prios := by simp [State.countSpur]
@[simp] theorem prios_countCompErr (mgmt : Bool) : (s.countCompErr mgmt).prios = s.prios := by simp [State.countCompErr]
@[simp] theorem prios_showTarget (mgmt : Bool) : (s.showTarget mgmt).prios = s.prios := by simp [State.showTarget]
@[simp] theorem prios_showPend : s.showPend.prios = s.prios := by simp [State.showPend]
@[simp] theorem prios_clearPend (w v : Nat) : (s.clearPend w v).prios = s.prios := rfl

/-! #### HifOps: the shared operations of HIF -/

@[simp] theorem prios_reply (req : Nat) (ws : List Word) : (s.reply req ws).prios = s.prios := by simp [State.reply]

@[simp] theorem prios_cfgEnable (cfg prod cons : Field) (lo hi v : Nat) : (s.cfgEnable cfg prod cons lo hi v).prios = s.prios := by
  simp [State.cfgEnable]

@[simp] theorem prios_ringCfg (r v : Nat) : (s.ringCfg r v).prios = s.prios := by simp [State.ringCfg]
@[simp] theorem prios_queueCfg (q v : Nat) : (s.queueCfg q v).prios = s.prios := by simp [State.queueCfg]
@[simp] theorem prios_ringProd (r v : Nat) : (s.ringProd r v).prios = s.prios := by simp [State.ringProd]
@[simp] theorem prios_takeWords (ring slot : Nat) (ws : List Word) : (s.takeWords ring slot ws).prios = s.prios := by simp [State.takeWords]
@[simp] theorem prios_mailboxPut (ring slot : Nat) (ws : List Word) : (s.mailboxPut ring slot ws).prios = s.prios := by simp [State.mailboxPut]
@[simp] theorem prios_manifestWords (ring slot first n : Nat) : (s.manifestWords ring slot first n).2.prios = s.prios := (rfl)
@[simp] theorem prios_hostSend (f : HostFrame) : (s.hostSend f).prios = s.prios := by simp [State.hostSend]
@[simp] theorem prios_txFetch : s.txFetch.prios = s.prios := by simp [State.txFetch]
@[simp] theorem prios_queueProd (q v : Nat) (frames : List HostFrame) : (s.queueProd q v frames).prios = s.prios := by simp [State.queueProd]
@[simp] theorem prios_dmaStart (c : Nat) : (s.dmaStart c).prios = s.prios := by simp [State.dmaStart]
@[simp] theorem prios_dmaAbort (c : Nat) : (s.dmaAbort c).prios = s.prios := by simp [State.dmaAbort]
@[simp] theorem prios_dmaCtrl (c v : Nat) : (s.dmaCtrl c v).prios = s.prios := by simp [State.dmaCtrl]

theorem prios_of_intc {s t : State} (hh : t.intc.host = s.intc.host) (hm : t.intc.mgmt = s.intc.mgmt) : t.prios = s.prios := by
  rw [State.prios, State.prios, Intc.prios, hh, hm, Intc.prios]
@[simp] theorem prios_endpointReset : s.endpointReset.prios = s.prios := by
  unfold State.endpointReset
  rw [prios_setHif]
  refine (prios_of_intc (s := State.setB _ _ _) rfl rfl).trans ?_
  simp

@[simp] theorem prios_linkDown : s.linkDown.prios = s.prios := by simp [State.linkDown]

/-! #### Hold: the commands of HOLD -/

@[simp] theorem priosOf_execHoldSecond (aosc xtal : Option Int) (tj : Int) : priosOf (execHoldSecond aosc xtal tj s) = some s.prios := by
  simp [execHoldSecond]

@[simp] theorem priosOf_execHoldModelTrain : priosOf (execHoldModelTrain s) = some s.prios := by simp [execHoldModelTrain]
@[simp] theorem priosOf_execTrainage24h : priosOf (execTrainage24h s) = some s.prios := by simp [execTrainage24h]
@[simp] theorem priosOf_execAoscSteer : priosOf (execAoscSteer s) = some s.prios := by simp [execAoscSteer]

@[simp] theorem priosOf_execAoscSteerComp : priosOf (execAoscSteerComp s) = some s.prios := by
  unfold execAoscSteerComp
  split <;> simp

@[simp] theorem priosOf_execAoscAckReceive (byte : Nat) : priosOf (execAoscAckReceive byte s) = some s.prios := by simp [execAoscAckReceive]

@[simp] theorem priosOf_execAoscAckTimeout : priosOf (execAoscAckTimeout s) = some s.prios := by
  unfold execAoscAckTimeout
  split <;> simp

@[simp] theorem priosOf_execHoldContractExpiry : priosOf (execHoldContractExpiry s) = some s.prios := by simp [execHoldContractExpiry]
@[simp] theorem priosOf_execHoldCfg : priosOf (execHoldCfg h ps s) = some s.prios := by simp [execHoldCfg]

@[simp] theorem prios_slotRestart (n : Nat) : (s.slotRestart n).prios = s.prios := by
  simp only [State.slotRestart]
  split <;> simp

@[simp] theorem priosOf_execHoldMembercfg : priosOf (execHoldMembercfg h ps s) = some s.prios := by
  refine priosOf_runOp _ _ _ _ _ _ fun s => ?_
  dsimp only
  split
  · simp
  split
  · simp
  · refine prios_cfgOp _ _ _ _ _ _ fun t u => ?_
    simp only [prios_showSlot, prios_slotRestart]
    split <;> simp

@[simp] theorem priosOf_execHoldAosccfg : priosOf (execHoldAosccfg h ps s) = some s.prios := by simp [execHoldAosccfg]
@[simp] theorem prios_modelHead : s.modelHead.1.prios = s.prios := prios_mgmtReads _ _
@[simp] theorem priosOf_execHoldModelreport : priosOf (execHoldModelreport h ps s) = some s.prios := by simp [execHoldModelreport]

@[simp] theorem priosOf_execModelReportStep (ring slot : Nat) : priosOf (execModelReportStep ring slot s) = some s.prios := by
  unfold execModelReportStep
  split <;> simp

@[simp] theorem priosOf_execHoldRetrain : priosOf (execHoldRetrain h ps s) = some s.prios := by simp [execHoldRetrain]

/-! #### Pkt: the commands of PKT -/

@[simp] theorem priosOf_pktEvent (c : Bool) (f : State → State) :
    priosOf (pktEvent c s f) = some (if s.past 6 && s.seq.st ≠ .safe && c then (f s).prios else s.prios) := by
  simp [pktEvent, apply_ite some]

@[simp] theorem prios_acceptReq (p c : Nat) (f : Frame) (rx : Option Nat) : (s.acceptReq p c f rx).prios = s.prios := by simp [State.acceptReq]

@[simp] theorem priosOf_execFrameReceive (p : Nat) (f : Frame) (m : MeterPoint) (busy : Bool) :
    priosOf (execFrameReceive p f m busy s) = some s.prios := by
  unfold execFrameReceive
  rw [priosOf_pktEvent]
  split
  · split
    next t rx hrx =>
    have ht : t.prios = s.prios := by rw [← prios_rxMeasure s (s.rxLane p) m, hrx]
    split
    · simp [ht]
    split
    · simp [ht]
    dsimp only
    split <;> simp [ht]
  · rfl

@[simp] theorem priosOf_execCtabDecisionReturn (id : Nat) : priosOf (execCtabDecisionReturn id s) = some s.prios := by
  simp only [execCtabDecisionReturn]
  split
  · split <;> simp
  · simp

@[simp] theorem priosOf_execAuthVerdictReturn (id : Nat) : priosOf (execAuthVerdictReturn id s) = some s.prios := by
  simp only [execAuthVerdictReturn]
  split
  · split <;> simp
  · simp

@[simp] theorem priosOf_execRequestTimeout (id : Nat) : priosOf (execRequestTimeout id s) = some s.prios := by simp [execRequestTimeout]
@[simp] theorem priosOf_execConvoyClose (plans : List ConvoyPlan) : priosOf (execConvoyClose plans s) = some s.prios := by simp [execConvoyClose]

@[simp] theorem priosOf_execPcsDelimiterReport (id pos : Nat) : priosOf (execPcsDelimiterReport id pos s) = some s.prios := by
  unfold execPcsDelimiterReport
  split <;> simp

@[simp] theorem priosOf_execFcsRelease (id : Nat) : priosOf (execFcsRelease id s) = some s.prios := by
  unfold execFcsRelease
  split <;> simp

@[simp] theorem priosOf_execLockedSlotCommit (id pos : Nat) : priosOf (execLockedSlotCommit id pos s) = some s.prios := by
  unfold execLockedSlotCommit
  split
  · rfl
  · extract_lets p
    rw [priosOf_pktEvent]
    split
    · extract_lets t u stamp
      have hu : u.prios = s.prios := by simp [u, t]
      split
      · simp [hu]
      · split <;> simp [hu]
    · rfl

@[simp] theorem priosOf_execLockedSlotTimeout (id : Nat) : priosOf (execLockedSlotTimeout id s) = some s.prios := by
  unfold execLockedSlotTimeout
  split <;> simp

@[simp] theorem priosOf_execSpeculationTimeout (id : Nat) : priosOf (execSpeculationTimeout id s) = some s.prios := by
  unfold execSpeculationTimeout
  split <;> simp

@[simp] theorem priosOf_execMissSecond : priosOf (execMissSecond s) = some s.prios := by simp [execMissSecond]
@[simp] theorem prios_tagged (id : Nat) (t : Tag) : (s.tagged id t).prios = s.prios := by simp [State.tagged]

@[simp] theorem priosOf_execAuthTagJob : priosOf (execAuthTagJob s) = some s.prios := by
  unfold execAuthTagJob
  split
  · rfl
  · rw [priosOf_pktEvent]
    dsimp only
    rw [prios_mintsDue]
    split
    · split
      · simp
      · split
        · split <;> simp
        · simp
        · simp
    · rfl

@[simp] theorem priosOf_execAuthTagLate (id : Nat) : priosOf (execAuthTagLate id s) = some s.prios := by
  unfold execAuthTagLate
  split <;> simp

@[simp] theorem priosOf_execPtpScheduledMessage (g type : Nat) : priosOf (execPtpScheduledMessage g type s) = some s.prios := by
  simp [execPtpScheduledMessage]

@[simp] theorem priosOf_execGrantStreamMessage (n type : Nat) : priosOf (execGrantStreamMessage n type s) = some s.prios := by
  unfold execGrantStreamMessage
  split <;> simp

@[simp] theorem priosOf_execGrantExpiry (n type : Nat) : priosOf (execGrantExpiry n type s) = some s.prios := by simp [execGrantExpiry]

@[simp] theorem priosOf_execSlaveSyncMeasurement (g : Nat) : priosOf (execSlaveSyncMeasurement g s) = some s.prios := by
  simp only [execSlaveSyncMeasurement]
  split <;> simp

@[simp] theorem priosOf_execSlaveDelayReqSend (g : Nat) : priosOf (execSlaveDelayReqSend g s) = some s.prios := by simp [execSlaveDelayReqSend]
@[simp] theorem priosOf_execSlaveGrantRenew (g : Nat) : priosOf (execSlaveGrantRenew g s) = some s.prios := by simp [execSlaveGrantRenew]

@[simp] theorem priosOf_execSlaveAnnounceTimeout (g : Nat) : priosOf (execSlaveAnnounceTimeout g s) = some s.prios := by
  simp [execSlaveAnnounceTimeout]

@[simp] theorem priosOf_execSlaveSyncTimeout (g : Nat) : priosOf (execSlaveSyncTimeout g s) = some s.prios := by simp [execSlaveSyncTimeout]
@[simp] theorem priosOf_execSvcholdExpiry : priosOf (execSvcholdExpiry s) = some s.prios := by simp [execSvcholdExpiry]

@[simp] theorem prios_pktLater (given : Nat) (regs : List (Nat × Nat)) (act : CfgAct) : (s.pktLater h given regs act).prios = s.prios := by
  simp [State.pktLater]

@[simp] theorem priosOf_execPktCfg : priosOf (execPktCfg h ps s) = some s.prios := by simp [execPktCfg]
@[simp] theorem priosOf_execPktLimitcfg : priosOf (execPktLimitcfg h ps s) = some s.prios := by simp [execPktLimitcfg]
@[simp] theorem priosOf_execPktAddrcfg : priosOf (execPktAddrcfg h ps s) = some s.prios := by simp [execPktAddrcfg]
@[simp] theorem priosOf_execPktPortcfg : priosOf (execPktPortcfg h ps s) = some s.prios := by simp [execPktPortcfg]
@[simp] theorem priosOf_execPktPtpcfg : priosOf (execPktPtpcfg h ps s) = some s.prios := by simp [execPktPtpcfg]
@[simp] theorem priosOf_execPktSlavecfg : priosOf (execPktSlavecfg h ps s) = some s.prios := by simp [execPktSlavecfg]
@[simp] theorem priosOf_execPktRefidcfg : priosOf (execPktRefidcfg h ps s) = some s.prios := by simp [execPktRefidcfg]
@[simp] theorem priosOf_execPktCountreport : priosOf (execPktCountreport h ps s) = some s.prios := by simp [execPktCountreport]

@[simp] theorem prios_stampReads (l : List Nat) : (s.stampReads l).1.prios = s.prios := by
  induction l generalizing s with
  | nil => rfl
  | cons p l ih => simp [State.stampReads, ih]

@[simp] theorem priosOf_execPktStampreport : priosOf (execPktStampreport h ps s) = some s.prios := by simp [execPktStampreport]
@[simp] theorem priosOf_execPktSlavereport : priosOf (execPktSlavereport h ps s) = some s.prios := by simp [execPktSlavereport]
@[simp] theorem priosOf_execPktGrantclear : priosOf (execPktGrantclear h ps s) = some s.prios := by simp [execPktGrantclear]
@[simp] theorem priosOf_execPktSvcreport : priosOf (execPktSvcreport h ps s) = some s.prios := by simp [execPktSvcreport]

/-! #### Rmon: the commands of RMON and of the selector -/

@[simp] theorem priosOf_execRefEdge (n tick c : Nat) : priosOf (execRefEdge n tick c s) = some s.prios := by simp [execRefEdge]
@[simp] theorem priosOf_execRefActivityLoss (n : Nat) : priosOf (execRefActivityLoss n s) = some s.prios := by simp [execRefActivityLoss]
@[simp] theorem priosOf_execQualTimerExpiry (n : Nat) : priosOf (execQualTimerExpiry n s) = some s.prios := by simp [execQualTimerExpiry]
@[simp] theorem priosOf_execRmonSlopeFit : priosOf (execRmonSlopeFit s) = some s.prios := by simp [execRmonSlopeFit]
@[simp] theorem priosOf_execWitnessPhaseReturn : priosOf (execWitnessPhaseReturn s) = some s.prios := by simp [execWitnessPhaseReturn]
@[simp] theorem priosOf_execVoteExpiry : priosOf (execVoteExpiry s) = some s.prios := by simp [execVoteExpiry]
@[simp] theorem priosOf_execRmonRefcfg : priosOf (execRmonRefcfg h ps s) = some s.prios := by simp [execRmonRefcfg]
@[simp] theorem priosOf_execRmonStatus : priosOf (execRmonStatus h ps s) = some s.prios := by simp [execRmonStatus]
@[simp] theorem priosOf_execRmonRequal : priosOf (execRmonRequal h ps s) = some s.prios := by simp [execRmonRequal]
@[simp] theorem priosOf_execRmonHistory : priosOf (execRmonHistory h ps s) = some s.prios := by simp [execRmonHistory]
@[simp] theorem priosOf_execDpllSelect : priosOf (execDpllSelect h ps s) = some s.prios := by simp [execDpllSelect]
@[simp] theorem priosOf_execDpllResolve : priosOf (execDpllResolve h ps s) = some s.prios := by simp [execDpllResolve]
@[simp] theorem priosOf_execDpllSelreport : priosOf (execDpllSelreport h ps s) = some s.prios := by simp [execDpllSelreport]
@[simp] theorem prios_selmanWrite (v : Nat) : (s.selmanWrite v).prios = s.prios := by simp [State.selmanWrite]
@[simp] theorem priosOf_execDpllSelmanWrite (v : Nat) : priosOf (execDpllSelmanWrite v s) = some s.prios := by simp [execDpllSelmanWrite]

/-! #### Ctab: the commands of CTAB and of its memory -/

@[simp] theorem priosOf_ctabEvent (c : Bool) (f : State → State) :
    priosOf (ctabEvent c s f) = some (if s.ctabUp && c then (f s).prios else s.prios) := by
  simp [ctabEvent, apply_ite some]

@[simp] theorem priosOf_execLookupDecide (id : Nat) (held : Bool) : priosOf (execLookupDecide id held s) = some s.prios := by
  unfold execLookupDecide
  split <;> simp

@[simp] theorem priosOf_execCtabCommit (held : Bool) : priosOf (execCtabCommit held s) = some s.prios := by
  unfold execCtabCommit
  split <;> simp

@[simp] theorem priosOf_execLeaseRelease (n : Nat) : priosOf (execLeaseRelease n s) = some s.prios := by
  simp only [execLeaseRelease]
  split
  · simp
  · split <;> simp

@[simp] theorem priosOf_execLeaseExpiry (n : Nat) : priosOf (execLeaseExpiry n s) = some s.prios := by simp [execLeaseExpiry]
@[simp] theorem prios_eccUnc (a : Nat) : (s.eccUnc a).prios = s.prios := by simp [State.eccUnc]
@[simp] theorem priosOf_execLeaseReread (n : Nat) (ecc : Bool) : priosOf (execLeaseReread n ecc s) = some s.prios := by simp [execLeaseReread]
@[simp] theorem priosOf_execForcedRelease : priosOf (execForcedRelease s) = some s.prios := by simp [execForcedRelease]
@[simp] theorem priosOf_execPatrolScrub (n : Nat) : priosOf (execPatrolScrub n s) = some s.prios := by simp [execPatrolScrub]

@[simp] theorem priosOf_execEccUncorrectable (a : Nat) : priosOf (execEccUncorrectable a s) = some s.prios := by
  unfold execEccUncorrectable
  rw [priosOf_ctabEvent]
  split
  · extract_lets t u v
    have hu : u.prios = s.prios := by simp [u, t]
    have hv : v.prios = s.prios := by simp [v, hu]
    split
    · simp [hu]
    split
    · simp [hu]
    split
    · simp [hu]
    split
    · split <;> simp [hv]
    split
    · split <;> simp [hv]
    · simp [hv]
  · rfl

@[simp] theorem priosOf_execIndexRebuildDone : priosOf (execIndexRebuildDone s) = some s.prios := by simp [execIndexRebuildDone]
@[simp] theorem priosOf_execLoadRecordApply (held : Bool) : priosOf (execLoadRecordApply held s) = some s.prios := by simp [execLoadRecordApply]
@[simp] theorem priosOf_execSweepEntryVisit : priosOf (execSweepEntryVisit s) = some s.prios := by simp [execSweepEntryVisit]
@[simp] theorem priosOf_execDumpItemCopy : priosOf (execDumpItemCopy s) = some s.prios := by simp [execDumpItemCopy]
@[simp] theorem priosOf_execDqsTrack : priosOf (execDqsTrack s) = some s.prios := by simp [execDqsTrack]
@[simp] theorem priosOf_execZqRecal : priosOf (execZqRecal s) = some s.prios := by simp [execZqRecal]

@[simp] theorem priosOf_execMemoryDieTemperature (hot : Bool) : priosOf (execMemoryDieTemperature hot s) = some s.prios := by
  simp [execMemoryDieTemperature]

@[simp] theorem priosOf_execCtabCfg : priosOf (execCtabCfg h ps s) = some s.prios := by simp [execCtabCfg]
@[simp] theorem prios_startBulk (w0 kind count : Nat) (b : Bulk) : (startBulk w0 kind count b h s).prios = s.prios := by simp [startBulk]
@[simp] theorem priosOf_execCtabLoad : priosOf (execCtabLoad h ps s) = some s.prios := by simp [execCtabLoad]
@[simp] theorem priosOf_execCtabSweep : priosOf (execCtabSweep h ps s) = some s.prios := by simp [execCtabSweep]
@[simp] theorem priosOf_execCtabDump : priosOf (execCtabDump h ps s) = some s.prios := by simp [execCtabDump]
@[simp] theorem priosOf_execCtabEntryread : priosOf (execCtabEntryread h ps s) = some s.prios := by simp [execCtabEntryread]

@[simp] theorem priosOf_execCtabLookup : priosOf (execCtabLookup h ps s) = some s.prios := by
  refine priosOf_runOp _ _ _ _ _ _ fun s => ?_
  split
  · simp
  · split <;> simp

@[simp] theorem priosOf_execCtabMemreport : priosOf (execCtabMemreport h ps s) = some s.prios := by simp [execCtabMemreport]

/-! #### Lane: the commands of LANE and MTS -/

@[simp] theorem priosOf_onLane (n : Nat) (ok : State → Bool) (f : State → State) :
    priosOf (onLane n ok s f) = some (if s.laneRuns n && ok s then (f s).prios else s.prios) := by
  simp [onLane, apply_ite some]

@[simp] theorem priosOf_execLaneLoss (n det bad : Nat) : priosOf (execLaneLoss n det bad s) = some s.prios := by simp [execLaneLoss]

@[simp] theorem priosOf_execLaneDetectorRestore (n det bad : Nat) (arrivals : List Nat) :
    priosOf (execLaneDetectorRestore n det bad arrivals s) = some s.prios := by
  simp [execLaneDetectorRestore]

@[simp] theorem priosOf_execDeskewTimeout (p : Nat) : priosOf (execDeskewTimeout p s) = some s.prios := by simp [execDeskewTimeout]
@[simp] theorem priosOf_execPlinkBitSlip (n bad : Nat) : priosOf (execPlinkBitSlip n bad s) = some s.prios := by simp [execPlinkBitSlip]
@[simp] theorem priosOf_execPlinkLockTimeout (n : Nat) : priosOf (execPlinkLockTimeout n s) = some s.prios := by simp [execPlinkLockTimeout]

@[simp] theorem priosOf_execRateMatchEvent (n pos fill : Nat) (marker : Option Nat) :
    priosOf (execRateMatchEvent n pos fill marker s) = some s.prios := by
  simp [execRateMatchEvent]

@[simp] theorem priosOf_execRateMatchUnscheduled (n pos fill : Nat) (marker : Option Nat) :
    priosOf (execRateMatchUnscheduled n pos fill marker s) = some s.prios := by
  simp [execRateMatchUnscheduled]

@[simp] theorem priosOf_execMeterLock (n : Nat) (rx : Bool) (word time period resid : Nat) :
    priosOf (execMeterLock n rx word time period resid s) = some s.prios := by
  simp [execMeterLock]

@[simp] theorem priosOf_execMeterUnlock (n : Nat) (rx : Bool) (resid : Nat) : priosOf (execMeterUnlock n rx resid s) = some s.prios := by
  simp [execMeterUnlock]

@[simp] theorem priosOf_execFecSecond (n corr unc : Nat) : priosOf (execFecSecond n corr unc s) = some s.prios := by simp [execFecSecond]

@[simp] theorem priosOf_execLinkFaultOrderedSets (n : Nat) (loc remote : Bool) :
    priosOf (execLinkFaultOrderedSets n loc remote s) = some s.prios := by
  simp [execLinkFaultOrderedSets]

@[simp] theorem priosOf_execLaneModeset : priosOf (execLaneModeset h ps s) = some s.prios := by simp [execLaneModeset]
@[simp] theorem priosOf_execLaneLanecfg : priosOf (execLaneLanecfg h ps s) = some s.prios := by simp [execLaneLanecfg]
@[simp] theorem priosOf_execLaneRestart : priosOf (execLaneRestart h ps s) = some s.prios := by simp [execLaneRestart]
@[simp] theorem priosOf_execLaneReport : priosOf (execLaneReport h ps s) = some s.prios := by simp [execLaneReport]
@[simp] theorem priosOf_execMtsCfg : priosOf (execMtsCfg h ps s) = some s.prios := by simp [execMtsCfg]
@[simp] theorem priosOf_execMtsLanecfg : priosOf (execMtsLanecfg h ps s) = some s.prios := by simp [execMtsLanecfg]
@[simp] theorem priosOf_execMtsMeterreport : priosOf (execMtsMeterreport h ps s) = some s.prios := by simp [execMtsMeterreport]

/-! #### Mgmt: the operations of MGMT and its audit -/

@[simp] theorem priosOf_execMgmtEcho : priosOf (execMgmtEcho h ps s) = some s.prios := by simp [execMgmtEcho]
@[simp] theorem priosOf_execMgmtList : priosOf (execMgmtList h ps s) = some s.prios := by simp [execMgmtList]

@[simp] theorem priosOf_execMgmtCancel : priosOf (execMgmtCancel h ps s) = some s.prios := by
  refine priosOf_runOp _ _ _ _ _ _ fun s => ?_
  split
  · simp
  split
  · simp
  split
  · simp
  · rw [prios_done, prios_cancel ‹_›]

@[simp] theorem priosOf_execMgmtSuspend : priosOf (execMgmtSuspend h ps s) = some s.prios := by
  refine priosOf_runOp _ _ _ _ _ _ fun s => ?_
  split
  · simp
  · split <;> simp

@[simp] theorem priosOf_execMgmtResume : priosOf (execMgmtResume h ps s) = some s.prios := by
  refine priosOf_runOp _ _ _ _ _ _ fun s => ?_
  split
  · simp
  · split <;> simp

@[simp] theorem priosOf_execMgmtAuditreport : priosOf (execMgmtAuditreport h ps s) = some s.prios := by simp [execMgmtAuditreport]
@[simp] theorem priosOf_execMgmtVersion : priosOf (execMgmtVersion h ps s) = some s.prios := by simp [execMgmtVersion]
@[simp] theorem priosOf_execMgmtCountreport : priosOf (execMgmtCountreport h ps s) = some s.prios := by simp [execMgmtCountreport]

/-! #### Rdn: the commands of RDN -/

@[simp] theorem priosOf_whenPaired (c : Bool) (f : State → State) (hf : (f s).prios = s.prios) : priosOf (whenPaired c s f) = some s.prios := by
  simp [whenPaired, hf]

@[simp] theorem priosOf_whenArbiter (c : Bool) (f : State → State) (hf : (f s).prios = s.prios) : priosOf (whenArbiter c s f) = some s.prios := by
  simp [whenArbiter, hf]

@[simp] theorem priosOf_execClaimFrameSend : priosOf (execClaimFrameSend s) = some s.prios := by simp [execClaimFrameSend]

@[simp] theorem priosOf_execClaimFrameReceive (frame : Nat) : priosOf (execClaimFrameReceive frame s) = some s.prios := by
  simp [execClaimFrameReceive]

@[simp] theorem priosOf_execClaimSilence : priosOf (execClaimSilence s) = some s.prios := by simp [execClaimSilence]
@[simp] theorem priosOf_execArbGntDecode (g : Nat) : priosOf (execArbGntDecode g s) = some s.prios := by simp [execArbGntDecode]
@[simp] theorem priosOf_execHeartbeatSend (a b : Nat) : priosOf (execHeartbeatSend a b s) = some s.prios := by simp [execHeartbeatSend]

@[simp] theorem priosOf_execHeartbeatReceive (i : Nat) (hb : Heartbeat) (m : MeterPoint) :
    priosOf (execHeartbeatReceive i hb m s) = some s.prios := by
  simp [execHeartbeatReceive]

@[simp] theorem priosOf_execHeartbeatTimeout : priosOf (execHeartbeatTimeout s) = some s.prios := by simp [execHeartbeatTimeout]

@[simp] theorem priosOf_execGrantMirrorReceive (k : Key) (type record : Nat) : priosOf (execGrantMirrorReceive k type record s) = some s.prios := by
  simp [execGrantMirrorReceive]

@[simp] theorem priosOf_execArbReqPulseEnd : priosOf (execArbReqPulseEnd s) = some s.prios := by simp [execArbReqPulseEnd]

@[simp] theorem priosOf_execHandoverTime : priosOf (execHandoverTime s) = some s.prios := by
  unfold execHandoverTime
  split <;> simp

@[simp] theorem priosOf_execHandoverWithdraw (ended : Bool) : priosOf (execHandoverWithdraw ended s) = some s.prios := by simp [execHandoverWithdraw]
@[simp] theorem priosOf_execNetworkAnnounce : priosOf (execNetworkAnnounce s) = some s.prios := by simp [execNetworkAnnounce]
@[simp] theorem priosOf_execAutoReleaseBound : priosOf (execAutoReleaseBound s) = some s.prios := by simp [execAutoReleaseBound]

@[simp] theorem priosOf_execArbiterRequestChange (u ev : Nat) : priosOf (execArbiterRequestChange u ev s) = some s.prios := by
  simp [execArbiterRequestChange]

@[simp] theorem priosOf_execArbiterQualify (q0 q1 : Bool) : priosOf (execArbiterQualify q0 q1 s) = some s.prios := by simp [execArbiterQualify]
@[simp] theorem priosOf_execArbiterHandoverTimeout : priosOf (execArbiterHandoverTimeout s) = some s.prios := by simp [execArbiterHandoverTimeout]
@[simp] theorem priosOf_execRdnCfg : priosOf (execRdnCfg h ps s) = some s.prios := by simp [execRdnCfg]
@[simp] theorem priosOf_execRdnRelease : priosOf (execRdnRelease h ps s) = some s.prios := by simp [execRdnRelease]
@[simp] theorem priosOf_execRdnReport : priosOf (execRdnReport h ps s) = some s.prios := by simp [execRdnReport]

/-! #### SeqOps: starts -/

@[simp] theorem prios_setSeq (q : SeqBlk) : (s.setSeq q).prios = s.prios := by simp [State.setSeq]
@[simp] theorem prios_setPsu (p : Psu) : (s.setPsu p).prios = s.prios := by simp [State.setPsu]
@[simp] theorem prios_setAon (a : Aon) : (s.setAon a).prios = s.prios := by simp [State.setAon]
@[simp] theorem prios_setStore (t : Store) : (s.setStore t).prios = s.prios := by simp [State.setStore]
@[simp] theorem prios_loadImage (l : List (Nat × Word)) : (s.loadImage l).prios = s.prios := by simp [State.loadImage]
@[simp] theorem prios_putCkpt (c : Ckpt) : (s.putCkpt c).prios = s.prios := by simp [State.putCkpt]
@[simp] theorem prios_ckptBegin : s.ckptBegin.prios = s.prios := by simp [State.ckptBegin]
@[simp] theorem prios_requestCkpt (h : Option WbHead) : (s.requestCkpt h).prios = s.prios := by simp [State.requestCkpt]
@[simp] theorem prios_ckptTime (ms : Nat) : (s.ckptTime ms).prios = s.prios := by simp [State.ckptTime]
@[simp] theorem prios_showCkpt (valid : Bool) : (s.showCkpt valid).prios = s.prios := by simp [State.showCkpt]
@[simp] theorem prios_showFails : s.showFails.prios = s.prios := by simp [State.showFails]
@[simp] theorem prios_aonTake : s.aonTake.prios = s.prios := by simp [State.aonTake]
@[simp] theorem prios_beginStart : s.beginStart.prios = s.prios := by simp [State.beginStart]
@[simp] theorem prios_tryStart : s.tryStart.prios = s.prios := by simp [State.tryStart]

@[simp] theorem prios_countFail : s.countFail.prios = s.prios := by
  unfold State.countFail
  split <;> simp

@[simp] theorem prios_drain : s.drain.prios = s.prios := by simp [State.drain]
@[simp] theorem prios_failNow (supply : Bool) : (s.failNow supply).prios = s.prios := by simp [State.failNow]
@[simp] theorem prios_warn : s.warn.prios = s.prios := by simp [State.warn]
@[simp] theorem prios_showAon : s.showAon.prios = s.prios := by simp [State.showAon]
@[simp] theorem prios_showChg : s.showChg.prios = s.prios := by simp [State.showChg]

@[simp] theorem prios_saveStep : s.saveStep.prios = s.prios := by
  unfold State.saveStep
  split <;> simp

@[simp] theorem prios_decideKind (x : StepDone) : (s.decideKind x).prios = s.prios := by simp [State.decideKind]
@[simp] theorem prios_loadSaved : s.loadSaved.prios = s.prios := by simp [State.loadSaved]
@[simp] theorem prios_coldValues : s.coldValues.prios = s.prios := by simp [State.coldValues]
@[simp] theorem prios_warmValues (c : Ckpt) : (s.warmValues c).prios = s.prios := by simp [State.warmValues]

@[simp] theorem prios_intcStart : s.intcStart.prios = s.prios :=
  prios_foldl prios_raise _ _

@[simp] theorem prios_enterSafe : s.enterSafe.prios = s.prios := by simp [State.enterSafe]
@[simp] theorem prios_badCopies : s.badCopies.prios = s.prios := by simp [State.badCopies]

@[simp] theorem prios_loadStore : s.loadStore.prios = s.prios := by
  simp only [State.loadStore]
  split <;> simp

@[simp] theorem prios_firstViews : s.firstViews.prios = s.prios := by simp [State.firstViews]
@[simp] theorem prios_pllsBegin (aosc : Bool) : (s.pllsBegin aosc).prios = s.prios := by simp [State.pllsBegin]

@[simp] theorem prios_aonLoad (c : Ckpt) (t : Nat) : (s.aonLoad c t).prios = s.prios := by
  unfold State.aonLoad
  rw [prios_fault, prios_raise, prios_mk, intc_prios, prios_setB, prios_bholdNow, prios_setB, prios_setSat, prios_setHold, prios_mk, intc_prios,
    prios_set, prios_setPvalid, prios_set, prios_setB, prios_setTb]

@[simp] theorem prios_step6 (x : StepDone) : (s.step6 x).prios = s.prios := by
  simp only [State.step6]
  split <;> simp

@[simp] theorem prios_step7 (x : StepDone) : (s.step7 x).prios = s.prios := by
  simp only [State.step7]
  split <;> simp

/-! #### Seq: the commands of SEQ and PSU -/

@[simp] theorem priosOf_execVinWarningCrossing : priosOf (execVinWarningCrossing s) = some s.prios := by simp [execVinWarningCrossing]
@[simp] theorem priosOf_execVinRecovery : priosOf (execVinRecovery s) = some s.prios := by simp [execVinRecovery]
@[simp] theorem priosOf_execVinRiseStart : priosOf (execVinRiseStart s) = some s.prios := by simp [execVinRiseStart]
@[simp] theorem priosOf_execVinStable : priosOf (execVinStable s) = some s.prios := by simp [execVinStable]

@[simp] theorem priosOf_execVbatLow : priosOf (execVbatLow s) = some s.prios := by
  simp only [execVbatLow]
  split
  · split <;> simp
  · simp

@[simp] theorem priosOf_execVbatValid : priosOf (execVbatValid s) = some s.prios := by simp [execVbatValid]
@[simp] theorem priosOf_execRstNAssert : priosOf (execRstNAssert s) = some s.prios := by simp [execRstNAssert]
@[simp] theorem priosOf_execRstNRelease : priosOf (execRstNRelease s) = some s.prios := by simp [execRstNRelease]
@[simp] theorem priosOf_execRailFault : priosOf (execRailFault s) = some s.prios := by simp [execRailFault]
@[simp] theorem priosOf_execPowerStageOvertemp : priosOf (execPowerStageOvertemp s) = some s.prios := by simp [execPowerStageOvertemp]
@[simp] theorem priosOf_execRailExcursionEnd (temp : Bool) : priosOf (execRailExcursionEnd temp s) = some s.prios := by simp [execRailExcursionEnd]
@[simp] theorem prios_ckptFailed : (s.ckptFailed h).prios = s.prios := by simp [State.ckptFailed]
@[simp] theorem priosOf_execStartRetry : priosOf (execStartRetry s) = some s.prios := by simp [execStartRetry]

@[simp] theorem priosOf_execAonRingCheck (aosc xtal vbat : Bool) (t : Nat) : priosOf (execAonRingCheck aosc xtal vbat t s) = some s.prios := by
  simp [execAonRingCheck]

@[simp] theorem prios_requestReset (c : Nat) (cold : Bool) : (s.requestReset c cold).prios = s.prios := by simp [State.requestReset]
@[simp] theorem priosOf_execSeqRestart : priosOf (execSeqRestart h ps s) = some s.prios := by simp [execSeqRestart]
@[simp] theorem priosOf_execSeqCheckpoint : priosOf (execSeqCheckpoint h ps s) = some s.prios := by simp [execSeqCheckpoint]
@[simp] theorem prios_safeLeave : s.safeLeave.prios = s.prios := by simp [State.safeLeave]
@[simp] theorem priosOf_execSeqSafeclear : priosOf (execSeqSafeclear h ps s) = some s.prios := by simp [execSeqSafeclear]
@[simp] theorem priosOf_execSeqCfgsave : priosOf (execSeqCfgsave h ps s) = some s.prios := by simp [execSeqCfgsave]
@[simp] theorem priosOf_execMgmtAudit : priosOf (execMgmtAudit s) = some s.prios := by simp [execMgmtAudit]
@[simp] theorem priosOf_execSeqStartreport : priosOf (execSeqStartreport h ps s) = some s.prios := by simp [execSeqStartreport]
@[simp] theorem prios_psuSample : s.psuSample.prios = s.prios := by simp [State.psuSample]
@[simp] theorem priosOf_execPsuRead : priosOf (execPsuRead h ps s) = some s.prios := by simp [execPsuRead]
@[simp] theorem prios_showSeq : s.showSeq.prios = s.prios := by simp [State.showSeq]
@[simp] theorem prios_safeclrWrite (v : Nat) : (s.safeclrWrite v).prios = s.prios := by simp [State.safeclrWrite]
@[simp] theorem priosOf_execSeqSafeclrWrite (v : Nat) : priosOf (execSeqSafeclrWrite v s) = some s.prios := by simp [execSeqSafeclrWrite]

/-! #### BusOps: register reads and writes as the paths make them -/

@[simp] theorem prios_showEvt (n : Nat) : (s.showEvt n).prios = s.prios := by
  simp only [State.showEvt]
  split <;> simp

@[simp] theorem prios_showClk (n : Nat) : (s.showClk n).prios = s.prios := by simp [State.showClk]

@[simp] theorem prios_view (a : Nat) : (s.view a).prios = s.prios := by
  unfold State.view
  split <;> simp

@[simp] theorem prios_clearBits (a m : Nat) : (s.clearBits a m).prios = s.prios := by simp [State.clearBits]

@[simp] theorem prios_clearRc (a k : Nat) : (s.clearRc a k).prios = s.prios := by
  induction k generalizing s a with
  | zero => rfl
  | succ k ih => simp [State.clearRc, ih]

@[simp] theorem prios_timeRead (req a : Nat) : (s.timeRead req a).1.prios = s.prios := by
  simp [State.timeRead]

@[simp] theorem prios_plainRead (req a base : Nat) (r : RegRow) : (s.plainRead req a base r).1.prios = s.prios := by
  unfold State.plainRead
  split <;> simp

@[simp] theorem prios_writePost (base : Nat) (old : State) : (writePost base old s).prios = s.prios := by
  simp only [writePost]
  split
  · simp
  · split
    · simp
    split
    · split <;> simp
    · rfl
  · simp
  · simp
  · simp
  · simp
  · simp
  · simp
  · simp
  · rfl

@[simp] theorem prios_writeW1c (a v : Nat) : (s.writeW1c a v).prios = s.prios := by simp [State.writeW1c]
@[simp] theorem prios_writeRw (r : RegRow) (i base v : Nat) : (s.writeRw r i base v).prios = s.prios := by simp [State.writeRw]
@[simp] theorem prios_mcfgWrite (n v : Nat) : (s.mcfgWrite n v).prios = s.prios := by simp [State.mcfgWrite]

@[simp] theorem priosOf_pathWrite (req : Nat) (f : State → State) :
    priosOf (pathWrite req s f) = some (if s.pathUp req && s.mayWrite req then (f s).prios else s.prios) := by
  simp [pathWrite, apply_ite some]

/-! #### Bus: direct register accesses -/

@[simp] theorem priosOf_execHifQueueProdWrite (req q : Nat) (w : Word) (frames : List (Nat × Nat)) :
    priosOf (execHifQueueProdWrite req q w frames s) = some s.prios := by
  simp [execHifQueueProdWrite]

@[simp] theorem priosOf_execHifDmaStart (req c : Nat) : priosOf (execHifDmaStart req c s) = some s.prios := by simp [execHifDmaStart]
@[simp] theorem priosOf_execHifDmaAbort (req c : Nat) : priosOf (execHifDmaAbort req c s) = some s.prios := by simp [execHifDmaAbort]

/-! #### Ebnd: the commands of EBND -/

@[simp] theorem priosOf_execEbndAsyncRepublish : priosOf (execEbndAsyncRepublish s) = some s.prios := by simp [execEbndAsyncRepublish]
@[simp] theorem prios_ebndLater (given : Nat) (regs : List (Nat × Nat)) : (s.ebndLater h given regs).prios = s.prios := by simp [State.ebndLater]
@[simp] theorem priosOf_execEbndCfg : priosOf (execEbndCfg h ps s) = some s.prios := by simp [execEbndCfg]
@[simp] theorem priosOf_execEbndRefunccfg : priosOf (execEbndRefunccfg h ps s) = some s.prios := by simp [execEbndRefunccfg]
@[simp] theorem priosOf_execEbndReport : priosOf (execEbndReport h ps s) = some s.prios := by simp [execEbndReport]
@[simp] theorem priosOf_execEbndPortreport : priosOf (execEbndPortreport h ps s) = some s.prios := by simp [execEbndPortreport]
@[simp] theorem priosOf_execEbndHistory : priosOf (execEbndHistory h ps s) = some s.prios := by simp [execEbndHistory]

/-! #### Hif: the commands of HIF -/

@[simp] theorem priosOf_execWaybillTake (ring : Nat) (words : List Word) : priosOf (execWaybillTake ring words s) = some s.prios := by
  simp only [execWaybillTake]
  split
  · simp
  split
  · simp
  · split <;> simp

@[simp] theorem priosOf_execPcieLinkTrain (speed width : Nat) (busMaster msix : Bool) :
    priosOf (execPcieLinkTrain speed width busMaster msix s) = some s.prios := by
  simp [execPcieLinkTrain]

@[simp] theorem priosOf_execPcieReset (flr : Bool) : priosOf (execPcieReset flr s) = some s.prios := by simp [execPcieReset]
@[simp] theorem priosOf_execPcieLinkLoss (what : LinkEvent) : priosOf (execPcieLinkLoss what s) = some s.prios := by simp [execPcieLinkLoss]

@[simp] theorem priosOf_execDmaComplete (c data : Nat) (bad : Bool) : priosOf (execDmaComplete c data bad s) = some s.prios := by
  simp [execDmaComplete]

@[simp] theorem prios_spiReply (status : Nat) (data : List Word) : (s.spiReply status data).prios = s.prios := by simp [State.spiReply]
@[simp] theorem prios_spiBad (status : Nat) (n : Nat) : (s.spiBad status n).prios = s.prios := by simp [State.spiBad]
@[simp] theorem prios_spiOpen : s.spiOpen.prios = s.prios := by simp [State.spiOpen]
@[simp] theorem prios_spiLate (a n : Nat) : (s.spiLate a n).prios = s.prios := by simp [State.spiLate]
@[simp] theorem prios_spiWaybill (slot : Nat) (ws : List Word) : (s.spiWaybill slot ws).prios = s.prios := by simp [State.spiWaybill]
@[simp] theorem priosOf_execSpiFrameCut : priosOf (execSpiFrameCut s) = some s.prios := by simp [execSpiFrameCut]
@[simp] theorem prios_conLine (cs : List Nat) : (s.conLine cs).prios = s.prios := by simp [State.conLine]
@[simp] theorem prios_conOk : s.conOk.prios = s.prios := by simp [State.conOk]
@[simp] theorem prios_conNo : s.conNo.prios = s.prios := by simp [State.conNo]
@[simp] theorem prios_conWords (ws : List Word) : (s.conWords ws).prios = s.prios := by simp [State.conWords]
@[simp] theorem prios_conWaybill (ws : List Word) : (s.conWaybill ws).prios = s.prios := by simp [State.conWaybill]
@[simp] theorem prios_conManifest (first n : Nat) : (s.conManifest first n).prios = s.prios := by simp [State.conManifest]
@[simp] theorem priosOf_execHifCfg : priosOf (execHifCfg h ps s) = some s.prios := by simp [execHifCfg]
@[simp] theorem priosOf_execHifReport : priosOf (execHifReport h ps s) = some s.prios := by simp [execHifReport]

/-! #### Intc: the commands of INTC -/

@[simp] theorem priosOf_execIntcSourceEvent (src : Nat) : priosOf (execIntcSourceEvent src s) = some s.prios := by simp [execIntcSourceEvent]
@[simp] theorem priosOf_execMsixUnmask : priosOf (execMsixUnmask s) = some s.prios := priosOf_fin _
@[simp] theorem priosOf_execIntcSrccfg : priosOf (execIntcSrccfg h ps s) = some s.prios := by simp [execIntcSrccfg]
@[simp] theorem priosOf_execIntcReport : priosOf (execIntcReport h ps s) = some s.prios := by simp [execIntcReport]

/-! #### Steps: the millisecond of the time path -/

@[simp] theorem prios_jumped (d : Int) : (s.jumped d).prios = s.prios := by simp [State.jumped]
@[simp] theorem prios_loadMade (l : Load) : (s.loadMade l).prios = s.prios := by simp [State.loadMade]

@[simp] theorem prios_timeLoad (l : Load) : (s.timeLoad l).prios = s.prios := by
  unfold State.timeLoad
  split <;> simp

@[simp] theorem priosOf_execTimeLoad : priosOf (execTimeLoad s) = some s.prios := by
  unfold execTimeLoad
  split <;> simp

@[simp] theorem prios_stepAnnounce (a : AuthStep) : (s.stepAnnounce a).prios = s.prios := by simp [State.stepAnnounce]
@[simp] theorem prios_stepMake (wb : Option WbHead) (d : Int) : (s.stepMake wb d).prios = s.prios := by simp [State.stepMake]

@[simp] theorem prios_stepDue : s.stepDue.prios = s.prios := by
  unfold State.stepDue
  split <;> simp

@[simp] theorem priosOf_execDpllTick (miss : List Nat) : priosOf (execDpllTick miss s) = some s.prios := by simp [execDpllTick]

@[simp] theorem priosOf_execAuthstepApply : priosOf (execAuthstepApply s) = some s.prios := by
  simp only [execAuthstepApply]
  split
  · simp
  · split <;> simp

@[simp] theorem priosOf_execBeaconReceive (i cycles : Nat) : priosOf (execBeaconReceive i cycles s) = some s.prios := by simp [execBeaconReceive]
@[simp] theorem priosOf_execBeaconLoss (i : Nat) : priosOf (execBeaconLoss i s) = some s.prios := by simp [execBeaconLoss]

/-! #### Tbase: the commands of TBASE -/

@[simp] theorem priosOf_execTcoreTick : priosOf (execTcoreTick s) = some s.prios := by simp [execTcoreTick]
@[simp] theorem priosOf_execLeapApply : priosOf (execLeapApply s) = some s.prios := by simp [execLeapApply]
@[simp] theorem priosOf_execBeaconSend : priosOf (execBeaconSend s) = some s.prios := by simp [execBeaconSend]

@[simp] theorem priosOf_execStepBeaconApply (i : Nat) : priosOf (execStepBeaconApply i s) = some s.prios := by
  simp only [execStepBeaconApply]
  split <;> simp

@[simp] theorem priosOf_execPpsEdge : priosOf (execPpsEdge s) = some s.prios := by simp [execPpsEdge]

@[simp] theorem priosOf_execClkoutAlignCheck (n : Nat) (ps : Int) : priosOf (execClkoutAlignCheck n ps s) = some s.prios := by
  simp [execClkoutAlignCheck]

@[simp] theorem priosOf_execEvtArm (n : Nat) : priosOf (execEvtArm n s) = some s.prios := by simp [execEvtArm]
@[simp] theorem priosOf_execEvtEdge (n : Nat) : priosOf (execEvtEdge n s) = some s.prios := by simp [execEvtEdge]

@[simp] theorem priosOf_execCapEdge (n : Nat) (rise : Bool) (tick c : Nat) : priosOf (execCapEdge n rise tick c s) = some s.prios := by
  simp [execCapEdge]

@[simp] theorem priosOf_execSettimeEdgeTimeout : priosOf (execSettimeEdgeTimeout s) = some s.prios := by
  unfold execSettimeEdgeTimeout
  split <;> simp

@[simp] theorem priosOf_execTbaseSettime : priosOf (execTbaseSettime h ps s) = some s.prios := by simp [execTbaseSettime]
@[simp] theorem priosOf_execTbaseAuthstep : priosOf (execTbaseAuthstep h ps s) = some s.prios := by simp [execTbaseAuthstep]
@[simp] theorem priosOf_execTbaseLeapcfg : priosOf (execTbaseLeapcfg h ps s) = some s.prios := by simp [execTbaseLeapcfg]
@[simp] theorem priosOf_execTbaseEvtsched : priosOf (execTbaseEvtsched h ps s) = some s.prios := by simp [execTbaseEvtsched]
@[simp] theorem priosOf_execTbaseEvtcancel : priosOf (execTbaseEvtcancel h ps s) = some s.prios := by simp [execTbaseEvtcancel]

/-- `change` unfolds one round of the loop: the equation that Lean derives for it is slow to check. -/
@[simp] theorem prios_capRead (n k : Nat) : (State.capRead n k s).1.prios = s.prios := by
  induction k generalizing s with
  | zero => rfl
  | succ k ih =>
    change (if (s.cap n).fifo.isEmpty then (s, []) else _ : State × List Word).1.prios = s.prios
    split
    · rfl
    split
    next t p hpop =>
    split
    next u w hread =>
    split
    next v r hrec =>
    calc v.prios = u.prios := by rw [← ih u, hrec]
      _ = t.prios := by rw [← prios_mgmtRead t, hread]
      _ = s.prios := by rw [← prios_capPop s n, hpop]

@[simp] theorem priosOf_execTbaseCapread : priosOf (execTbaseCapread h ps s) = some s.prios := by simp [execTbaseCapread]
@[simp] theorem priosOf_execTbaseReport : priosOf (execTbaseReport h ps s) = some s.prios := by simp [execTbaseReport]
end

/-! ### Operations of waybills (Table 14-16) -/

/-- Whatever it answers, an operation leaves the stacks' priorities as they are. -/
def KeepsPrios (o : OpRow) : Prop := ∀ h ps s, priosOf (o.2 h ps s) = some s.prios

theorem keepsPrios_of_mem_opIndex : ∀ o ∈ opIndex, KeepsPrios o := by
  unfold opIndex
  repeat' refine List.forall_mem_append.mpr ⟨?_, ?_⟩
  · simp [opsSeq, KeepsPrios]
  · simp [opsPsu, KeepsPrios]
  · simp [opsRmon, KeepsPrios]
  · simp [opsDpll, KeepsPrios]
  · simp [opsHold, KeepsPrios]
  · simp [opsApll, KeepsPrios]
  · simp [opsTbase, KeepsPrios]
  · simp [opsTic, KeepsPrios]
  · simp [opsGnss, KeepsPrios]
  · simp [opsLane, KeepsPrios]
  · simp [opsMts, KeepsPrios]
  · simp [opsPkt, KeepsPrios]
  · simp [opsAuth, KeepsPrios]
  · simp [opsCtab, KeepsPrios]
  · simp [opsEbnd, KeepsPrios]
  · simp [opsMgmt, KeepsPrios]
  · simp [opsHif, KeepsPrios]
  · simp [opsIntc, KeepsPrios]
  · simp [opsFcol, KeepsPrios]
  · simp [opsRdn, KeepsPrios]

@[simp] theorem priosOf_execWaybillStart (ring slot : Nat) (s : State) : priosOf (execWaybillStart ring slot s) = some s.prios := by
  unfold execWaybillStart
  split
  · rfl
  split
  · rfl
  split
  · simp
  split
  next o ho => exact keepsPrios_of_mem_opIndex o (List.mem_of_find?_eq_some ho) _ _ s
  next => rfl

/-! ### Resets: the stacks are empty (R63, R69, R411) -/

@[simp] theorem prios_dieReset (s : State) (cause : Nat) (cold : Bool) : (s.dieReset cause cold).prios = ([], []) := rfl

@[simp] theorem prios_startFail (s : State) : s.startFail.prios = ([], []) := by simp [State.startFail]

@[simp] theorem prios_resetDie (s : State) (cause : Nat) (cold : Bool) : (s.resetDie cause cold).prios = ([], []) := prios_dieReset _ _ _

@[simp] theorem prios_rstReset (s : State) : s.rstReset.prios = ([], []) := by simp [State.rstReset]

@[simp] theorem prios_vinReset (s : State) : s.vinReset.prios = ([], []) := by simp [State.vinReset]

/-! ### Both stacks fall after every command -/

/-- Where an outcome is a next state, the priorities on both of its stacks fall. -/
def EndsFalling (r : Res) : Prop := ∀ p ∈ priosOf r, BothFall p

@[simp] theorem endsFalling_next (s : State) : EndsFalling (.next s) ↔ BothFall s.prios := by simp [EndsFalling]

@[simp] theorem endsFalling_fin (s : State) : EndsFalling (fin s) ↔ BothFall s.prios := by simp [EndsFalling]

theorem srcPrio_lt (s : State) (mgmt : Bool) (n : Nat) : s.srcPrio mgmt n < 16 := by
  cases mgmt
  · exact get_lt s (F.INTC_SRC_HCFG_PRIO n)
  · exact Nat.mod_lt _ (by decide)

theorem mem_of_bestOf {prio : Nat → Nat} {l : List Nat} {n : Nat} (hn : bestOf prio l = some n) : n ∈ l := by
  induction l with
  | nil => cases hn
  | cons m l ih =>
    unfold bestOf at hn
    split at hn
    · cases hn
      exact List.mem_cons_self
    next k hk =>
      split at hn
      · exact List.mem_cons_of_mem m (ih (hk.trans hn))
      · cases hn
        exact List.mem_cons_self

/-- R403: an eligible source's priority is above the present level of its target. -/
theorem head_lt_of_eligible {s : State} {mgmt : Bool} {t : Target} {n : Nat} (hn : s.eligible mgmt t = some n) :
    ∀ q ∈ t.prios.head?, q < s.srcPrio mgmt n := by
  obtain ⟨-, hsel⟩ := List.mem_filter.mp (mem_of_bestOf hn)
  obtain ⟨-, habove⟩ := Bool.and_eq_true_iff.mp hsel
  unfold Target.above at habove
  unfold Target.prios
  split at habove <;> simp_all

section
variable {s : State} (hs : BothFall s.prios)
include hs

/-! #### Claims and completions (R405 to R410) -/

theorem falling_target (mgmt : Bool) : Falling (s.target mgmt).prios := by
  obtain ⟨hhost, hmgmt⟩ := hs
  cases mgmt
  · exact hhost
  · exact hmgmt

theorem bothFall_setTarget {t : Target} (ht : Falling t.prios) (mgmt : Bool) : BothFall (s.setTarget mgmt t).prios := by
  obtain ⟨hhost, hmgmt⟩ := hs
  cases mgmt
  · exact ⟨ht, hmgmt⟩
  · exact ⟨hhost, ht⟩

/-- Only a source above the present level can be claimed, so a claim keeps the stack falling. -/
theorem bothFall_claim (mgmt : Bool) : BothFall (s.claim mgmt).1.prios := by
  unfold State.claim
  dsimp only
  split
  · exact hs
  next n hn =>
    refine bothFall_setTarget hs ?_ mgmt
    exact (falling_target hs mgmt).cons (srcPrio_lt s mgmt n) (head_lt_of_eligible hn)

theorem bothFall_rebuildStack (mgmt : Bool) (n top : Nat) : BothFall (s.rebuildStack mgmt n top).prios := by
  simp only [State.rebuildStack, prios_fault, prios_raise, prios_inc]
  refine bothFall_setTarget hs ?_ mgmt
  exact falling_nil

/-- A completion in order takes the top away, one out of order empties the stack (R406, R410). -/
theorem bothFall_complete (mgmt : Bool) (n : Nat) : BothFall (s.complete mgmt n).prios := by
  unfold State.complete
  extract_lets t
  split
  · exact hs
  split
  · rwa [prios_countCompErr]
  next e r hstack =>
    have hstk : Falling (e.prio :: r.map StackEnt.prio) := by simpa [t, Target.prios, hstack] using falling_target hs mgmt
    split
    · have hpop : BothFall (s.setTarget mgmt { t with stack := r }).prios := by
        refine bothFall_setTarget hs ?_ mgmt
        exact hstk.tail
      dsimp only
      split
      · rwa [prios_countSpur]
      · exact hpop
    split
    · have hempty := bothFall_rebuildStack hs mgmt n e.src
      dsimp only
      split
      · rwa [prios_countSpur]
      · exact hempty
    · rwa [prios_countCompErr]

/-! #### Register accesses -/

theorem bothFall_actRead {req a : Nat} {x : State × Word} (hx : s.actRead req a = some x) : BothFall x.1.prios := by
  unfold State.actRead at hx
  split at hx
  · cases hx
    simpa using hs
  split at hx
  · cases hx
    simpa using hs
  split at hx
  · cases hx
    exact bothFall_claim hs false
  split at hx
  · cases hx
    split
    · exact bothFall_claim hs true
    · exact hs
  · cases hx

theorem bothFall_busRead (req a : Nat) : BothFall (s.busRead req a).1.prios := by
  unfold State.busRead
  dsimp only
  split
  · simpa using hs
  split
  · exact hs
  split
  · simpa using hs
  split
  next hx => exact bothFall_actRead (by simpa using hs) hx
  next => simpa using hs

theorem bothFall_busReads (req a n : Nat) : BothFall (s.busReads req a n).1.prios := by
  induction n generalizing s a with
  | zero => exact hs
  | succ n ih => exact ih (bothFall_busRead hs req a) (a + 2)

omit hs in
theorem bothFall_mem_ite {p : Prop} [Decidable p] {a b : Option State} (ha : ∀ t ∈ a, BothFall t.prios) (hb : ∀ t ∈ b, BothFall t.prios) :
    ∀ t ∈ if p then a else b, BothFall t.prios := by
  split <;> assumption

/-- Of the writes that act, those to COMPLETE alone reach a stack. -/
theorem bothFall_actWrite (req a : Nat) (w : Word) : ∀ t ∈ s.actWrite req a w, BothFall t.prios := by
  unfold State.actWrite
  dsimp only
  repeat' refine bothFall_mem_ite ?_ ?_
  all_goals simp [hs, bothFall_complete hs, bothFall_ite]

theorem bothFall_regWrite (req a : Nat) (w : Word) (r : RegRow) (i : Nat) : BothFall (s.regWrite req a w r i).prios := by
  unfold State.regWrite
  dsimp only
  split
  · simpa using hs
  split
  next ht => exact bothFall_actWrite hs req a w _ ht
  next => simpa using hs

theorem bothFall_busWrite (req a : Nat) (w : Word) : BothFall (s.busWrite req a w).prios := by
  unfold State.busWrite
  dsimp only
  split
  · simpa using hs
  split
  · exact hs
  · exact bothFall_regWrite hs ..

theorem bothFall_busWrites (req a : Nat) (ws : List Word) : BothFall (s.busWrites req a ws).prios := by
  induction ws generalizing s a with
  | nil => exact hs
  | cons w ws ih => exact ih (bothFall_busWrite hs req a w) (a + 2)

theorem bothFall_keyWrites (req a : Nat) (ws : List Word) : BothFall (s.keyWrites req a ws).prios := by
  unfold State.keyWrites
  split
  · exact bothFall_busWrite hs ..
  · exact hs

theorem bothFall_pathWrites (req a : Nat) (ws : List Word) : BothFall (s.pathWrites req a ws).prios := by
  unfold State.pathWrites
  split
  · exact bothFall_busWrites hs ..
  · exact bothFall_keyWrites hs ..

theorem endsFalling_pathRead (req a : Nat) : EndsFalling (pathRead req a s) := by
  unfold pathRead
  split
  · simpa using bothFall_busRead hs req a
  · simpa using hs

theorem endsFalling_pathWrite (req a : Nat) (w : Word) : EndsFalling (pathWrite req s fun s => s.busWrite req a w) := by
  unfold pathWrite
  split
  · simpa using bothFall_busWrite hs req a w
  · simpa using hs

theorem endsFalling_execTbaseCapPop (req n : Nat) : EndsFalling (execTbaseCapPop req n s) := by
  unfold execTbaseCapPop
  split
  · exact endsFalling_pathRead hs req _
  · simpa using hs

theorem endsFalling_execTicChPop (req n : Nat) : EndsFalling (execTicChPop req n s) := by
  unfold execTicChPop
  split
  · exact endsFalling_pathRead hs req _
  · simpa using hs

theorem endsFalling_execHifRingDoorbell (req r : Nat) (w : Word) : EndsFalling (execHifRingDoorbell req r w s) := by
  unfold execHifRingDoorbell
  split
  · exact endsFalling_pathWrite hs req _ w
  · simpa using hs

theorem endsFalling_execHifRingEnable (req r : Nat) (w : Word) : EndsFalling (execHifRingEnable req r w s) := by
  unfold execHifRingEnable
  split
  · exact endsFalling_pathWrite hs req _ w
  · simpa using hs

theorem endsFalling_execRegisterWrite (req a : Nat) (w : Word) (how : BusWrite) : EndsFalling (execRegisterWrite req a w how s) := by
  unfold execRegisterWrite
  split
  · simpa using hs
  split
  · simpa using hs
  split
  · simpa using hs
  · simpa using bothFall_pathWrites hs req a [w]

/-! #### The SPI target and the console -/

theorem bothFall_spiWrite (a : Nat) (ws : List Word) : BothFall (s.spiWrite a ws).prios := by
  simpa [State.spiWrite] using bothFall_pathWrites hs 1 a ws

theorem bothFall_spiRun (op n a : Nat) (data : List Word) (late : Bool) : BothFall (s.spiRun op n a data late).prios := by
  unfold State.spiRun
  split
  · simpa using hs
  split
  · split
    · simpa using hs
    · simpa using bothFall_busReads hs 1 a n
  split
  · exact bothFall_spiWrite hs a data
  split
  · simpa using hs
  · simpa using hs

theorem endsFalling_execSpiFrame (ws : List Word) (late : Bool) : EndsFalling (execSpiFrame ws late s) := by
  unfold execSpiFrame
  split
  · simpa using hs
  extract_lets op n k a
  split
  · simpa using hs
  split
  · simpa using hs
  · simpa using bothFall_spiRun hs op n a _ late

theorem bothFall_conRead (a n : Nat) : BothFall (s.conRead a n).prios := by
  unfold State.conRead
  split
  · simpa using hs
  · simpa using bothFall_busReads hs 2 a n

theorem bothFall_conWrite (a : Nat) (ws : List Word) : BothFall (s.conWrite a ws).prios := by
  unfold State.conWrite
  split
  · simpa using hs
  · simpa using bothFall_pathWrites hs 2 a ws

theorem bothFall_conRun (line : List Nat) : BothFall (s.conRun line).prios := by
  unfold State.conRun
  split
  · split
    · exact bothFall_conRead hs ..
    · exact bothFall_conRead hs ..
    · simpa using hs
  · split
    · exact bothFall_conWrite hs ..
    · simpa using hs
  · split <;> simpa using hs
  · split <;> simpa using hs
  · simpa using hs

theorem endsFalling_execConsoleLine (line : List Nat) : EndsFalling (execConsoleLine line s) := by
  unfold execConsoleLine
  split
  · simpa using hs
  split
  · simpa using hs
  · simpa using bothFall_conRun hs line

/-! #### Starts and resets -/

theorem bothFall_deferReset : BothFall s.deferReset.prios := by
  unfold State.deferReset
  split
  · exact hs
  · simp [bothFall_nil]

theorem bothFall_ckptOver : BothFall s.ckptOver.prios := by
  unfold State.ckptOver
  split
  · simp [bothFall_nil]
  split
  · exact bothFall_deferReset hs
  · exact hs

theorem bothFall_step3 (x : StepDone) : BothFall (s.step3 x).prios := by
  unfold State.step3
  dsimp only
  split
  · simpa using hs
  · simp [bothFall_nil]

theorem bothFall_step5 (x : StepDone) : BothFall (s.step5 x).prios := by
  unfold State.step5
  dsimp only
  split
  · simpa using hs
  split
  · simpa using hs
  · simp [bothFall_nil]

theorem bothFall_stepDone (n : Nat) (x : StepDone) : BothFall (s.stepDone n x).prios := by
  unfold State.stepDone
  extract_lets t
  have ht : BothFall t.prios := by simpa [t] using hs
  split
  · exact ht
  split
  · simp [bothFall_nil]
  split
  · simpa using ht
  · simpa using ht
  · exact bothFall_step3 ht x
  · simpa using ht
  · have h5 := bothFall_step5 ht x
    split
    · simpa using h5
    · exact h5
  · split
    · simp [bothFall_nil]
    · simpa using ht
  · simpa using ht

theorem endsFalling_execVinResetCrossing : EndsFalling (execVinResetCrossing s) := by
  unfold execVinResetCrossing
  split <;> simp [hs, bothFall_nil]

theorem endsFalling_execRstNResetTimeout : EndsFalling (execRstNResetTimeout s) := by
  unfold execRstNResetTimeout
  split <;> simp [hs, bothFall_nil]

theorem endsFalling_execCheckpointComplete (ok : Bool) (us : Nat) : EndsFalling (execCheckpointComplete ok us s) := by
  unfold execCheckpointComplete
  dsimp only
  split
  · rw [endsFalling_fin]
    exact bothFall_ckptOver (by simpa using hs)
  · simpa using hs

theorem endsFalling_execStartStepComplete (n : Nat) (x : StepDone) : EndsFalling (execStartStepComplete n x s) := by
  unfold execStartStepComplete
  split
  · simpa using bothFall_stepDone hs n x
  · simpa using hs

theorem endsFalling_execStartStepTimeout : EndsFalling (execStartStepTimeout s) := by
  unfold execStartStepTimeout
  split <;> simp [hs, bothFall_nil]

theorem endsFalling_execDeferredReset : EndsFalling (execDeferredReset s) := by
  unfold execDeferredReset
  split
  · split
    · simpa using hs
    · simpa using bothFall_deferReset hs
  · simpa using hs

/-! #### Every command -/

/-- The commands that end a reset or reach a target's CLAIM or COMPLETE have lemmas of their own; every other one leaves the priorities as they are. -/
theorem endsFalling_exec (c : Instr) : EndsFalling (exec c s) := by
  unfold exec
  cases c with
  | vinResetCrossing => exact endsFalling_execVinResetCrossing hs
  | rstNResetTimeout => exact endsFalling_execRstNResetTimeout hs
  | checkpointComplete ok us => exact endsFalling_execCheckpointComplete hs ok us
  | startStepComplete n x => exact endsFalling_execStartStepComplete hs n x
  | startStepTimeout => exact endsFalling_execStartStepTimeout hs
  | deferredReset => exact endsFalling_execDeferredReset hs
  | lswLatchRead req a => exact endsFalling_pathRead hs req a
  | tbaseTimeRead req => exact endsFalling_pathRead hs req _
  | rcFieldRead req a => exact endsFalling_pathRead hs req a
  | tbaseCapPop req n => exact endsFalling_execTbaseCapPop hs req n
  | ticChPop req n => exact endsFalling_execTicChPop hs req n
  | intcClaim req mgmt => exact endsFalling_pathRead hs req _
  | intcComplete req mgmt w => exact endsFalling_pathWrite hs req _ w
  | hifRingDoorbell req r w => exact endsFalling_execHifRingDoorbell hs req r w
  | hifRingEnable req r w => exact endsFalling_execHifRingEnable hs req r w
  | registerWrite req a w how => exact endsFalling_execRegisterWrite hs req a w how
  | spiFrame ws late => exact endsFalling_execSpiFrame hs ws late
  | consoleLine line => exact endsFalling_execConsoleLine hs line
  | _ => simp [EndsFalling, hs]

end

theorem bothFall_of_step {s t : State} (hs : BothFall s.prios) (ht : step s = .next t) : BothFall t.prios := by
  unfold step at ht
  split at ht
  · cases ht
    exact hs
  next c r _ => exact (endsFalling_next t).mp (ht ▸ endsFalling_exec (s := { s with pending := r }) hs c)

/-- Settles O49: a claim puts only a priority above the level on a stack, a completion takes the top away or empties the stack, a reset of the die empties
both, and nothing else changes the priorities that stand there. -/
theorem nestedStacks : Obligations.NestedStacks := by
  intro s t hhost hmgmt ht
  have hfall : BothFall t.prios := bothFall_of_step ((bothFall_iff_nested s).mpr ⟨hhost, hmgmt⟩) ht
  obtain ⟨hnh, hnm⟩ := (bothFall_iff_nested t).mp hfall
  obtain ⟨hlh, hlm⟩ := hfall
  exact ⟨hnh, hnm, hlh.stack_length_le, hlm.stack_length_le⟩

end Sys2Proof.Machine
end
